-- ==== Sys2Proof/Word.lean ====
section
/-! DEFINITION. The words of the Sheet Link and of the descriptor sequence: one line each, nothing computed. -/

namespace Sys2Proof

/-- One byte of a frame on the Sheet Link (R165). -/
abbrev Byte := BitVec 8

/-- A SHEET sequence number, 0-255 with wrap-around (R22, R26). -/
abbrev Seq := BitVec 8

end Sys2Proof
end

