-- ==== Sys2Proof/Syntax.lean ====
section
/-! DEFINITION. The commands of the part: one constructor of `Instr` for each row of spec/opcode_table.json. A command is a record
taken from the Sheet Link, a byte or fault on that line, a sensor edge or a qualified sensor change, a poll of a tower, a timer
reaching its limit, a step one block offers another, or a reset. -/

namespace Sys2Proof

/-- The late windows the Path Monitor owns, by the sensor that is awaited (R44). -/
inductive PathWindow
  | s2 | sc | sr | se
  deriving DecidableEq, Repr

/-- The sensors with a stall timer (R45). -/
inductive StallSensor
  | s1 | s2 | se
  deriving DecidableEq, Repr

/-- The arrival sensors of a delivery-list entry: S0, or TEt of a tower, numbered here from 0 (R125). -/
inductive Target
  | s0
  | te (tower : Fin 4)
  deriving DecidableEq, Repr

/-- The two qualified inputs of a tower board other than its bin sensors (R119). -/
inductive TowerInput
  | power | door
  deriving DecidableEq, Repr

/-- The contents of a good poll reply (R118). Bit i of the two sample sets is the i-th of the tower's ten bins. The last three
fields say in which order the reply's parts are taken, where the manual lets either be first (R120) or does not say (log entry 13). -/
structure PollReply where
  presentCovered : BitVec 10
  fullCovered    : BitVec 10
  doorClosed     : Bool
  powerOn        : Bool
  teCovered      : Bool
  arrivals       : Fin 4
  arrivalsFirst  : Bool
  doorFirst      : Bool
  fullFirst      : Bool
  deriving DecidableEq, Repr

/-- One command, one constructor per row of spec/opcode_table.json. A record carries its tag (a SHEET its seq) and the body bytes
after those the row itself fixes (the table id of a TABLE WRITE, the subject of a QUERY, the code of a CONTROL). -/
inductive Instr
  -- resets and start-up
  | powerOn
  | resetnLow
  | startupComplete
  | startupTimerExpiry
  -- records of the Sheet Link
  | sheet (seq : Byte) (rest : List Byte)
  | jobOpen (tag : Byte) (rest : List Byte)
  | jobClose (tag : Byte) (rest : List Byte)
  | jobPurge (tag : Byte) (rest : List Byte)
  | mediaWrite (tag : Byte) (rest : List Byte)
  | timingWrite (tag : Byte) (rest : List Byte)
  | routeWrite (tag : Byte) (rest : List Byte)
  | binWrite (tag : Byte) (rest : List Byte)
  | towerWrite (tag : Byte) (rest : List Byte)
  | noticeWrite (tag : Byte) (rest : List Byte)
  | settingsWrite (tag : Byte) (rest : List Byte)
  | queryState (tag : Byte) (rest : List Byte)
  | queryQueue (tag : Byte) (rest : List Byte)
  | queryPath (tag : Byte) (rest : List Byte)
  | queryTiming (tag : Byte) (rest : List Byte)
  | queryCompiler (tag : Byte) (rest : List Byte)
  | queryDelivery (tag : Byte) (rest : List Byte)
  | queryRoute (tag : Byte) (rest : List Byte)
  | queryBin (tag : Byte) (rest : List Byte)
  | queryTower (tag : Byte) (rest : List Byte)
  | queryAttentionPeek (tag index : Byte) (extra : List Byte)
  | queryAttentionTake (tag index : Byte) (extra : List Byte)
  | queryJob (tag : Byte) (rest : List Byte)
  | queryMedia (tag : Byte) (rest : List Byte)
  | querySettings (tag : Byte) (rest : List Byte)
  | pause (tag : Byte) (extra : List Byte)
  | resume (tag : Byte) (extra : List Byte)
  | clearJam (tag : Byte) (extra : List Byte)
  | releaseHold (tag : Byte) (extra : List Byte)
  | towerReset (tag : Byte) (extra : List Byte)
  | standby (tag : Byte) (extra : List Byte)
  | wake (tag : Byte) (extra : List Byte)
  | reset (tag : Byte) (extra : List Byte)
  | unknownKind (kind tag : Byte) (rest : List Byte)
  -- the line itself
  | badFrame (byte : Byte) (stopLow : Bool)
  | interByteTimeout
  | transmitBegin
  | transmitDone
  -- the sheet path
  | s1LeadingEdge
  | s1TrailingEdge
  | s2LeadingEdge
  | s2TrailingEdge
  | scLeadingEdge
  | srLeadingEdge
  | seLeadingEdge
  | seTrailingEdge
  | s0Arrival
  | pathLateWindowExpiry (window : PathWindow)
  | deliveryWindowExpiry (target : Target)
  | stallTimerExpiry (sensor : StallSensor)
  | bufferRelease
  -- finishing and delivery
  | splitEjectStart
  | jogEnd
  | stapleHomeReturn
  | stapleHomeTimeout
  | ejectStart
  | shelfRelease
  | g0GateFree
  | holdTimerExpiry
  -- qualified sensors
  | binEmpty (bin : Fin 41)
  | binPresentCovered (bin : Fin 41)
  | binFullSensorCovered (bin : Fin 41)
  | binFullSensorClear (bin : Fin 41)
  | reReference (bin : Fin 41)
  | cartridgeInsertion
  | cartridgeRemoval
  | cartridgeEmptyCovered
  | cartridgeEmptyClear
  | rejectNearFullChange (covered : Bool)
  | rejectFullChange (covered : Bool)
  -- the tower chain
  | towerPollReply (tower : Fin 4) (reply : PollReply)
  | towerPollMissed (tower : Fin 4)
  | towerInputChange (tower : Fin 4) (input : TowerInput) (value : Bool)
  | enumerationReply
  | enumerationSlotTimeout
  -- timers of the Run Controller and the Feed Governor
  | spinUpEnd
  | idleTimerExpiry
  | standbyTimerExpiry
  | wakeTimerEnd
  | governorTimerExpiry
  -- the end of a held reset, and a received byte
  | resetEnd
  | receivedByte (byte : Byte)
  deriving DecidableEq, Repr

end Sys2Proof
end

