-- ==== Sys2Proof/Decode.lean ====
section
/-! DEFINITION. Words of the operations table. No row of it gives bits (log entry 31): the commands come as records, edges and timers, and
the bytes of a record are read in Machine/Operands.lean. -/

namespace Sys2Proof

/-- The command a word of the table spells: none, for the table gives no row any bits. -/
def decodeTableWord (_nbits _w : Nat) : Option Instr := none

end Sys2Proof
end

