-- ==== Sys2Proof/Config.lean ====
section
/-! DEFINITION. The constants the manual fixes, and the free values: constants without a body, so that nothing can be proved of
which value they have. -/

namespace Sys2Proof.Config

/-- Positions of the Descriptor Queue (R22). -/
def queueCapacity : Nat := 16
/-- Entries of the path list (R48). -/
def pathCapacity : Nat := 6
/-- Sheets the entry buffer holds (R48). -/
def bufferCapacity : Nat := 4
/-- Entries of the delivery list (R125). -/
def listCapacity : Nat := 3
/-- Records of the outbound queue (R173). -/
def outboundCapacity : Nat := 48
/-- Occupancy at which BACKLOG stands and notices are parked (R150, R159). -/
def backlogMark : Nat := 16
/-- Occupancy from which a REPLY or REFUSE is dropped (R174). -/
def answerMark : Nat := 24
/-- The compiler capacity, in tu (R65). -/
def compilerCapacity : Nat := 1000
/-- The staple limit, in tu (R65, R72). -/
def stapleLimit : Nat := 500
/-- The staple bulge, in tu (R15, R65). -/
def stapleBulge : Nat := 12
/-- Staples in a fresh cartridge (R78). -/
def freshCartridge : Nat := 5000
/-- The jog time, in ms (R65). -/
def jogTime : Nat := 150
/-- The home timer's limit, in ms (R76). -/
def homeTime : Nat := 600
/-- The fixed late limit of the compiler-to-SE window, in ms (R44). -/
def ejectLimit : Nat := 1000
/-- The length whose stall limit is the G0 gate time, in mm (R125). -/
def gateLength : Nat := 450
/-- The start-up timer's limit, in ms (R142). -/
def startupTime : Nat := 1500
/-- The spin-up time, in ms (R144). -/
def spinUpTime : Nat := 400
/-- The idle time, in ms (R145). -/
def idleTime : Nat := 2000
/-- The wake time, in ms (R147). -/
def wakeTime : Nat := 500
/-- The time a tower has to answer in enumeration, in ms (R117). -/
def slotTime : Nat := 200
/-- The number of missed polls at which a tower is lost (R118). -/
def lostPolls : Nat := 3
/-- The inter-byte limit, in ms: a frame is discarded when more than this passes (R166). -/
def interByteTime : Nat := 5

/-- FREE VALUE (log entry 9). What the stapler home sensor reads once the drive has been energised and the head has not been
seen home again. The argument counts the free values drawn. -/
opaque headHome : Nat → Bool

/-- FREE VALUE (log entry 8). Whether a covered SC, SR or S0 still reads covered at the next path tick: the operations table has
no trailing edge for these three sensors. -/
opaque stillCovered : Nat → Bool

/-- FREE VALUE (log entry 2). Which of several steps due at the same tick is taken first: the manual says either may be. -/
opaque pick : Nat → Nat

end Sys2Proof.Config
end

