-- ==== Sys2Proof/Machine/State.lean ====
section
/-! DEFINITION. Everything the manual gives the part, as plain data, block by block in the order of its chapters, and the state right
after reset. -/

namespace Sys2Proof.Machine

/-! ## Enumerated values (the names of R179 and of the tables that give the fields) -/

/-- The operating states, in the order of R141. -/
inductive OpState
  | starting | ready | standby | waking | running | paused | jam
  deriving DecidableEq, Repr

/-- The reset causes (R143). -/
inductive ResetCause
  | powerOn | resetLine | resetRecord
  deriving DecidableEq, Repr

/-- The states of a job slot (R1). -/
inductive JobState
  | free | opened | closed | purging
  deriving DecidableEq, Repr

/-- Staple patterns and finish overrides (R1, R23). -/
inductive Pattern
  | none | corner | edge2
  deriving DecidableEq, Repr

/-- Staple policies (R1). -/
inductive StaplePolicy
  | degrade | wait
  deriving DecidableEq, Repr

/-- Route policies (R86). -/
inductive RoutePolicy
  | fill | sequence
  deriving DecidableEq, Repr

/-- Unmatched policies (R87). -/
inductive Unmatched
  | report | quiet
  deriving DecidableEq, Repr

/-- Broken reasons of a set (R10). -/
inductive BrokenReason
  | sheetMissing | missingEnd | jobChange | ordinalSkip | countExceeded | countShort | length
  deriving DecidableEq, Repr

/-- Divert reasons of a set (R10, R17). -/
inductive DivertReason
  | noRoute | holdTimeout | released | broken | purged
  deriving DecidableEq, Repr

/-- Staple decisions (R10, R72). -/
inductive StapleDecision
  | staple | skip | wait | notRequested
  deriving DecidableEq, Repr

/-- Staple results (R10, R77). -/
inductive StapleResult
  | notRequested | stapled | partly | failed | skipped
  deriving DecidableEq, Repr

/-- Skip reasons (R10, R72). -/
inductive SkipReason
  | overLimit | media | noStaples | staplerFault | broken
  deriving DecidableEq, Repr

/-- The offset side of a set (R10). -/
inductive OffsetSide
  | none | left | right
  deriving DecidableEq, Repr

/-- The next offset side of a bin (R102). -/
inductive Side
  | left | right
  deriving DecidableEq, Repr

/-- Where a set is (R10). -/
inductive Place
  | path | compiler | shelf | list
  deriving DecidableEq, Repr

/-- The states of a set record in use (R10); a FREE record is an absent one. -/
inductive SetState
  | forming | gathering | compiling | stapling | stapleWait | readyToEject | held | onBelt
  deriving DecidableEq, Repr

/-- Orphan reasons, in the code order of R179. -/
inductive OrphanReason
  | noDescriptor | lostDescriptor | badDescriptor | jobNotOpen | noSet | noSetRecord | jobPurging
  deriving DecidableEq, Repr

/-- Stages of a path-list entry (R49). -/
inductive Stage
  | toS2 | onBuffer | toSC | toSR | arrived
  deriving DecidableEq, Repr

/-- Compiler states (R65). -/
inductive CompilerState
  | empty | collecting | finishing | stapling | stapleWait | ejecting | splitEject
  deriving DecidableEq, Repr

/-- Stapler states (R75). -/
inductive StaplerState
  | ready | stapling | empty | fault | noCartridge
  deriving DecidableEq, Repr

/-- Derived bin states (R103). -/
inductive BinState
  | offline | disabled | full | nearFull | available
  deriving DecidableEq, Repr

/-- Derived tower states (R119). -/
inductive TowerState
  | absent | unpowered | doorOpen | ready
  deriving DecidableEq, Repr

/-- Shelf states (R125). -/
inductive ShelfState
  | free | incoming | occupied
  deriving DecidableEq, Repr

/-- Positions of gate G0 (R125). -/
inductive G0Position
  | bin0 | belt
  deriving DecidableEq, Repr

/-- Positions of gate G1 (R32). -/
inductive G1Position
  | main | reject
  deriving DecidableEq, Repr

/-- The thirteen hold reasons, in the order of R150. -/
inductive Reason
  | starting | spinUp | wake | paused | jam | queue | buffer | sets | backlog | staples | rejectFull | overflowFull | governor
  deriving DecidableEq, Repr

/-- Jam kinds, in the code order of R179. -/
inductive JamKind
  | late | stall | unexpectedSheet | unexpectedSet | bufferOverflow | towerDoor | towerLost
  deriving DecidableEq, Repr

/-- The sensors a jam is reported at (R59, R179). -/
inductive Sensor
  | s1 | s2 | sc | sr | se | s0
  | te (tower : Fin 4)
  deriving DecidableEq, Repr

/-- Refusal reasons (R168). -/
inductive RefuseReason
  | badLength | unknownKind | fieldRange | state | slotBusy | duplicateJob | jobNotOpen | towerBusy
  deriving DecidableEq, Repr

/-- The 33 causes of the Notice Unit (chapter 9.2), class by class in code order. -/
inductive Cause
  | jam (kind : JamKind)
  | stapleFault | stapleInserted | stapleRemoved | stapleEmpty | stapleLow
  | binFull | binNearFull | binEmptied
  | towerPowerLost | towerPowerRestored | towerDoorOpened | towerDoorClosed | towerLost | towerResetDone
  | noRoute | held | expired
  | gap | resync | stale | overrun
  | jobComplete | jobPurged
  | linkFrame | replyLost | dispositionLost
  deriving DecidableEq, Repr

/-- Outcomes of a set (R17, R20). -/
inductive SetOutcome
  | delivered | diverted | lost | purged
  deriving DecidableEq, Repr

/-- A timer on the path tick: stopped, or running from its start tick. -/
abbrev Timer := Option Nat

/-- A timer that holds its own limit: a late window (R44) or a stall timer (R45). -/
structure Window where
  start : Nat
  limit : Nat
  deriving DecidableEq, Repr

/-- One qualified input (R109): the qualified state (none while unqualified; true is covered, fitted, on or closed), the sample
before, and the run count. -/
structure Qual where
  state : Option Bool
  last  : Option Bool
  run   : Nat
  deriving DecidableEq, Repr

/-! ## Reports: what goes to the print controller -/

/-- A FEED record: HOLD or GO, and the reason set as it stood at the placing (R151). -/
structure FeedRec where
  hold    : Bool
  reasons : List Reason
  deriving DecidableEq, Repr

/-- A NOTICE record: its cause and up to four cause fields (R157, R178). -/
structure Notice where
  cause : Cause
  f1 : Option Nat
  f2 : Option Nat
  f3 : Option Nat
  f4 : Option Nat
  deriving DecidableEq, Repr

/-- A DISPOSITION of kind SET (R20). -/
structure SetDisp where
  outcome     : SetOutcome
  destination : Option (Fin 41)
  slot        : Fin 16
  jobNumber   : Nat
  setOrdinal  : Nat
  part        : Nat
  sheets      : Nat
  height      : Nat
  result      : StapleResult
  skip        : Option SkipReason
  side        : OffsetSide
  broken      : Option BrokenReason
  divert      : Option DivertReason
  intoFull    : Bool
  deriving DecidableEq, Repr

/-- A DISPOSITION of kind LOOSE (R21): REJECTED into the reject tray, or LOST. -/
structure LooseDisp where
  rejected : Bool
  seq      : Option Seq
  reason   : OrphanReason
  slotOrd  : Option (Fin 16 × Nat)
  deriving DecidableEq, Repr

/-- The outbound records (R178). A HELLO's towers-present field is absent until the start-up enumeration ends (R143). -/
inductive OutRec
  | hello (cause : ResetCause) (towers : Option Nat)
  | feed (f : FeedRec)
  | setDisp (d : SetDisp)
  | looseDisp (d : LooseDisp)
  | notice (n : Notice)
  | reply (subject index tag : Byte) (fields : List Byte)
  | refuse (kind tag : Byte) (reason : RefuseReason)
  deriving DecidableEq, Repr

/-- The receiver's framing state with the bytes it has kept (R166). -/
inductive Receiver
  | hunt
  | length
  | kind (len : Byte)
  | body (len kind : Byte) (got : List Byte)
  | check (len kind : Byte) (got : List Byte)
  deriving DecidableEq, Repr

/-- A record on the outbound wire and the tick at which its sending began (R173). -/
structure Sending where
  record : OutRec
  start  : Nat
  deriving DecidableEq, Repr

/-- The Feed Governor's hold reasons, its FEED slot, and the FEED last placed (R150, R151, R155). -/
structure Feed where
  reasons : List Reason
  slot    : Option FeedRec
  last    : FeedRec
  deriving DecidableEq, Repr

/-- The governor: its settings (R154), the combination last computed (R152), and its two items (R153). Bit i of the selection is
condition G(i+1). -/
structure Governor where
  selection : BitVec 6
  allMode   : Bool
  d         : Nat
  wait      : Bool
  threshold : Nat
  comb      : Bool
  raised    : Bool
  timer     : Timer
  deriving DecidableEq, Repr

/-- The Link Interface (R166, R173). -/
structure Link where
  receiver  : Receiver
  byteTimer : Timer
  queue     : List OutRec
  sending   : Option Sending
  deriving DecidableEq, Repr

/-- A parked notice, and whether it was handed back by a displacement (R161). -/
structure Parked where
  notice     : Notice
  handedBack : Bool
  deriving DecidableEq, Repr

/-- The Notice Unit (R156). The cause flags are the list of causes set, in class and code order. -/
structure NoticeUnit where
  flags       : List Cause
  towerFlags  : Vector Bool 4
  enables     : Vector Bool 8
  masks       : Vector Bool 8
  globalMask  : Bool
  towerMasks  : Vector Bool 4
  slots       : Vector (Option Parked) 8
  deriving DecidableEq, Repr

/-- The blocks a report passes through, kept together: whatever only reports changes nothing else. -/
structure Report where
  feed   : Feed
  gov    : Governor
  link   : Link
  notice : NoticeUnit
  deriving DecidableEq, Repr

/-! ## Jobs, media, descriptors -/

/-- The six 16-bit counters of a job slot (R6). -/
structure Counters where
  opened    : Nat
  delivered : Nat
  diverted  : Nat
  lost      : Nat
  purged    : Nat
  loose     : Nat
  deriving DecidableEq, Repr

/-- One job slot (R1). -/
structure JobSlot where
  state     : JobState
  number    : Nat
  pattern   : Pattern
  policy    : StaplePolicy
  offset    : Bool
  closeSeen : Bool
  counters  : Counters
  deriving DecidableEq, Repr

/-- One media entry (R8); also the snapshot a sheet takes of it (R9). -/
structure Media where
  thickness : Nat
  length    : Nat
  eligible  : Bool
  deriving DecidableEq, Repr

/-- A descriptor (R23). An optional field is present exactly when its flag is. -/
structure Descriptor where
  seq          : Seq
  slot         : Fin 16
  first        : Bool
  last         : Bool
  setOrdinal   : Nat
  sheetOrdinal : Nat
  media        : Fin 8
  key          : Option Nat
  count        : Option Nat
  finish       : Option Pattern
  deriving DecidableEq, Repr

/-- An entry of the Descriptor Queue (R23). -/
inductive Entry
  | descriptor (d : Descriptor)
  | gap (seq : Option Seq)
  | void (seq : Seq)
  deriving DecidableEq, Repr

/-- The Descriptor Queue (R22); the head of the queue is the head of the list. -/
structure DescQueue where
  entries   : List Entry
  expected  : Option Seq
  debt      : Nat
  nextOwed  : Option Seq
  watermark : Nat
  deriving DecidableEq, Repr

/-- The Entry Binder: the forming set, and gate G1 (R32). -/
structure Binder where
  forming : Option (Fin 8)
  g1      : G1Position
  deriving DecidableEq, Repr

/-! ## Sets -/

/-- A route snapshot (R89). DEFAULT stands for its one bin under FILL with generation 0. -/
inductive RouteSnap
  | none
  | default (bin : Fin 41)
  | entry (index : Fin 32) (first last : Fin 41) (policy : RoutePolicy) (generation : BitVec 8)
  deriving DecidableEq, Repr

/-- A set record in use (R10). -/
structure SetRec where
  slot        : Fin 16
  jobNumber   : Nat
  setOrdinal  : Nat
  part        : Nat
  key         : Option Nat
  count       : Option Nat
  pattern     : Pattern
  policy      : StaplePolicy
  offset      : Bool
  route       : RouteSnap
  bound       : Nat
  lastOrdinal : Nat
  compiled    : Nat
  thickness   : Nat
  allEligible : Bool
  broken      : Option BrokenReason
  decision    : Option StapleDecision
  result      : StapleResult
  skip        : Option SkipReason
  height      : Option Nat
  chosen      : Option (Fin 41)
  partBin     : Option (Fin 41)
  nextPart    : Option (Fin 8)
  side        : OffsetSide
  divert      : Option DivertReason
  place       : Place
  state       : SetState
  deriving DecidableEq, Repr

/-- The Set Table: eight records, and the records in use in the order of their allocation (R11). -/
structure SetTable where
  recs  : Vector (Option SetRec) 8
  order : List (Fin 8)
  deriving DecidableEq, Repr

/-! ## The sheet path -/

/-- What a path-list entry is: a bound sheet with its set record, media index and snapshot, or an orphan (R9). -/
inductive SheetBody
  | bound (set : Fin 8) (media : Fin 8) (snap : Media)
  | orphan (reason : OrphanReason)
  deriving DecidableEq, Repr

/-- The name of a path-list entry, the model's own: six entries at most on the list (R48), and a seventh name for one that has left it with
its sheet still covering S2 (log entries 21 and 45). -/
abbrev EntryName := Fin 7

/-- A path-list entry (R9, R49). `id` names the entry, apart from every other on the list and from the one at S2; `released` says that it
came off the entry buffer. -/
structure PathEntry where
  id       : EntryName
  seq      : Option Seq
  slotOrd  : Option (Fin 16 × Nat)
  sheetOrd : Option Nat
  body     : SheetBody
  mismatch : Bool
  stage    : Stage
  window   : Option Window
  s1Clear  : Bool
  released : Bool
  deriving DecidableEq, Repr

/-- The sheet at S1: its entry, the tick of its leading edge, the length the stall and length checks use, and its stall timer (R45, R46,
R48). -/
structure AtS1 where
  id    : EntryName
  edge  : Nat
  len   : Nat
  stall : Option Window
  deriving DecidableEq, Repr

/-- The sheet at S2: its entry and its stall timer (R45, R48). The name stays until the trailing edge, also where the entry has left the
path list before, and no other entry is given it meanwhile (log entry 45). -/
structure AtS2 where
  id    : EntryName
  stall : Option Window
  deriving DecidableEq, Repr

/-- The SE watch (R56): the set, its first-sheet length, whether its leading edge has been taken, the compiler-to-SE window until
then, and the stall timer after it. -/
structure SEWatch where
  set       : Fin 8
  len       : Nat
  edgeTaken : Bool
  window    : Option Window
  stall     : Option Window
  deriving DecidableEq, Repr

/-- The Path Monitor (R43, R48). The timing items are numbered as in R43. -/
structure PathMonitor where
  timing   : Vector Nat 12
  list     : List PathEntry
  buffer   : List EntryName
  s1       : Option AtS1
  s2       : Option AtS2
  firstLen : Option Nat
  se       : Option SEWatch
  deriving DecidableEq, Repr

/-! ## Finishing -/

/-- The compiler (R65), with its eject drive (R81, R82), whose field says what the compiler asks for: outside RUNNING and PAUSED the eject
path is off all the same (R141; log entry 53). -/
structure Compiler where
  state      : CompilerState
  current    : Option (Fin 8)
  contents   : Nat
  inFlight   : Nat
  splitSheet : Option EntryName
  jog        : Timer
  ejectDrive : Bool
  deriving DecidableEq, Repr

/-- The stapler (R75), with its drive (R76). -/
structure Stapler where
  state       : StaplerState
  count       : Nat
  low         : Nat
  cartridge   : Qual
  emptySensor : Qual
  made        : Nat
  homeTimer   : Timer
  stopPending : Bool
  drive       : Bool
  deriving DecidableEq, Repr

/-! ## Routes, bins, towers -/

/-- A route entry (R86); an absent job match is ANY. -/
structure RouteEntry where
  valid      : Bool
  job        : Option Nat
  keyBase    : Nat
  keyLimit   : Nat
  first      : Fin 41
  last       : Fin 41
  policy     : RoutePolicy
  cursor     : Fin 41
  generation : BitVec 8
  deriving DecidableEq, Repr

/-- The Route Table (R86, R87). -/
structure RouteTable where
  entries    : Vector RouteEntry 32
  unmatched  : Unmatched
  defaultBin : Fin 41
  deriving DecidableEq, Repr

/-- A bin record (R102); its state is derived (R103) and not held. -/
structure Bin where
  capacity : Nat
  margin   : Nat
  enabled  : Bool
  fill     : Nat
  reserved : Nat
  count    : Nat
  nextSide : Side
  present  : Qual
  full     : Qual
  deriving DecidableEq, Repr

/-- A tower record (R116), with whether the part took its last reply as good, which the next poll tells the board (R121), and its last poll:
the tick it was made at, and whether it has been answered (R118). -/
structure Tower where
  present    : Bool
  missed     : Nat
  power      : Qual
  door       : Qual
  teCovered  : Bool
  wakeEnable : Bool
  lastGood   : Bool
  poll       : Timer
  answered   : Bool
  deriving DecidableEq, Repr

/-- An enumeration in progress (R117): the start-up's or a TOWER RESET's, the tower addressed, and the start of its answering time. -/
structure Enumeration where
  startup : Bool
  tower   : Fin 4
  start   : Nat
  deriving DecidableEq, Repr

/-- The Tower Chain (R116, R117). -/
structure TowerChain where
  towers : Vector Tower 4
  enum   : Option Enumeration
  deriving DecidableEq, Repr

/-! ## Delivery and the Run Controller -/

/-- The part of a delivery-list entry that is absent while DEPARTING (R125). -/
structure Travel where
  target : Target
  window : Window
  deriving DecidableEq, Repr

/-- A delivery-list entry (R125): DEPARTING while `travel` is absent, TRAVELLING after. -/
structure ListEntry where
  set    : Fin 8
  travel : Option Travel
  deriving DecidableEq, Repr

/-- The Delivery Controller (R125), with the jogger it drives: the bin and the side, while one is driven (R108, R136). The squaring of a
stack in the compiler is the jog timer's and not this field's (R69; log entry 49). -/
structure Delivery where
  shelf        : ShelfState
  shelfSet     : Option (Fin 8)
  holdTimer    : Timer
  holdLimit    : Nat
  compilerHold : Option (Fin 8)
  list         : List ListEntry
  g0           : G0Position
  g0Busy       : Timer
  jogger       : Option (Fin 41 × OffsetSide)
  deriving DecidableEq, Repr

/-- The Run Controller (R141). `resetLow` is the level of RESETn: while it is low every block is held at its reset values. -/
structure RunController where
  op           : OpState
  resetLow     : Bool
  cause        : ResetCause
  startup      : Timer
  spinUp       : Timer
  wake         : Timer
  idle         : Timer
  standby      : Timer
  standbyDelay : Nat
  deriving DecidableEq, Repr

/-- The levels of the inputs of the main unit: true is covered, for the stapler home sensor at home, and for the cartridge sensor fitted. The
last six are the inputs that are qualified (R109). -/
structure Pins where
  s1   : Bool
  s2   : Bool
  sc   : Bool
  sr   : Bool
  se   : Bool
  s0   : Bool
  home : Bool
  bin0Present : Bool
  bin0Full    : Bool
  rejectNear  : Bool
  rejectFull  : Bool
  cartridge   : Bool
  emptySensor : Bool
  deriving DecidableEq, Repr

/-- The whole part. `now` is the path tick (R42); `pending` the commands that wait, first in first out; `draws` counts the free
values drawn: it is the model's own field, not the part's. `qualCount` is the qualification count N of R109; `rejectNear` and
`rejectFull` are the reject tray's level sensors; `lastSample` is the tick at which the main-unit inputs were last sampled, or sampling
began (R109, R142). -/
structure State where
  now      : Nat
  pending  : List Instr
  draws    : Nat
  pins     : Pins
  report   : Report
  run      : RunController
  jobs     : Vector JobSlot 16
  media    : Vector Media 8
  queue    : DescQueue
  binder   : Binder
  sets     : SetTable
  path     : PathMonitor
  compiler : Compiler
  stapler  : Stapler
  routes   : RouteTable
  bins     : Vector Bin 41
  chain    : TowerChain
  delivery : Delivery
  qualCount  : Nat
  rejectNear : Qual
  rejectFull : Qual
  lastSample : Nat
  deriving DecidableEq, Repr

/-- Why the part would stop. No rule of the manual stops it: every event has an effect or none, so this type has no constructor. -/
inductive Fault
  deriving DecidableEq, Repr

/-- Why the model refuses a command. -/
inductive Refusal
  /-- Raised by `exec`'s arm for a command without a meaning, and by nothing else. Safe: the model answers nothing. -/
  | notModelled (mnemonic : String)
  deriving DecidableEq, Repr

/-! ## Reset values -/

/-- An input that has not been qualified (R109). -/
def Qual.unqualified : Qual := ⟨none, none, 0⟩

/-- A job slot after reset (R1). -/
def JobSlot.reset : JobSlot := ⟨.free, 0, .none, .degrade, false, false, ⟨0, 0, 0, 0, 0, 0⟩⟩

/-- A media entry after reset (R8). -/
def Media.reset : Media := ⟨10, 210, true⟩

/-- The Descriptor Queue after reset (R22). -/
def DescQueue.reset : DescQueue := ⟨[], none, 0, none, 12⟩

/-- The timing table after reset, item by item (R43). -/
def PathMonitor.resetTiming : Vector Nat 12 := #v[320, 10, 20, 12, 380, 140, 300, 180, 700, 1100, 1500, 1900]

/-- The Path Monitor after reset (R43, R48). -/
def PathMonitor.reset : PathMonitor := ⟨PathMonitor.resetTiming, [], [], none, none, none, none⟩

/-- The compiler after reset (R65). -/
def Compiler.reset : Compiler := ⟨.empty, none, 0, 0, none, none, false⟩

/-- The stapler after reset (R75). -/
def Stapler.reset : Stapler := ⟨.noCartridge, 0, 200, .unqualified, .unqualified, 0, none, false, false⟩

/-- A route entry after reset (R86). -/
def RouteEntry.reset : RouteEntry := ⟨false, none, 0, 65535, 0, 0, .fill, 0, 0⟩

/-- The Route Table after reset (R86, R87). -/
def RouteTable.reset : RouteTable := ⟨Vector.replicate 32 RouteEntry.reset, .report, 0⟩

/-- A bin record after reset, given its capacity and margin (R102). -/
def Bin.reset (capacity margin : Nat) : Bin := ⟨capacity, margin, true, 0, 0, 0, .left, .unqualified, .unqualified⟩

/-- The Bin Table after reset (R102). -/
def resetBins : Vector Bin 41 := (Vector.replicate 41 (Bin.reset 1500 150)).set 0 (Bin.reset 6000 600)

/-- A tower record after reset (R116). -/
def Tower.reset : Tower := ⟨false, 0, .unqualified, .unqualified, false, false, false, none, false⟩

/-- The Delivery Controller after reset (R125). -/
def Delivery.reset : Delivery := ⟨.free, none, none, 120, none, [], .bin0, none, none⟩

/-- The Notice Unit after reset (R156). -/
def NoticeUnit.reset : NoticeUnit :=
  ⟨[], Vector.replicate 4 false, Vector.replicate 8 true, Vector.replicate 8 false, false, Vector.replicate 4 false,
    Vector.replicate 8 none⟩

/-- The governor after reset (R153, R154). -/
def Governor.reset : Governor := ⟨0, false, 5, false, 10, false, false, none⟩

/-- The FEED HOLD placed at entry to STARTING (R142). -/
def FeedRec.starting : FeedRec := ⟨true, [.starting]⟩

/-- The report blocks after a reset of the given cause: FEED HOLD in its slot, HELLO alone in the queue (R142, R173). -/
def Report.reset (cause : ResetCause) : Report :=
  { feed := ⟨[.starting], some .starting, .starting⟩
    gov := .reset
    link := ⟨.hunt, none, [.hello cause none], none⟩
    notice := .reset }

/-- The Run Controller after a reset of the given cause, the start-up timer not yet running (R141). -/
def RunController.reset (cause : ResetCause) (low : Bool) : RunController :=
  ⟨.starting, low, cause, none, none, none, none, none, 15⟩

/-- Every block at its reset values, with RESETn as given; the start-up has not begun. The clock, the pins, the waiting commands and
the draws are no block's state and stay. -/
def State.hold (cause : ResetCause) (low : Bool) (s : State) : State :=
  { s with
    report := .reset cause
    run := .reset cause low
    jobs := Vector.replicate 16 .reset
    media := Vector.replicate 8 .reset
    queue := .reset
    binder := ⟨none, .reject⟩
    sets := ⟨Vector.replicate 8 none, []⟩
    path := .reset
    compiler := .reset
    stapler := .reset
    routes := .reset
    bins := resetBins
    chain := ⟨Vector.replicate 4 .reset, none⟩
    delivery := .reset
    qualCount := 20
    rejectNear := .unqualified
    rejectFull := .unqualified }

/-- Entry to STARTING (R142): the start-up timer runs, the start-up enumeration addresses tower 1, and the main-unit inputs are sampled from
here on. -/
def State.start (s : State) : State :=
  { s with
    run := { s.run with startup := some s.now }
    chain := { s.chain with enum := some ⟨true, 0, s.now⟩ }
    lastSample := s.now }

/-- The part right after power-on (R141 to R143) at tick 0, with no command waiting, no sensor covered, the stapler head at home and no
cartridge fitted (log entry 8). -/
def State.reset : State :=
  { now := 0
    pending := []
    draws := 0
    pins := ⟨false, false, false, false, false, false, true, false, false, false, false, false, false⟩
    report := .reset .powerOn
    run := { RunController.reset .powerOn false with startup := some 0 }
    jobs := Vector.replicate 16 .reset
    media := Vector.replicate 8 .reset
    queue := .reset
    binder := ⟨none, .reject⟩
    sets := ⟨Vector.replicate 8 none, []⟩
    path := .reset
    compiler := .reset
    stapler := .reset
    routes := .reset
    bins := resetBins
    chain := ⟨Vector.replicate 4 .reset, some ⟨true, 0, 0⟩⟩
    delivery := .reset
    qualCount := 20
    rejectNear := .unqualified
    rejectFull := .unqualified
    lastSample := 0 }

end Sys2Proof.Machine
end

