-- ==== Sys2Proof/Machine/Flags.lean ====
section
/-! DEFINITION. What is derived from the state and not held in it: times and limits, bin and tower states, admission, the governor's
conditions, the idle condition. -/

namespace Sys2Proof.Machine

/-! ## Time -/

/-- The ticks a timer has run; 0 while it is stopped. -/
def elapsed (now : Nat) : Timer → Nat
  | some start => now - start
  | none => 0

/-- Division rounded up (R44, R45). -/
def ceilDiv (a b : Nat) : Nat := (a + b - 1) / b

/-- The transport speed v (R43). -/
def PathMonitor.speed (p : PathMonitor) : Nat := p.timing[0]
/-- The tolerance p, in per cent (R43). -/
def PathMonitor.tolerance (p : PathMonitor) : Nat := p.timing[1]
/-- The margin m, in ms (R43). -/
def PathMonitor.margin (p : PathMonitor) : Nat := p.timing[2]
/-- The length tolerance, in mm (R43). -/
def PathMonitor.lengthTolerance (p : PathMonitor) : Nat := p.timing[3]

/-- An expected time E or C with its tolerance and margin added, both saturating at 65535 ms (R44, R45). -/
def PathMonitor.limitOf (p : PathMonitor) (mm : Nat) : Nat :=
  let e := min 65535 (ceilDiv (mm * 1000) p.speed)
  min 65535 (e + ceilDiv (e * p.tolerance) 100 + p.margin)

/-- The late limit of a segment of distance `d` (R44). -/
def PathMonitor.lateLimit (p : PathMonitor) (d : Nat) : Nat := p.limitOf d

/-- The stall limit for a length (R45). -/
def PathMonitor.stallLimit (p : PathMonitor) (len : Nat) : Nat := p.limitOf len

/-- The late limit to an arrival sensor of a delivery (R44). -/
def PathMonitor.deliveryLimit (p : PathMonitor) : Target → Nat
  | .s0 => p.lateLimit p.timing[7]
  | .te t => p.lateLimit (p.timing[8 + t.val])

/-- The G0 gate time (R125). -/
def PathMonitor.gateTime (p : PathMonitor) : Nat := p.stallLimit Config.gateLength

/-- The measured length for a cover time, rounded down (R46). -/
def PathMonitor.measured (p : PathMonitor) (cover : Nat) : Nat := cover * p.speed / 1000

/-- Whether two lengths differ by more than the length tolerance (R46). -/
def PathMonitor.lengthDiffers (p : PathMonitor) (a b : Nat) : Bool := (a - b) + (b - a) > p.lengthTolerance

/-- The interval of sampling and of tower polls, in ms (R109, R118). -/
def sampleInterval (op : OpState) : Nat := if op = .standby then 100 else 10

/-- Whether the transports, the belt, the shelf drive and the eject path run (R141). -/
def transportsRun (op : OpState) : Bool := op = .running || op = .paused

/-! ## Qualification -/

/-- One sample of a qualified input (R109): the input after it, and whether its qualified state has changed. -/
def Qual.sample (n : Nat) (v : Bool) (q : Qual) : Qual × Bool :=
  if q.state = some v then (⟨q.state, some v, 0⟩, false)
  else
    let run := if q.last = some v then min 127 (q.run + 1) else 1
    if run ≥ n then (⟨some v, some v, 0⟩, true) else (⟨q.state, some v, run⟩, false)

/-- The input after the sample that qualifies it as `v`. -/
def Qual.qualified (v : Bool) : Qual := ⟨some v, some v, 0⟩

/-- Whether a sample of `v` would qualify an input (R109). -/
def Qual.qualifies (n : Nat) (v : Bool) (q : Qual) : Bool := (q.sample n v).2

/-- A main-unit input after one sample of the part's own (R109). A sample that qualifies it is left to the command that stands for the
qualified change, which takes effect at that sample (log entry 20). -/
def Qual.counted (n : Nat) (v : Bool) (q : Qual) : Qual := if q.qualifies n v then q else (q.sample n v).1

/-! ## Towers and bins -/

/-- The tower a bin lies in; none for bin 0, which is in the main unit (R102). -/
def towerOf (b : Fin 41) : Option (Fin 4) :=
  if b.val = 0 then none else some ⟨(b.val - 1) / 10, by have := b.isLt; omega⟩

/-- The ten bins of a tower, in increasing number. -/
def binsOf (t : Fin 4) : List (Fin 41) := (List.finRange 41).filter fun b => towerOf b = some t

/-- The i-th bin of a tower. -/
def binAt (t : Fin 4) (i : Fin 10) : Fin 41 := ⟨10 * t.val + i.val + 1, by omega⟩

/-- The derived state of a tower (R119). -/
def Tower.state (t : Tower) : TowerState :=
  if !t.present then .absent
  else if t.power.state ≠ some true then .unpowered
  else if t.door.state ≠ some true then .doorOpen
  else .ready

/-- Whether a bin's tower is READY; bin 0 has no tower and counts as such (R103, R126). -/
def State.reachable (s : State) (b : Fin 41) : Bool :=
  match towerOf b with
  | none => true
  | some t => s.chain.towers[t].state = .ready

/-- The derived state of a bin (R103). C - M is a signed difference there, so the comparison is made without it. -/
def State.binState (s : State) (b : Fin 41) : BinState :=
  let x := s.bins[b]
  if !s.reachable b then .offline
  else if !x.enabled then .disabled
  else if x.full.state = some true || (0 < x.fill && x.capacity ≤ x.fill) then .full
  else if 0 < x.fill && x.capacity ≤ x.fill + x.margin then .nearFull
  else .available

/-- The admission test (R105). -/
def State.admits (s : State) (h : Nat) (b : Fin 41) : Bool :=
  let x := s.bins[b]
  ((s.binState b = .available || s.binState b = .nearFull) && x.fill + x.reserved + h ≤ x.capacity) ||
    (x.capacity < h && x.fill = 0 && x.reserved = 0 && x.present.state = some false && s.binState b = .available)

/-- The number of bins in FULL (R104). -/
def State.fullCount (s : State) : Nat := (List.finRange 41).countP fun b => s.binState b = .full

/-- The number of towers present (R117). -/
def State.towersPresent (s : State) : Nat := (List.finRange 4).countP fun t => s.chain.towers[t].present

/-- The bins from `first` to `last`, in increasing number (R86). -/
def binRange (first last : Fin 41) : List (Fin 41) := (List.finRange 41).filter fun b => first ≤ b ∧ b ≤ last

/-! ## The governor and the idle condition -/

/-- The staple-low condition (R80). -/
def Stapler.lowStands (p : Stapler) : Bool := p.count < p.low

/-- The conditions G1 to G6 (R152). -/
def State.govCond (s : State) : Fin 6 → Bool
  | 0 => s.stapler.lowStands
  | 1 => s.rejectNear.state = some true
  | 2 => s.binState 0 = .nearFull || s.binState 0 = .full
  | 3 => s.delivery.shelf = .occupied
  | 4 => s.report.gov.threshold ≤ s.fullCount
  | 5 => (List.finRange 4).any fun t => s.chain.towers[t].state = .doorOpen

/-- The combination of the selected conditions (R152). -/
def Governor.combine (g : Governor) (cond : Fin 6 → Bool) : Bool :=
  let sel := (List.finRange 6).filter fun i : Fin 6 => g.selection.getLsbD i.val
  if g.allMode then !sel.isEmpty && sel.all cond else sel.any cond

/-- Whether every job slot is FREE. -/
def State.allJobsFree (s : State) : Bool := s.jobs.toList.all fun j => j.state = .free

/-- The Delivery Controller is idle (R138). -/
def Delivery.isIdle (d : Delivery) : Bool := d.shelf = .free && d.list.isEmpty

/-- The part is idle (R145). -/
def State.isIdle (s : State) : Bool :=
  s.allJobsFree && s.queue.entries.isEmpty && s.queue.debt = 0 && s.path.list.isEmpty && s.compiler.state = .empty &&
    s.delivery.isIdle

/-- The number of FREE set records (R11). -/
def SetTable.freeCount (t : SetTable) : Nat := (List.finRange 8).countP fun r => t.recs[r].isNone

/-- A FREE set record, if there is one (R11: any will do; log entry 21). -/
def SetTable.freeIndex (t : SetTable) : Option (Fin 8) := (List.finRange 8).find? fun r => t.recs[r].isNone

/-- Whether RUNNING or PAUSED (R24, R57). -/
def State.working (s : State) : Bool := s.run.op = .running || s.run.op = .paused

end Sys2Proof.Machine
end

