-- ==== Sys2Proof/Machine/Reports.lean ====
section
/-! DEFINITION. The report path: hold reasons and FEED (R150, R151), the governor (R153, R154), causes, notices and their gates (R157 to
R161), and the outbound queue (R173, R174). Every operation here acts on the `Report` alone. -/

namespace Sys2Proof.Machine

/-! ## Hold reasons and FEED -/

/-- The hold reasons in the order of R150. -/
def allReasons : List Reason :=
  [.starting, .spinUp, .wake, .paused, .jam, .queue, .buffer, .sets, .backlog, .staples, .rejectFull, .overflowFull, .governor]

/-- A FEED placed in the FEED slot replaces an unsent one (R151). -/
def Feed.place (f : FeedRec) (p : Feed) : Feed := { p with slot := some f, last := f }

/-- A hold reason is raised; FEED HOLD is placed when the set becomes non-empty (R150, R151). -/
def Feed.raise (r : Reason) (p : Feed) : Feed :=
  if r ∈ p.reasons then p
  else
    let reasons := allReasons.filter fun x => x = r || x ∈ p.reasons
    let p' := { p with reasons := reasons }
    if p.reasons = [] then p'.place ⟨true, reasons⟩ else p'

/-- A hold reason is dropped; FEED GO is placed when the set becomes empty (R150, R151). -/
def Feed.drop (r : Reason) (p : Feed) : Feed :=
  if r ∈ p.reasons then
    let reasons := p.reasons.filter fun x => x ≠ r
    let p' := { p with reasons := reasons }
    if reasons = [] then p'.place ⟨false, []⟩ else p'
  else p

/-- A hold reason stands exactly while its condition holds (R150). -/
def Feed.set (r : Reason) (cond : Bool) (p : Feed) : Feed := if cond then p.raise r else p.drop r

def Report.raise (r : Reason) (p : Report) : Report := { p with feed := p.feed.raise r }
def Report.drop (r : Reason) (p : Report) : Report := { p with feed := p.feed.drop r }
def Report.setReason (r : Reason) (cond : Bool) (p : Report) : Report := { p with feed := p.feed.set r cond }

/-! ## The governor -/

/-- GOVERNOR stands while raised is yes (R150, R153). -/
def Report.setRaised (v : Bool) (p : Report) : Report :=
  { p with gov := { p.gov with raised := v, timer := none } }.setReason .governor v

/-- The combination is computed again; a change of it is acted on by the table of R153. -/
def Report.recombine (cond : Fin 6 → Bool) (now : Nat) (p : Report) : Report :=
  let c := p.gov.combine cond
  if c = p.gov.comb then p
  else
    let p := { p with gov := { p.gov with comb := c } }
    if p.gov.raised = c then { p with gov := { p.gov with timer := none } }
    else if p.gov.d = 0 || (p.gov.raised && !p.gov.wait) then p.setRaised c
    else { p with gov := { p.gov with timer := some now } }

/-- The qualification timer reaches the qualification time (R153). -/
def Report.governorExpires (p : Report) : Report := p.setRaised (!p.gov.raised)

/-- What a write of the governor settings does once they are in place (R154): a changed combination is acted on by R153; under an
unchanged one a timer towards a drop with WAIT clear drops the governor, and a timer past the new time expires. That a write which brings
both a changed combination and an expiry or a drop takes the change alone is the model's choice (log entry 58). -/
def Report.governorWritten (cond : Fin 6 → Bool) (now : Nat) (p : Report) : Report :=
  if p.gov.combine cond ≠ p.gov.comb then p.recombine cond now
  else if p.gov.timer.isSome && ((p.gov.raised && !p.gov.wait) || p.gov.d * 100 ≤ elapsed now p.gov.timer) then p.governorExpires
  else p

/-! ## Causes -/

/-- The class of a cause (chapter 9.2). -/
def Cause.cls : Cause → Fin 8
  | .jam _ => 0
  | .stapleFault | .stapleInserted | .stapleRemoved | .stapleEmpty | .stapleLow => 1
  | .binFull | .binNearFull | .binEmptied => 2
  | .towerPowerLost | .towerPowerRestored | .towerDoorOpened | .towerDoorClosed | .towerLost | .towerResetDone => 3
  | .noRoute | .held | .expired => 4
  | .gap | .resync | .stale | .overrun => 5
  | .jobComplete | .jobPurged => 6
  | .linkFrame | .replyLost | .dispositionLost => 7

/-- The causes of a class, in the order of their codes (R179). -/
def causesOf : Fin 8 → List Cause
  | 0 => [.jam .late, .jam .stall, .jam .unexpectedSheet, .jam .unexpectedSet, .jam .bufferOverflow, .jam .towerDoor,
      .jam .towerLost]
  | 1 => [.stapleFault, .stapleInserted, .stapleRemoved, .stapleEmpty, .stapleLow]
  | 2 => [.binFull, .binNearFull, .binEmptied]
  | 3 => [.towerPowerLost, .towerPowerRestored, .towerDoorOpened, .towerDoorClosed, .towerLost, .towerResetDone]
  | 4 => [.noRoute, .held, .expired]
  | 5 => [.gap, .resync, .stale, .overrun]
  | 6 => [.jobComplete, .jobPurged]
  | 7 => [.linkFrame, .replyLost, .dispositionLost]

/-- All 33 causes. -/
def allCauses : List Cause := (List.finRange 8).flatMap causesOf

/-- The cause is latched, and with it the attention flag of the tower it originates in (R157). -/
def NoticeUnit.latch (c : Cause) (origin : Option (Fin 4)) (u : NoticeUnit) : NoticeUnit :=
  { u with
    flags := allCauses.filter fun x => x = c || x ∈ u.flags
    towerFlags :=
      match origin with
      | some t => if c.cls = 2 || c.cls = 3 then u.towerFlags.set t true else u.towerFlags
      | none => u.towerFlags }

/-- Whether R158 ends the handling of a cause at its latching. -/
def NoticeUnit.stops (c : Cause) (origin : Option (Fin 4)) (u : NoticeUnit) : Bool :=
  !u.enables[c.cls] ||
    match origin with
    | some t => (c.cls = 2 || c.cls = 3) && u.towerMasks[t]
    | none => false

/-! ## The outbound queue -/

/-- The occupancy of the outbound queue (R173). -/
def Report.occupancy (p : Report) : Nat := p.link.queue.length

/-- BACKLOG stands while the occupancy is 16 or more (R150, R173). -/
def Report.syncBacklog (p : Report) : Report := p.setReason .backlog (Config.backlogMark ≤ p.occupancy)

/-- A record joins the outbound queue at its tail (R174). -/
def Report.append (r : OutRec) (p : Report) : Report :=
  { p with link := { p.link with queue := p.link.queue ++ [r] } }.syncBacklog

def Report.setSlot (k : Fin 8) (x : Option Parked) (p : Report) : Report :=
  { p with notice := { p.notice with slots := p.notice.slots.set k x } }

/-- The NOTICE in the pending slot of one class is sent, if the slot is eligible and the occupancy below 16 (R160). -/
def Report.sendSlot (p : Report) (k : Fin 8) : Report :=
  match p.notice.slots[k] with
  | some x =>
    if !p.notice.masks[k] && !p.notice.globalMask && p.occupancy < Config.backlogMark then (p.setSlot k none).append (.notice x.notice)
    else p
  | none => p

/-- The sending test (R160): each class in turn from the lowest, for a slot once sent stays empty during the test. -/
def Report.sendingTest (p : Report) : Report := (List.finRange 8).foldl Report.sendSlot p

/-- A cause handed to the Notice Unit: latched (R157), gated (R158), and parked or queued (R159). -/
def Report.notify (n : Notice) (origin : Option (Fin 4)) (p : Report) : Report :=
  let k := n.cause.cls
  let p := { p with notice := p.notice.latch n.cause origin }
  if p.notice.stops n.cause origin then p
  else if p.notice.masks[k] || p.notice.globalMask then p.setSlot k (some ⟨n, false⟩)
  else if Config.backlogMark ≤ p.occupancy then p.setSlot k (some ⟨n, false⟩)
  else if p.notice.slots[k].isSome then (p.setSlot k (some ⟨n, false⟩)).sendingTest
  else p.append (.notice n)

/-- A cause is latched only: a second jam (R63, R157). -/
def Report.latchOnly (c : Cause) (p : Report) : Report := { p with notice := p.notice.latch c none }

/-- A displaced NOTICE is handed back: it takes an empty slot, replaces one handed back before it, and is discarded otherwise (R161). -/
def Report.handBack (n : Notice) (p : Report) : Report :=
  match p.notice.slots[n.cause.cls] with
  | none => p.setSlot n.cause.cls (some ⟨n, true⟩)
  | some x => if x.handedBack then p.setSlot n.cause.cls (some ⟨n, true⟩) else p

/-- The NOTICE nearest the head of a queue, and the queue without it (R174). -/
def takeNotice : List OutRec → Option (Notice × List OutRec)
  | [] => none
  | .notice n :: rest => some (n, rest)
  | r :: rest => (takeNotice rest).map fun x => (x.1, r :: x.2)

/-- A DISPOSITION is admitted below 48, displaces the NOTICE nearest the head at 48, and is dropped with the cause `lost` when there
is none (R174). -/
def Report.dispose (d : OutRec) (lost : Notice) (p : Report) : Report :=
  if p.occupancy < Config.outboundCapacity then p.append d
  else
    match takeNotice p.link.queue with
    | some (n, rest) => ({ p with link := { p.link with queue := rest ++ [d] } } : Report).syncBacklog.handBack n
    | none => p.notify lost none

/-- A REPLY or REFUSE is admitted below an occupancy of 24, and otherwise dropped with LINK REPLY LOST (R174). -/
def Report.answer (r : OutRec) (kind tag : Byte) (p : Report) : Report :=
  if p.occupancy < Config.answerMark then p.append r
  else p.notify ⟨.replyLost, some kind.toNat, some tag.toNat, none, none⟩ none

end Sys2Proof.Machine
end

