-- ==== Sys2Proof/Machine/Formats.lean ====
section
/-! DEFINITION. The byte side of the Sheet Link: value codes (R179), field encoding (R176), bodies of the outbound records (R178), and
the frame with its check (R165). -/

namespace Sys2Proof.Machine

/-! ## Fields -/

/-- A one-byte number (R176). -/
def n1 (x : Nat) : List Byte := [BitVec.ofNat 8 x]
/-- A two-byte number, little-endian (R176). -/
def n2 (x : Nat) : List Byte := [BitVec.ofNat 8 x, BitVec.ofNat 8 (x / 256)]
/-- A four-byte number, little-endian (R176). -/
def n4 (x : Nat) : List Byte := n2 x ++ n2 (x / 65536)
/-- A yes or no (R179). -/
def flag (b : Bool) : List Byte := n1 b.toNat
/-- A set of named flags in list order from bit 0 (R176), as a number. -/
def bitSet : List Bool → Nat
  | [] => 0
  | b :: rest => b.toNat + 2 * bitSet rest
/-- An item that may be absent: a presence byte, and the item's `width` bytes, 0 when it is absent (R178). -/
def optional {α : Type} (width : Nat) (enc : α → List Byte) : Option α → List Byte
  | some x => n1 1 ++ enc x
  | none => n1 0 ++ List.replicate width 0

/-! ## Codes -/

def OpState.code : OpState → Nat
  | .starting => 0 | .ready => 1 | .standby => 2 | .waking => 3 | .running => 4 | .paused => 5 | .jam => 6
def ResetCause.code : ResetCause → Nat
  | .powerOn => 0 | .resetLine => 1 | .resetRecord => 2
def JobState.code : JobState → Nat
  | .free => 0 | .opened => 1 | .closed => 2 | .purging => 3
def Pattern.code : Pattern → Nat
  | .none => 0 | .corner => 1 | .edge2 => 2
def StaplePolicy.code : StaplePolicy → Nat
  | .degrade => 0 | .wait => 1
def RoutePolicy.code : RoutePolicy → Nat
  | .fill => 0 | .sequence => 1
def Unmatched.code : Unmatched → Nat
  | .report => 0 | .quiet => 1
def BrokenReason.code : BrokenReason → Nat
  | .sheetMissing => 1 | .missingEnd => 2 | .jobChange => 3 | .ordinalSkip => 4 | .countExceeded => 5 | .countShort => 6 | .length => 7
def DivertReason.code : DivertReason → Nat
  | .noRoute => 1 | .holdTimeout => 2 | .released => 3 | .broken => 4 | .purged => 5
def StapleResult.code : StapleResult → Nat
  | .notRequested => 0 | .stapled => 1 | .partly => 2 | .failed => 3 | .skipped => 4
def SkipReason.code : SkipReason → Nat
  | .overLimit => 1 | .media => 2 | .noStaples => 3 | .staplerFault => 4 | .broken => 5
def OffsetSide.code : OffsetSide → Nat
  | .none => 0 | .left => 1 | .right => 2
def Side.code : Side → Nat
  | .left => 1 | .right => 2
def SetState.code : SetState → Nat
  | .forming => 0 | .gathering => 1 | .compiling => 2 | .stapling => 3 | .stapleWait => 4 | .readyToEject => 5 | .held => 6
  | .onBelt => 7
def OrphanReason.code : OrphanReason → Nat
  | .noDescriptor => 0 | .lostDescriptor => 1 | .badDescriptor => 2 | .jobNotOpen => 3 | .noSet => 4 | .noSetRecord => 5
  | .jobPurging => 6
def Stage.code : Stage → Nat
  | .toS2 => 0 | .onBuffer => 1 | .toSC => 2 | .toSR => 3 | .arrived => 4
def CompilerState.code : CompilerState → Nat
  | .empty => 0 | .collecting => 1 | .finishing => 2 | .stapling => 3 | .stapleWait => 4 | .ejecting => 5 | .splitEject => 6
def StaplerState.code : StaplerState → Nat
  | .ready => 0 | .stapling => 1 | .empty => 2 | .fault => 3 | .noCartridge => 4
def BinState.code : BinState → Nat
  | .offline => 0 | .disabled => 1 | .full => 2 | .nearFull => 3 | .available => 4
def TowerState.code : TowerState → Nat
  | .absent => 0 | .unpowered => 1 | .doorOpen => 2 | .ready => 3
def ShelfState.code : ShelfState → Nat
  | .free => 0 | .incoming => 1 | .occupied => 2
def G0Position.code : G0Position → Nat
  | .bin0 => 0 | .belt => 1
def JamKind.code : JamKind → Nat
  | .late => 0 | .stall => 1 | .unexpectedSheet => 2 | .unexpectedSet => 3 | .bufferOverflow => 4 | .towerDoor => 5 | .towerLost => 6
def Sensor.code : Sensor → Nat
  | .s1 => 0 | .s2 => 1 | .sc => 2 | .sr => 3 | .se => 4 | .s0 => 5 | .te t => 6 + t.val
def targetCode : Target → Nat
  | .s0 => 0 | .te t => 1 + t.val
def RefuseReason.code : RefuseReason → Nat
  | .badLength => 1 | .unknownKind => 2 | .fieldRange => 3 | .state => 4 | .slotBusy => 5 | .duplicateJob => 6 | .jobNotOpen => 7
  | .towerBusy => 8
def SetOutcome.code : SetOutcome → Nat
  | .delivered => 0 | .diverted => 1 | .lost => 2 | .purged => 3

/-- The code of a cause: its position within its class (R179). -/
def Cause.code (c : Cause) : Nat := (causesOf c.cls).idxOf c

/-- A qualified input whose two values are listed with the `true` one first: covered or fitted or on, then the other, then unqualified (by
position: R179's last paragraph). That a tower's power input is coded so too, 0 on and 1 off, and not 1 on and 0 off as R179's first row codes
on and off, is the model's choice (log entry 18). -/
def Qual.code (q : Qual) : Nat :=
  match q.state with
  | some true => 0
  | some false => 1
  | none => 2

/-- A covered or clear level (R179: by position). -/
def levelCode (covered : Bool) : Nat := if covered then 0 else 1

/-- The reason set as a bit set: STARTING at bit 0, GOVERNOR at bit 12 (R178). -/
def reasonBits (rs : List Reason) : Nat := bitSet (allReasons.map fun r => r ∈ rs)

/-! ## Outbound bodies -/

/-- A field with a code of its own for "none" (R179). -/
def codeOr (none : Nat) : Option Nat → List Byte
  | some x => n1 x
  | _ => n1 none

/-- The presence bits and the four fields of a NOTICE (R178). -/
def Notice.fields (n : Notice) : List Byte :=
  n1 (bitSet [n.f1.isSome, n.f2.isSome, n.f3.isSome, n.f4.isSome]) ++
    n2 (n.f1.getD 0) ++ n2 (n.f2.getD 0) ++ n2 (n.f3.getD 0) ++ n2 (n.f4.getD 0)

/-- The body of a SET disposition: 18 bytes (R178). -/
def SetDisp.body (d : SetDisp) : List Byte :=
  n1 0 ++ n1 d.outcome.code ++ codeOr 255 (d.destination.map Fin.val) ++ n1 d.slot.val ++ n2 d.jobNumber ++ n2 d.setOrdinal ++
    n1 d.part ++ n1 d.sheets ++ n2 d.height ++ n1 d.result.code ++ codeOr 0 (d.skip.map SkipReason.code) ++ n1 d.side.code ++
    codeOr 0 (d.broken.map BrokenReason.code) ++ codeOr 0 (d.divert.map DivertReason.code) ++ flag d.intoFull

/-- The body of a LOOSE disposition: 9 bytes (R178). The reject tray is destination 41, none is 0xFF. -/
def LooseDisp.body (d : LooseDisp) : List Byte :=
  n1 1 ++ n1 (if d.rejected then 4 else 2) ++ n1 (if d.rejected then 41 else 255) ++
    n1 (bitSet [d.seq.isSome, d.slotOrd.isSome]) ++ n1 (d.seq.elim 0 BitVec.toNat) ++ n1 d.reason.code ++
    n1 (d.slotOrd.elim 0 fun x => x.1.val) ++ n2 (d.slotOrd.elim 0 fun x => x.2)

/-- The kind byte of an outbound record (R176). -/
def OutRec.kind : OutRec → Byte
  | .hello .. => 0x80
  | .feed _ => 0x81
  | .setDisp _ | .looseDisp _ => 0x82
  | .notice _ => 0x83
  | .reply .. => 0x84
  | .refuse .. => 0x85

/-- The body of an outbound record (R178). -/
def OutRec.body : OutRec → List Byte
  | .hello cause towers =>
    n1 cause.code ++ n1 (towers.getD 0) ++ n1 16 ++ n1 16 ++ n1 8 ++ n1 32 ++ n1 8 ++ n1 41 ++ n1 4 ++ n1 48
  | .feed f => flag f.hold ++ n2 (reasonBits f.reasons)
  | .setDisp d => d.body
  | .looseDisp d => d.body
  | .notice n => n1 n.cause.cls.val ++ n1 n.cause.code ++ n.fields
  | .reply subject index tag fields => [subject, index, tag] ++ fields
  | .refuse kind tag reason => [kind, tag] ++ n1 reason.code

/-! ## Frames -/

/-- One shift of the check register (R165). -/
def crcShift (r : Byte) : Byte := if r.msb then (r <<< 1) ^^^ 0x07 else r <<< 1

/-- One covered byte taken into the check register (R165). -/
def crcByte (r b : Byte) : Byte := (List.range 8).foldl (fun r _ => crcShift r) (r ^^^ b)

/-- The check over the covered bytes (R165). -/
def crc (bytes : List Byte) : Byte := bytes.foldl crcByte 0

/-- The check byte of a frame: over its length byte, kind byte and body (R165). -/
def frameCheck (len kind : Byte) (body : List Byte) : Byte := crc (len :: kind :: body)

/-- The bytes of an outbound frame (R165). -/
def OutRec.frame (r : OutRec) : List Byte :=
  let len := BitVec.ofNat 8 r.body.length
  [0xA5, len, r.kind] ++ r.body ++ [frameCheck len r.kind r.body]

/-- Whether the frame being sent is complete (R165: a byte takes 10 bit times at 230,400 bit/s, and the bytes go back to back). -/
def Sending.complete (now : Nat) (x : Sending) : Bool := x.record.frame.length * 1000 ≤ (now - x.start) * 23040

end Sys2Proof.Machine
end

