-- ==== Sys2Proof/Machine/Operands.lean ====
section
/-! DEFINITION. The inbound bodies (R177): the fields of each record read from its bytes. A reader answers none where the body length is
not the one its kind or table calls for; what a value out of its range means is the record's own rule. -/

namespace Sys2Proof.Machine

/-- A two-byte little-endian number (R165, R176). -/
def u16 (lo hi : Byte) : Nat := lo.toNat + 256 * hi.toNat

/-- A yes or no byte (R179). -/
def yesNo (b : Byte) : Option Bool := if b = 0 then some false else if b = 1 then some true else none

/-- A pattern or finish override (R179). -/
def Pattern.ofByte (b : Byte) : Option Pattern :=
  if b = 0 then some .none else if b = 1 then some .corner else if b = 2 then some .edge2 else Option.none

/-- A staple policy (R179). -/
def StaplePolicy.ofByte (b : Byte) : Option StaplePolicy :=
  if b = 0 then some .degrade else if b = 1 then some .wait else none

/-- A route policy (R179). -/
def RoutePolicy.ofByte (b : Byte) : Option RoutePolicy :=
  if b = 0 then some .fill else if b = 1 then some .sequence else none

/-- A number below `n`, as an index. -/
def index (n x : Nat) : Option (Fin n) := if h : x < n then some ⟨x, h⟩ else none

/-! ## SHEET -/

/-- An optional two-byte field of a SHEET, and the bytes after it (R177). -/
def optWord (has : Bool) (l : List Byte) : Option (Option Nat × List Byte) :=
  if has then
    match l with
    | lo :: hi :: rest => some (some (u16 lo hi), rest)
    | _ => none
  else some (none, l)

/-- An optional one-byte field of a SHEET, and the bytes after it (R177). -/
def optByte (has : Bool) (l : List Byte) : Option (Option Byte × List Byte) :=
  if has then
    match l with
    | b :: rest => some (some b, rest)
    | _ => none
  else some (none, l)

/-- The three optional fields of a SHEET, when the body has exactly the length its flags call for (R177). -/
def sheetOptions (flags : Byte) (l : List Byte) : Option (Option Nat × Option Byte × Option Byte) :=
  match optWord (flags.getLsbD 2) l with
  | none => none
  | some (key, l) =>
    match optByte (flags.getLsbD 3) l with
    | none => none
    | some (count, l) =>
      match optByte (flags.getLsbD 4) l with
      | some (finish, []) => some (key, count, finish)
      | _ => none

/-- The descriptor a SHEET body spells after its seq, none if the record is void (R25). -/
def descriptorOf (seq : Seq) (rest : List Byte) : Option Descriptor :=
  match rest with
  | slot :: flags :: lo :: hi :: ordinal :: media :: opts =>
    match index 16 slot.toNat, index 8 media.toNat, sheetOptions flags opts with
    | some slot, some media, some (key, count, finish) =>
      let first := flags.getLsbD 0
      let setOrdinal := u16 lo hi
      let finishOk := match finish with
        | some b => (Pattern.ofByte b).isSome
        | none => true
      if setOrdinal = 0 || ordinal = 0 || (first && ordinal ≠ 1) ||
          (!first && (key.isSome || count.isSome || finish.isSome)) || count = some 0 || !finishOk then none
      else some ⟨seq, slot, first, flags.getLsbD 1, setOrdinal, ordinal.toNat, media, key, count.map BitVec.toNat,
        finish.bind Pattern.ofByte⟩
    | _, _, _ => none
  | _ => none

/-- The queue entry a taken SHEET becomes: a descriptor, or a void entry that keeps its seq (R25). -/
def sheetEntry (seq : Seq) (rest : List Byte) : Entry :=
  match descriptorOf seq rest with
  | some d => .descriptor d
  | none => .void seq

/-! ## TABLE WRITE entries -/

/-- A MEDIA entry as written: thickness, length, staple eligible. -/
structure MediaWrite where
  thickness : Nat
  length    : Nat
  eligible  : Byte
  deriving DecidableEq, Repr

/-- A ROUTE entry as written. -/
structure RouteWrite where
  valid    : Byte
  job      : Nat
  keyBase  : Nat
  keyLimit : Nat
  first    : Nat
  last     : Nat
  policy   : Byte
  deriving DecidableEq, Repr

/-- A BIN entry as written. -/
structure BinWrite where
  capacity : Nat
  margin   : Nat
  enabled  : Byte
  deriving DecidableEq, Repr

def mediaEntries : List Byte → Option (List MediaWrite)
  | [] => some []
  | t :: lo :: hi :: e :: rest => (mediaEntries rest).map (⟨t.toNat, u16 lo hi, e⟩ :: ·)
  | _ => none

/-- The two-byte values of a TIMING or SETTINGS write. -/
def wordEntries : List Byte → Option (List Nat)
  | [] => some []
  | lo :: hi :: rest => (wordEntries rest).map (u16 lo hi :: ·)
  | _ => none

def routeEntries : List Byte → Option (List RouteWrite)
  | [] => some []
  | v :: j0 :: j1 :: b0 :: b1 :: l0 :: l1 :: f :: l :: p :: rest =>
    (routeEntries rest).map (⟨v, u16 j0 j1, u16 b0 b1, u16 l0 l1, f.toNat, l.toNat, p⟩ :: ·)
  | _ => none

def binEntries : List Byte → Option (List BinWrite)
  | [] => some []
  | c0 :: c1 :: m0 :: m1 :: e :: rest => (binEntries rest).map (⟨u16 c0 c1, u16 m0 m1, e⟩ :: ·)
  | _ => none

/-- A table write's start index and entries, none where the body length is not its header plus one or more whole entries (R167). -/
def tableBody {α : Type} (entries : List Byte → Option (List α)) (rest : List Byte) : Option (Nat × List α) :=
  match rest with
  | [] => none
  | start :: bytes =>
    match entries bytes with
    | some (x :: xs) => some (start.toNat, x :: xs)
    | _ => none

/-- A value clamped to the nearer end of its range (R169). -/
def clamp (lo hi x : Nat) : Nat := max lo (min hi x)

/-! ## JOB OPEN -/

/-- The fields of a JOB OPEN after its tag. -/
structure JobOpenBody where
  slot    : Nat
  number  : Nat
  pattern : Byte
  policy  : Byte
  options : Byte
  deriving DecidableEq, Repr

def jobOpenBody : List Byte → Option JobOpenBody
  | [slot, j0, j1, pattern, policy, options] => some ⟨slot.toNat, u16 j0 j1, pattern, policy, options⟩
  | _ => none

end Sys2Proof.Machine
end

