-- ==== Sys2Proof/Machine/Ops.lean ====
section
/-! DEFINITION. The operations the commands share, block by block: reports, run states, jobs, set records, bins and bin choice, held
sets, the compiler and the stapler, and the one way a jam is declared (R59 to R62). -/

namespace Sys2Proof.Machine

/-! ## Reports -/

def State.raise (r : Reason) (s : State) : State := { s with report := s.report.raise r }
def State.drop (r : Reason) (s : State) : State := { s with report := s.report.drop r }
def State.setReason (r : Reason) (cond : Bool) (s : State) : State := { s with report := s.report.setReason r cond }

/-- A cause is handed to the Notice Unit with its origin (R157). -/
def State.notify (n : Notice) (origin : Option (Fin 4)) (s : State) : State := { s with report := s.report.notify n origin }

/-- The governor computes its combination again (R152). -/
def State.recombine (s : State) : State := { s with report := s.report.recombine s.govCond s.now }

/-- A refused record is answered with a REFUSE (R168). -/
def State.refuse (kind tag : Byte) (reason : RefuseReason) (s : State) : State :=
  { s with report := s.report.answer (.refuse kind tag reason) kind tag }

/-- The clock stands at the tick at which a timer reached its limit, at the earliest (log entry 3). -/
def State.reach (tick : Nat) (s : State) : State := { s with now := max s.now tick }

/-- A frame has been taken: the receiver hunts again, and the standby timer of READY starts again from 0 (R146, R166, R167). -/
def State.frameTaken (s : State) : State :=
  { s with
    report := { s.report with link := { s.report.link with receiver := .hunt, byteTimer := none } }
    run := { s.run with standby := if s.run.op = .ready then some s.now else s.run.standby } }

/-! ## Run states -/

/-- Entry to READY: the standby timer starts (R146). That the eject drive stays on, where the idle timer expires with a set still covering SE,
is the model's choice: R82 stops it at an edge that has no effect in READY, and R141 has the eject path off there (log entry 53). -/
def State.enterReady (s : State) : State := { s with run := { s.run with op := .ready, standby := some s.now, idle := none } }

/-- Entry to RUNNING with spin-up (R144). -/
def State.enterRunning (s : State) : State :=
  { s with run := { s.run with op := .running, spinUp := some s.now, standby := none } }.raise .spinUp

/-- Entry to WAKING (R147). -/
def State.enterWaking (s : State) : State :=
  { s with run := { s.run with op := .waking, wake := some s.now, standby := none } }.raise .wake

/-- Entry to STANDBY (R146). -/
def State.enterStandby (s : State) : State := { s with run := { s.run with op := .standby, standby := none } }

/-- The idle timer runs in RUNNING while the part is idle, from the moment it became so, and nowhere else (R145). A taken SHEET that is
discarded as STALE leaves the part idle, and that the timer then runs on is the model's choice (log entry 50). -/
def State.syncIdle (s : State) : State :=
  { s with
    run := { s.run with
      idle := if s.run.op = .running && s.isIdle then some (s.run.idle.getD s.now) else none } }

/-! ## Jobs -/

def State.setJob (i : Fin 16) (j : JobSlot) (s : State) : State := { s with jobs := s.jobs.set i j }

/-- A 16-bit count plus one, saturating (R6). -/
def count16 (x : Nat) : Nat := min 65535 (x + 1)

/-- A counter of a slot changes, unless the slot is FREE (R6). -/
def State.bump (i : Fin 16) (f : Counters → Counters) (s : State) : State :=
  let j := s.jobs[i]
  if j.state = .free then s else s.setJob i { j with counters := f j.counters }

def Counters.addOpened (c : Counters) : Counters := { c with opened := count16 c.opened }
def Counters.addLoose (c : Counters) : Counters := { c with loose := count16 c.loose }

/-- The counter an outcome is counted in (R6). -/
def Counters.addOutcome (o : SetOutcome) (c : Counters) : Counters :=
  match o with
  | .delivered => { c with delivered := count16 c.delivered }
  | .diverted => { c with diverted := count16 c.diverted }
  | .lost => { c with lost := count16 c.lost }
  | .purged => { c with purged := count16 c.purged }

/-- Whether a queue entry names a slot: only descriptors do (R23). -/
def Entry.names (i : Fin 16) : Entry → Bool
  | .descriptor d => d.slot = i
  | _ => false

/-- Whether a set record names a slot. -/
def SetTable.names (i : Fin 16) (t : SetTable) : Bool :=
  t.recs.toList.any fun x => match x with
    | some x => x.slot = i
    | none => false

/-- The condition of the completion test (R7). -/
def State.completes (i : Fin 16) (s : State) : Bool :=
  let j := s.jobs[i]
  (j.state = .closed || (j.state = .purging && j.closeSeen)) && !s.queue.entries.any (Entry.names i) && !s.sets.names i

/-- The completion test (R7): a slot that passes becomes FREE and gives its JOB notice. -/
def State.completionTest (i : Fin 16) (s : State) : State :=
  if s.completes i then
    let j := s.jobs[i]
    let cause := if j.state = .closed then Cause.jobComplete else .jobPurged
    (s.setJob i { j with state := .free }).notify
      ⟨cause, some i.val, some j.number, some j.counters.opened, some j.counters.delivered⟩ none
  else s

/-! ## Set records -/

def State.getRec (r : Fin 8) (s : State) : Option SetRec := s.sets.recs[r]

def State.setRec (r : Fin 8) (x : SetRec) (s : State) : State :=
  { s with sets := { s.sets with recs := s.sets.recs.set r (some x) } }

/-- A set record in use is changed. -/
def State.modRec (r : Fin 8) (f : SetRec → SetRec) (s : State) : State :=
  match s.getRec r with
  | some x => s.setRec r (f x)
  | none => s

/-- SETS stands while fewer than two records are FREE (R11). -/
def State.syncSets (s : State) : State := s.setReason .sets (s.sets.freeCount < 2)

/-- A record is allocated and joins the end of the allocation order (R11). -/
def State.allocate (r : Fin 8) (x : SetRec) (s : State) : State :=
  { s with sets := ⟨s.sets.recs.set r (some x), s.sets.order ++ [r]⟩ }.syncSets

/-- The slot of a record, as a number. -/
def SetRec.slotNat (x : SetRec) : Nat := x.slot.val

/-- A set is marked broken, unless it holds a reason already (R13). -/
def SetRec.markBroken (b : BrokenReason) (x : SetRec) : SetRec := { x with broken := some (x.broken.getD b) }

/-- The records of a table without record `r`: it is FREE, and a record whose next part it was has its next part instead (log
entry 17). -/
def SetTable.without (r : Fin 8) (t : SetTable) : SetTable :=
  let after := match t.recs[r] with
    | some x => x.nextPart
    | none => none
  { recs := Vector.ofFn fun k : Fin 8 =>
      (t.recs.set r none)[k].map fun x => if x.nextPart = some r then { x with nextPart := after } else x
    order := t.order.filter fun q => q ≠ r }

/-- A record is freed: SETS may drop, and the completion test is made for its slot (R7, R20), in the order of log entry 52. -/
def State.release (r : Fin 8) (slot : Fin 16) (s : State) : State :=
  { s with sets := s.sets.without r }.syncSets.completionTest slot

/-- The DISPOSITION of a set record (R20). -/
def SetRec.disp (x : SetRec) (o : SetOutcome) (dest : Option (Fin 41)) (sheets : Nat) (intoFull : Bool) : SetDisp :=
  ⟨o, dest, x.slot, x.jobNumber, x.setOrdinal, x.part, sheets, x.height.getD 0, x.result, x.skip, x.side, x.broken, x.divert, intoFull⟩

/-- A set record produces its one DISPOSITION, is counted and is freed (R20). -/
def State.produce (r : Fin 8) (x : SetRec) (o : SetOutcome) (dest : Option (Fin 41)) (sheets : Nat) (intoFull : Bool)
    (s : State) : State :=
  let lost : Notice := ⟨.dispositionLost, some 0, some x.slot.val, some x.setOrdinal, some x.part⟩
  let s := { s with report := s.report.dispose (.setDisp (x.disp o dest sheets intoFull)) lost }
  (s.bump x.slot (Counters.addOutcome o)).release r x.slot

/-- A loose sheet produces its DISPOSITION (R21). -/
def State.produceLoose (rejected : Bool) (seq : Option Seq) (reason : OrphanReason) (slotOrd : Option (Fin 16 × Nat))
    (s : State) : State :=
  let lost : Notice :=
    ⟨.dispositionLost, some 1, slotOrd.map fun x => x.1.val, slotOrd.map fun x => x.2, seq.map BitVec.toNat⟩
  { s with report := s.report.dispose (.looseDisp ⟨rejected, seq, reason, slotOrd⟩) lost }

/-! ## Bins -/

def State.modBin (b : Fin 41) (f : Bin → Bin) (s : State) : State := { s with bins := s.bins.set b (f s.bins[b]) }

/-- The notice a bin gives when its derived state, `was` before, has become FULL or NEAR FULL (R104). -/
def State.binNotice (was : BinState) (b : Fin 41) (s : State) : State :=
  let x := s.bins[b]
  let now := s.binState b
  if now = was then s
  else if now = .full then
    s.notify ⟨.binFull, some b.val, some x.fill, some x.capacity, some (if x.full.state = some true then 0 else 1)⟩ (towerOf b)
  else if now = .nearFull then s.notify ⟨.binNearFull, some b.val, some x.fill, some x.capacity, some x.margin⟩ (towerOf b)
  else s

/-- Bins whose derived state may have changed since `was` give their notices in number order; OVERFLOW FULL and the governor follow
(R104, R150, R152). That order is the model's choice (log entry 36). -/
def State.binsChanged (s was : State) (bs : List (Fin 41)) : State :=
  let s := bs.foldl (fun s b => s.binNotice (was.binState b) b) s
  (s.setReason .overflowFull (s.binState 0 = .full)).recombine

/-- One bin record changes and its state is derived again (R103). -/
def State.updateBin (b : Fin 41) (f : Bin → Bin) (s : State) : State := (s.modBin b f).binsChanged s [b]

/-- The sensors of a tower's bin become unqualified (R116, R117). -/
def Bin.unqualify (x : Bin) : Bin := { x with present := .unqualified, full := .unqualified }

/-- A tower is made not present, its qualifiers unqualified, and is polled no more (R116 to R118). -/
def Tower.unqualify (t : Tower) : Tower :=
  { t with present := false, power := .unqualified, door := .unqualified, poll := none, answered := false }

/-- Whether every bin of an entry's group has fill 0 and reserved 0 (R98). -/
def State.groupEmpty (e : RouteEntry) (s : State) : Bool :=
  (binRange e.first e.last).all fun b => s.bins[b].fill = 0 && s.bins[b].reserved = 0

/-- The cursor-return test for the entries whose groups contain bin `b` (R98). -/
def State.cursorReturn (b : Fin 41) (s : State) : State :=
  { s with
    routes := { s.routes with
      entries := s.routes.entries.map fun e =>
        if e.valid && e.policy = .sequence && decide (e.first ≤ b) && decide (b ≤ e.last) && s.groupEmpty e then
          { e with cursor := e.first }
        else e } }

/-- A height is reserved in a bin (R106). -/
def State.reserve (b : Fin 41) (h : Nat) (s : State) : State := s.modBin b fun x => { x with reserved := x.reserved + h }

/-- A reservation is removed from a bin (R106), with the cursor-return test of R98. Where the removal is also a bin event, the test comes
first: the model's choice, for R98, R106 and R113 fix no order (log entry 47). -/
def State.unreserve (b : Fin 41) (h : Nat) (s : State) : State :=
  (s.modBin b fun x => { x with reserved := x.reserved - h }).cursorReturn b

/-- A reservation a set holds in its chosen bin is removed (R106). -/
def State.dropReservation (r : Fin 8) (s : State) : State :=
  match s.getRec r with
  | some x =>
    match x.chosen with
    | some b => (s.setRec r { x with chosen := none }).unreserve b (x.height.getD 0)
    | none => s
  | none => s

/-- The offset side a set takes as it is given bin `b`, whose next side is toggled; NONE with the offset flag off (R108). -/
def State.takeSide (r : Fin 8) (b : Fin 41) (s : State) : State :=
  match s.getRec r with
  | none => s
  | some x =>
    if x.offset then
      let left := s.bins[b].nextSide = .left
      (s.setRec r { x with side := if left then .left else .right }).modBin b fun y =>
        { y with nextSide := if left then .right else .left }
    else s.setRec r { x with side := .none }

/-! ## Bin choice -/

/-- An admissible bin is chosen for a set (R95, steps 1 to 3); a bin it held before would be given back first (R106). -/
def State.choose (r : Fin 8) (b : Fin 41) (s : State) : State :=
  let s := s.dropReservation r
  match s.getRec r with
  | none => s
  | some x => ((s.setRec r { x with chosen := some b }).reserve b (x.height.getD 0)).takeSide r b

/-- The first of `bins` that admits the set is chosen; `moved` then says what becomes of the cursor (R93 to R95). -/
def State.scan (r : Fin 8) (h : Nat) (bins : List (Fin 41)) (moved : Fin 41 → State → State) (s : State) : State :=
  match bins.find? (s.admits h) with
  | some b => moved b (s.choose r b)
  | none => s

/-- A set is re-targeted to bin 0 without an admission test, the bin it held being given back (R106); it keeps a divert reason it already
carries (R92). -/
def State.retarget (r : Fin 8) (reason : DivertReason) (s : State) : State :=
  let s := s.dropReservation r
  match s.getRec r with
  | none => s
  | some x =>
    ((s.setRec r { x with divert := some (x.divert.getD reason), chosen := some 0 }).reserve 0 (x.height.getD 0)).takeSide r 0

/-- The cursor of entry `i` becomes bin `b` (R94). -/
def State.moveCursor (i : Fin 32) (b : Fin 41) (s : State) : State :=
  { s with routes := { s.routes with entries := s.routes.entries.set i { s.routes.entries[i] with cursor := b } } }

/-- A SEQUENCE scan: from the entry's present cursor where the generations are equal and the cursor lies in the snapshot's group, which
moves the cursor, and from the snapshot's first bin otherwise, which does not (R94). That the cursor moves so also where 256 writes have
brought an equal generation to an entry that is now FILL or has another group, against R86, is the model's choice (log entry 57). -/
def State.scanSequence (r : Fin 8) (h : Nat) (i : Fin 32) (first last : Fin 41) (gen : BitVec 8) (s : State) : State :=
  let e := s.routes.entries[i]
  if e.generation = gen ∧ first ≤ e.cursor ∧ e.cursor ≤ last then
    s.scan r h (binRange e.cursor last) (fun b s => s.moveCursor i b)
  else s.scan r h (binRange first last) (fun _ s => s)

/-- The Bin Selector treats a set by the first line of R91 that applies; a set that gets no bin is left without one. -/
def State.selectBin (r : Fin 8) (s : State) : State :=
  match s.getRec r with
  | none => s
  | some x =>
    let h := x.height.getD 0
    if x.divert.isSome then s.retarget r .purged
    else if x.broken.isSome then s.retarget r .broken
    else if 2 ≤ x.part then
      match x.partBin with
      | none => s
      | some b => s.scan r h [b] (fun _ s => s)
    else
      match x.route with
      | .none =>
        (s.retarget r .noRoute).notify ⟨.noRoute, some x.slot.val, some x.jobNumber, some x.setOrdinal, x.key⟩ none
      | .default b => s.scan r h [b] (fun _ s => s)
      | .entry i first last policy gen =>
        match policy with
        | .fill => s.scan r h (binRange first last) (fun _ s => s)
        | .sequence => s.scanSequence r h i first last gen

/-- A held set has been given a bin or diverted: it is READY TO EJECT where it is, its hold timer stops, and it is no compiler hold any
more (R131, R132). -/
def State.foundBin (r : Fin 8) (s : State) : State :=
  let s := s.modRec r fun x => { x with state := .readyToEject }
  { s with
    delivery := { s.delivery with
      holdTimer := if s.delivery.shelf = .occupied ∧ s.delivery.shelfSet = some r then none else s.delivery.holdTimer
      compilerHold := if s.delivery.compilerHold = some r then none else s.delivery.compilerHold } }

/-- Whether record `r` has a chosen bin. -/
def State.hasBin (r : Fin 8) (s : State) : Bool :=
  match s.getRec r with
  | some x => x.chosen.isSome
  | none => false

/-- A held part whose part bin has just been written is re-evaluated (R19, R97). -/
def State.reevaluatePart (r : Fin 8) (s : State) : State :=
  let s := s.selectBin r
  if s.hasBin r then s.foundBin r else s

/-- The later parts of a set that are already allocated, from a record's next part on (R19). -/
def SetTable.laterParts (t : SetTable) : Nat → Option (Fin 8) → List (Fin 8)
  | 0, _ => []
  | _, none => []
  | fuel + 1, some r =>
    match t.recs[r] with
    | some x => r :: t.laterParts fuel x.nextPart
    | none => []

/-- Part 1's bin, and its divert reason if it has one, are written to one later part, which is re-evaluated if it is held (R19). A divert
reason already carried stays, and so does that of a part ON BELT, or its lack of one (R17; log entry 17). -/
def State.passTo (b : Fin 41) (divert : Option DivertReason) (s : State) (k : Fin 8) : State :=
  match s.getRec k with
  | none => s
  | some x =>
    let divert := if x.state = .onBelt then none else divert
    let s := s.setRec k { x with partBin := some b, divert := x.divert.orElse fun _ => divert }
    if x.state = .held then s.reevaluatePart k else s

/-- Part 1 of a split set passes the bin it was given to its later parts (R19). -/
def State.passPartBin (r : Fin 8) (s : State) : State :=
  match s.getRec r with
  | some x =>
    match x.chosen with
    | some b => if x.part = 1 then (s.sets.laterParts 8 x.nextPart).foldl (fun s k => s.passTo b x.divert k) s else s
    | none => s
  | none => s

/-- A bin choice (R15, R91): the Bin Selector's result, passed on to the later parts of a split set. -/
def State.binChoice (r : Fin 8) (s : State) : State := (s.selectBin r).passPartBin r

/-! ## Held sets -/

/-- A held set is re-evaluated (R97, R131). -/
def State.reevaluate (r : Fin 8) (s : State) : State :=
  let s := s.selectBin r
  if s.hasBin r then (s.foundBin r).passPartBin r else s

/-- Whether bin `b` is a candidate of a set (R131). -/
def SetRec.candidate (b : Fin 41) (x : SetRec) : Bool :=
  if 2 ≤ x.part then x.partBin = some b
  else
    match x.route with
    | .none => false
    | .default d => d = b
    | .entry _ first last _ _ => decide (first ≤ b) && decide (b ≤ last)

/-- A record is re-evaluated for a bin event of `b` if it is HELD and `b` is a candidate (R131). -/
def State.reevaluateFor (b : Fin 41) (r : Option (Fin 8)) (s : State) : State :=
  match r with
  | none => s
  | some r =>
    match s.getRec r with
    | some x => if x.state = .held && x.candidate b then s.reevaluate r else s
    | none => s

/-- The set on the shelf, if one is there (R125). -/
def Delivery.onShelf (d : Delivery) : Option (Fin 8) := if d.shelf = .occupied then d.shelfSet else none

/-- A bin event: the held sets are re-evaluated, the shelf set first and then the compiler hold (R131). -/
def State.binEvent (s : State) (b : Fin 41) : State :=
  let s := s.reevaluateFor b s.delivery.onShelf
  s.reevaluateFor b s.delivery.compilerHold

/-- A held set is diverted (R132). -/
def State.divertHeld (r : Fin 8) (reason : DivertReason) (s : State) : State :=
  ((s.retarget r reason).foundBin r).passPartBin r

/-- The hold timer reaches the hold limit: the shelf set is diverted, and EXPIRED is given (R133). -/
def State.holdExpires (s : State) : State :=
  match s.delivery.onShelf with
  | none => s
  | some r =>
    match s.getRec r with
    | none => s
    | some x =>
      (s.divertHeld r .holdTimeout).notify ⟨.expired, some x.slot.val, some x.jobNumber, some x.setOrdinal, some x.part⟩ none

/-! ## The compiler and the stapler -/

/-- The staples a pattern needs (R72, R76). -/
def Pattern.staples : Pattern → Nat
  | .none => 0
  | .corner => 1
  | .edge2 => 2

/-- The compiler changes its state; leaving STAPLE WAIT for any cause drops STAPLES (R73). -/
def State.setCompiler (c : CompilerState) (s : State) : State :=
  let s' := { s with compiler := { s.compiler with state := c } }
  if s.compiler.state = .stapleWait ∧ c ≠ .stapleWait then s'.drop .staples else s'

/-- Finishing is done: the set is READY TO EJECT with a chosen bin and HELD without one, and waits in the compiler (R16, R81). -/
def State.awaitEject (r : Fin 8) (c : CompilerState) (s : State) : State :=
  let chosen := s.hasBin r
  let s := s.modRec r fun x => { x with state := if chosen then .readyToEject else .held }
  { s with delivery := { s.delivery with compilerHold := if chosen then s.delivery.compilerHold else some r } }.setCompiler c

/-- A staple operation starts (R76); its decrement may give LOW (R80), after the governor has read the count (log entry 52). The head is
away from here on until it is seen home (log entry 9). -/
def State.startStaple (s : State) : State :=
  let before := s.stapler.count
  let s : State :=
    { s with
      stapler := { s.stapler with state := .stapling, count := before - 1, drive := true, homeTimer := some s.now }
      pins := { s.pins with home := Config.headHome s.draws }
      draws := s.draws + 1 }
  let s := s.recombine
  if s.stapler.low ≤ before && before - 1 < s.stapler.low then
    s.notify ⟨.stapleLow, some (before - 1), some s.stapler.low, none, none⟩ none
  else s

/-- The staple result when stapling ends (R77). -/
def stapleResult (needed made : Nat) : StapleResult :=
  if needed ≤ made then .stapled else if made = 0 then .failed else .partly

/-- The state the stapler leaves STAPLING for (R77). -/
def Stapler.after (timedOut : Bool) (p : Stapler) : StaplerState :=
  if timedOut then .fault
  else if p.cartridge.state = some false then .noCartridge
  else if p.emptySensor.state = some true then .empty
  else .ready

/-- A purged set leaves finishing: its result if it was not stapled, its height if it was not fixed, and bin 0 with the reason PURGED in
place of a bin it held; the bin that lost a reservation has its bin event (R83, R106, R113). That event comes last, after the cursor-return
test of the bin: the model's choice (log entry 47). -/
def State.purgedEject (r : Fin 8) (s : State) : State :=
  match s.getRec r with
  | none => s
  | some x =>
    let result := if x.state = .stapling then x.result else if x.pattern = .none then .notRequested else .skipped
    let s := (s.dropReservation r).modRec r fun x => { x with result := result, height := some (x.height.getD x.thickness) }
    let s := (s.retarget r .purged).awaitEject r .ejecting
    match x.chosen with
    | some b => s.binEvent b
    | none => s

/-- The set in the compiler is complete: FINISHING with its jog, or out of finishing if it is purged (R14, R69, R83). That the jogger that
squares the stack is shown by the jog timer alone, and not by the jogger of the bins, is the model's choice (log entry 49). -/
def State.partComplete (r : Fin 8) (s : State) : State :=
  match s.getRec r with
  | none => s
  | some x =>
    if x.divert = some .purged then s.purgedEject r
    else
      let s := s.setRec r { x with state := .compiling }
      { s with compiler := { s.compiler with jog := some s.now } }.setCompiler .finishing

/-- The forming set leaves FORMING for GATHERING (R13), and is complete at once if all its bound sheets have landed (R38). -/
def State.closeForming (r : Fin 8) (s : State) : State :=
  match s.getRec r with
  | none => s
  | some x =>
    let s := { s.setRec r { x with state := .gathering } with binder := { s.binder with forming := none } }
    if x.compiled = x.bound then s.partComplete r else s

/-- The set in the compiler, with its record. -/
def State.currentRec (s : State) : Option (Fin 8 × SetRec) :=
  match s.compiler.current with
  | none => none
  | some r => (s.getRec r).map fun x => (r, x)

/-- The stapler leaves STAPLING for a given state: its drive is released, its timer stopped, its counts cleared (R77, R84). That stop pending
is cleared too where a jam finds the head away is the model's choice, for R84 does not name it (log entry 44). -/
def Stapler.leave (next : StaplerState) (p : Stapler) : Stapler :=
  { p with state := next, made := 0, stopPending := false, drive := false, homeTimer := none }

/-- The STAPLE FAULT notice for operation `op` of the set in the compiler (R76, R84). -/
def State.notifyFault (x : Option SetRec) (op : Nat) (s : State) : State :=
  s.notify ⟨.stapleFault, x.map SetRec.slotNat, x.map SetRec.jobNumber, x.map SetRec.setOrdinal, some op⟩ none

/-- Stapling of the set in the compiler ends (R77). -/
def State.staplingEnds (timedOut : Bool) (s : State) : State :=
  match s.currentRec with
  | none => s
  | some (r, x) =>
    let s := s.setRec r { x with result := stapleResult x.pattern.staples s.stapler.made }
    let s := { s with stapler := s.stapler.leave (s.stapler.after timedOut) }
    if x.divert = some .purged then s.purgedEject r else s.awaitEject r .ejecting

/-- The capacity sum of R66: the contents and the sheets in flight with one more sheet. -/
def Compiler.sum (c : Compiler) (thickness : Nat) : Nat := c.contents + c.inFlight + thickness

/-- The compiler is ready for a sheet of record `r` (R66). -/
def State.compilerReady (r : Fin 8) (thickness : Nat) (s : State) : Bool :=
  (s.compiler.state = .empty && s.path.se.isNone) ||
    (s.compiler.state = .collecting && s.compiler.current = some r && s.compiler.splitSheet.isNone &&
      s.compiler.sum thickness ≤ Config.compilerCapacity)

/-- The readiness test fails on the capacity sum alone (R70). -/
def State.overCapacity (r : Fin 8) (thickness : Nat) (s : State) : Bool :=
  s.compiler.state = .collecting && s.compiler.current = some r && s.compiler.splitSheet.isNone &&
    Config.compilerCapacity < s.compiler.sum thickness

/-- The path-list entry with a given id. -/
def PathMonitor.entry (p : PathMonitor) (id : EntryName) : Option PathEntry := p.list.find? fun e => e.id = id

/-- The path list with one of its entries changed. -/
def PathMonitor.modEntry (id : EntryName) (f : PathEntry → PathEntry) (p : PathMonitor) : PathMonitor :=
  { p with list := p.list.map fun e => if e.id = id then f e else e }

/-- The record and the snapshot of a bound sheet. -/
def PathEntry.boundTo (e : PathEntry) : Option (Fin 8 × Media) :=
  match e.body with
  | .bound r _ snap => some (r, snap)
  | .orphan _ => none

/-- The sheet at the head of the entry buffer, with its record and snapshot. -/
def PathMonitor.bufferHead (p : PathMonitor) : Option (PathEntry × Fin 8 × Media) :=
  match p.buffer with
  | [] => none
  | id :: _ =>
    match p.entry id with
    | some e => e.boundTo.map fun x => (e, x.1, x.2)
    | none => none

/-- Whether record `b` is record `a` or a part continuing it (R52). -/
def SetTable.continues (t : SetTable) (a b : Fin 8) : Bool :=
  a = b || b ∈ (match t.recs[a] with
    | some x => t.laterParts 8 x.nextPart
    | none => [])

/-- Every entry at TO SC belongs to the same set as record `r` (R52, R53). -/
def State.sameSetInFlight (r : Fin 8) (s : State) : Bool :=
  s.path.list.all fun e => e.stage ≠ .toSC ||
    match e.boundTo with
    | some (q, _) => s.sets.continues q r
    | none => false

/-- The readiness test made for the head of the entry buffer: a failure on capacity alone makes it the split sheet (R53, R70). -/
def State.bufferTest (s : State) : State :=
  match s.path.bufferHead with
  | some (e, r, snap) =>
    if s.overCapacity r snap.thickness then { s with compiler := { s.compiler with splitSheet := some e.id } } else s
  | none => s

/-- A landing handed to the compiler (R14, R67, R68). That the sheet's thickness is in flight until this moment, also while it is ARRIVED
with S1 still covered, is the model's choice: R67 takes it out here, and R65 counts the entries at TO SC alone (log entry 54). -/
def State.landing (r : Fin 8) (snap : Media) (s : State) : State :=
  match s.getRec r with
  | none => s
  | some x =>
    let x' := { x with compiled := x.compiled + 1, thickness := x.thickness + snap.thickness, place := .compiler }
    let s := s.setRec r x'
    let s := { s with
      compiler := { s.compiler with
        inFlight := s.compiler.inFlight - snap.thickness
        state := if s.compiler.state = .empty then .collecting else s.compiler.state
        current := if s.compiler.state = .empty then some r else s.compiler.current
        contents := x'.thickness }
      path := { s.path with firstLen := if x'.compiled = 1 then some snap.length else s.path.firstLen } }
    if x'.state = .gathering ∧ x'.compiled = x'.bound then s.partComplete r else s

/-- The effect of an arrival once its entry has left the path list: a landing, or the orphan's LOOSE disposition (R49, R54, R55). -/
def State.arrivalEffect (e : PathEntry) (s : State) : State :=
  match e.body with
  | .bound r _ snap => (s.landing r snap).bufferTest
  | .orphan reason => s.produceLoose true e.seq reason e.slotOrd

/-- An entry leaves the path list once it is ARRIVED with S1 clear, and its arrival takes effect (R49). -/
def State.leaveIfDone (id : EntryName) (s : State) : State :=
  match s.path.entry id with
  | some e =>
    if e.stage = .arrived && e.s1Clear then
      { s with path := { s.path with list := s.path.list.filter fun x => x.id ≠ id } }.arrivalEffect e
    else s
  | none => s

/-! ## Departures -/

/-- The delivery list takes a set for bin `b` (R126). -/
def State.listTakes (b : Fin 41) (s : State) : Bool :=
  decide (s.delivery.list.length < Config.listCapacity) && s.delivery.g0Busy.isNone && s.reachable b

/-- The set on the shelf that may be released, with its bin (R130). -/
def State.shelfReady (s : State) : Option (Fin 8 × Fin 41) :=
  match s.delivery.onShelf with
  | none => none
  | some r =>
    match s.getRec r with
    | none => none
    | some x =>
      match x.chosen with
      | some b => if x.state = .readyToEject && s.path.se.isNone && s.working && s.listTakes b then some (r, b) else none
      | none => none

/-- Whether the eject of a set in the compiler has started: it has claimed a place on the list or the shelf (R127). -/
def State.ejectStarted (r : Fin 8) (s : State) : Bool := s.delivery.shelfSet = some r || s.delivery.list.any fun e => e.set = r

/-- The set in the compiler that may start to leave (R81, R126); the shelf set is served first, and a set whose eject has started is tested
no more. -/
def State.ejectReady (s : State) : Option (Fin 8 × Option (Fin 41)) :=
  match s.compiler.current with
  | none => none
  | some r =>
    match s.getRec r with
    | none => none
    | some x =>
      if (s.compiler.state = .ejecting || s.compiler.state = .splitEject) && s.path.se.isNone && s.working && !s.ejectStarted r then
        match x.chosen with
        | some b => if s.shelfReady.isNone && s.listTakes b then some (r, some b) else none
        | none => if s.delivery.shelf = .free then some (r, none) else none
      else none

/-- The sensor a set for bin `b` arrives at (R125). -/
def targetOf (b : Fin 41) : Target :=
  match towerOf b with
  | none => .s0
  | some t => .te t

/-- G0 is set for a target and becomes busy (R125). -/
def Delivery.setG0 (t : Target) (now : Nat) (d : Delivery) : Delivery :=
  { d with g0 := if t = .s0 then .bin0 else .belt, g0Busy := some now }

/-- Whether the delivery list holds a set whose chosen bin lies in a tower (R138). -/
def State.listHolds (t : Fin 4) (s : State) : Bool :=
  s.delivery.list.any fun e =>
    match s.getRec e.set with
    | some x => x.chosen.any fun b => towerOf b = some t
    | none => false

/-! ## Jams -/

/-- A JAM's flush of the Descriptor Queue: the queue after it, the number of entries removed, and the oldest one's seq (R31). -/
def DescQueue.flushed (q : DescQueue) : DescQueue := { q with entries := [], debt := 0, nextOwed := none }

/-- The seq a queue entry carries, if it carries one (R23). -/
def Entry.seq? : Entry → Option Seq
  | .descriptor d => some d.seq
  | .gap s => s
  | .void s => some s

/-- The completion test for the slot a removed entry names (R29, R31). -/
def State.afterRemoval (s : State) (e : Entry) : State :=
  match e with
  | .descriptor d => s.completionTest d.slot
  | _ => s

/-- What a jam does to the compiler and the stapler before the sets are lost (R84): a set being stapled has its result fixed, and a
stapler caught away from home is FAULT with its notice. -/
def State.jamFinishing (s : State) : State :=
  let cur := s.currentRec
  let s : State := match cur with
    | some (r, x) =>
      if x.state = SetState.stapling then s.setRec r { x with result := stapleResult x.pattern.staples s.stapler.made } else s
    | none => s
  let s := { s with compiler := .reset }
  if s.stapler.state = .stapling then
    let away := !s.pins.home
    let s := { s with stapler := s.stapler.leave (s.stapler.after away) }
    if away then s.notifyFault (cur.map Prod.snd) 0 else s
  else s

/-- One set record is lost in a jam: its reservation is removed, it produces its LOST disposition and is freed (R62). -/
def State.loseSet (s : State) (r : Fin 8) : State :=
  match s.getRec r with
  | none => s
  | some x =>
    let s := match x.chosen with
      | some b => s.unreserve b (x.height.getD 0)
      | none => s
    s.produce r x .lost none x.bound false

/-- One path-list entry is lost in a jam: an orphan produces its LOST disposition (R61). -/
def State.loseEntry (s : State) (e : PathEntry) : State :=
  match e.body with
  | .orphan reason => s.produceLoose false e.seq reason e.slotOrd
  | .bound .. => s

/-- The run state at entry to JAM (R149). -/
def RunController.jammed (c : RunController) : RunController :=
  { c with op := .jam, startup := none, spinUp := none, wake := none, idle := none, standby := none }

/-- A jam kind is detected (R59): in JAM it is a second jam and only latched (R63); otherwise the jam is declared with the effects of
R31, R60 to R62, R84, R139 and R149. The order of what it hands over is the model's choice: the JAM notice, the JOB notices of the flushed
descriptors' completion tests, the STAPLE FAULT notice, and then the LOST dispositions (log entries 12 and 37). -/
def State.jam (kind : JamKind) (at_ : Sensor) (s : State) : State :=
  if s.run.op = .jam then { s with report := s.report.latchOnly (.jam kind) }
  else
    let removed := s.queue.entries
    let lostPath := s.path.list
    let s := { s with run := s.run.jammed }.raise .jam
    let s := ((s.drop .spinUp).drop .wake).drop .paused
    let s := { s with queue := s.queue.flushed }.drop .queue
    let s := s.notify
      ⟨.jam kind, some kind.code, some at_.code, some removed.length, (removed.head?.bind Entry.seq?).map BitVec.toNat⟩ none
    let s := removed.foldl State.afterRemoval s
    let s := s.jamFinishing
    let s := s.sets.order.foldl State.loseSet s
    let s := lostPath.foldl State.loseEntry s
    let s := { s with
      path := { s.path with list := [], buffer := [], s1 := none, s2 := none, firstLen := none, se := none }
      binder := { s.binder with forming := none }
      delivery := { s.delivery with
        shelf := .free, shelfSet := none, holdTimer := none, compilerHold := none, list := [], g0Busy := none, jogger := none } }
    ((s.drop .buffer).drop .sets).drop .staples |>.recombine

/-! ## Confirmation -/

/-- The outcome of a confirmed set (R17). -/
def SetRec.outcome (x : SetRec) : SetOutcome :=
  match x.divert with
  | some .purged => .purged
  | some _ => .diverted
  | none => .delivered

/-- The jogger as a set enters bin `b`: driven to the set's offset side, or not driven for a set without one (R108, R136; log entry 49). -/
def SetRec.jogs (b : Fin 41) (x : SetRec) : Option (Fin 41 × OffsetSide) := if x.side = .none then none else some (b, x.side)

/-- A set's arrival in its chosen bin is confirmed (R107, R136); a set without one is never on the list (R127). -/
def State.confirm (r : Fin 8) (s : State) : State :=
  let s := { s with delivery := { s.delivery with list := s.delivery.list.filter fun e => e.set ≠ r } }
  match s.getRec r with
  | none => s
  | some x =>
    match x.chosen with
    | none => s
    | some b =>
      let h := x.height.getD 0
      let s := { s with delivery := { s.delivery with jogger := x.jogs b } }
      let intoFull := s.binState b = .full
      let s := s.updateBin b fun y =>
        { y with fill := min 9999 (y.fill + h), reserved := y.reserved - h, count := count16 y.count }
      (s.cursorReturn b).produce r x x.outcome (some b) x.compiled intoFull

/-- The oldest TRAVELLING entry for a target (R135). -/
def Delivery.expecting (t : Target) (d : Delivery) : Option ListEntry :=
  d.list.find? fun e => match e.travel with
    | some v => v.target = t
    | none => false

/-- The sensor of a delivery target. -/
def targetSensor : Target → Sensor
  | .s0 => .s0
  | .te t => .te t

/-- An arrival at S0 or TEt (R135); outside RUNNING and PAUSED it has no effect (R57). -/
def State.arrive (t : Target) (s : State) : State :=
  if s.working then
    match s.delivery.expecting t with
    | some e => s.confirm e.set
    | none => s.jam .unexpectedSet (targetSensor t)
  else s

/-! ## The end of every command -/

/-- A command is answered. While RESETn is low the part is held and nothing happens in it (R141, R166); afterwards the idle timer
follows the idle condition (R145). -/
def State.does (s : State) (f : State → State) : Host.Outcome State Fault Refusal :=
  .next (if s.run.resetLow then s else (f s).syncIdle)

end Sys2Proof.Machine
end

