-- ==== Sys2Proof/Machine/Finishing.lean ====
section
/-! DEFINITION. Finishing and delivery: split ejects (R70, R71), the staple decision (R69, R72, R73), staple operations (R76, R77),
ejects (R81, R127), releases from the shelf (R130), and the gate, hold and cartridge events (R74, R78, R79, R125, R133). -/

namespace Sys2Proof.Machine

/-! ## Split ejects -/

/-- What a split eject needs (R70): a split sheet standing, nothing in flight, a FREE record, and the set in the compiler. -/
def State.splitReady (s : State) : Option (Fin 8 × SetRec × Fin 8) :=
  if s.compiler.splitSheet.isSome && s.compiler.state = .collecting && s.compiler.inFlight = 0 then
    match s.currentRec, s.sets.freeIndex with
    | some (r, x), some c => some (r, x, c)
    | _, _ => none
  else none

/-- The part number a record is ejected under (R18). -/
def SetRec.ejectedPart (x : SetRec) : Nat := if x.part = 0 then 1 else x.part

/-- The continuing part of a split record (R18, R19); what they do not list is as at allocation (log entry 23). That its part number goes on
past 255, the end of R10's range, to 256 and further, is the model's choice, for no rule says what follows part 255 (log entry 55). -/
def SetRec.continuing (x : SetRec) : SetRec :=
  { x with
    part := x.ejectedPart + 1, bound := x.bound - x.compiled, compiled := 0, thickness := 0, allEligible := true
    decision := none, result := .notRequested, skip := none, height := none, chosen := none, nextPart := none
    side := .none, place := .path }

/-- The staple decision, result and skip reason of an ejected part, which is never stapled, and its height (R71). -/
def SetRec.splitDecided (x : SetRec) : SetRec :=
  let none_ := x.pattern = .none
  { x with
    decision := some (if none_ then .notRequested else .skip)
    result := if none_ then .notRequested else .skipped
    skip := if none_ then none else some (if x.broken.isSome then .broken else .overLimit)
    height := some x.thickness }

/-- The ejected part of a split record (R18); it has no bin before its own bin choice. -/
def SetRec.ejected (c : Fin 8) (x : SetRec) : SetRec :=
  { x with part := x.ejectedPart, bound := x.compiled, nextPart := some c, chosen := none, state := .compiling }

/-- A path-list entry that named the ejected part names the continuing part (R71). -/
def PathEntry.rename (r c : Fin 8) (e : PathEntry) : PathEntry :=
  match e.body with
  | .bound q m snap => if q = r then { e with body := .bound c m snap } else e
  | .orphan _ => e

/-- A split eject is started (R71). -/
def State.splitEject (r : Fin 8) (x : SetRec) (c : Fin 8) (s : State) : State :=
  let s := { s with compiler := { s.compiler with splitSheet := none } }.setCompiler .splitEject
  let s := ((s.dropReservation r).allocate c x.continuing).setRec r (x.ejected c).splitDecided
  let s := { s with
    path := { s.path with list := s.path.list.map (PathEntry.rename r c) }
    binder := { s.binder with forming := if s.binder.forming = some r then some c else s.binder.forming } }
  (s.binChoice r).awaitEject r .splitEject

/-- SPLIT_EJECT_START (R71). -/
def execSplitEjectStart (s : State) : Host.Outcome State Fault Refusal :=
  s.does fun s =>
    match s.splitReady with
    | some (r, x, c) => s.splitEject r x c
    | none => s

/-! ## The staple decision -/

/-- The first condition against stapling that holds (R72). -/
def skipReason (p : Stapler) (x : SetRec) : Option SkipReason :=
  if x.broken.isSome then some .broken
  else if x.part ≠ 0 || Config.stapleLimit < x.thickness then some .overLimit
  else if !x.allEligible then some .media
  else if p.state = .fault then some .staplerFault
  else if p.state = .empty || p.state = .noCartridge || (p.state = .ready && p.count < x.pattern.staples) then some .noStaples
  else none

/-- Whether a skip reason is one the WAIT policy waits for (R72). -/
def SkipReason.awaited : SkipReason → Bool
  | .staplerFault | .noStaples => true
  | _ => false

/-- The staple decision of a completed set that is not purged, with its skip reason (R72, R73). -/
def SetRec.decide (p : Stapler) (x : SetRec) : StapleDecision × Option SkipReason :=
  if x.pattern = .none then (.notRequested, none)
  else
    match skipReason p x with
    | none => (.staple, none)
    | some k => if k.awaited && x.policy = .wait then (.wait, none) else (.skip, some k)

/-- The record with its decision, its result so far, and its height (R15, R72). -/
def SetRec.decided (d : StapleDecision) (k : Option SkipReason) (x : SetRec) : SetRec :=
  { x with
    decision := some d
    skip := k
    result := if d = .skip then .skipped else .notRequested
    height := some (if d = .staple || d = .wait then x.thickness + Config.stapleBulge else x.thickness) }

/-- Stapling of a set begins with its first operation (R69, R76). -/
def State.beginStapling (r : Fin 8) (s : State) : State :=
  let s := s.modRec r fun x => { x with state := .stapling }
  (s.setCompiler .stapling).startStaple

/-- The end of the jog: decision, height, bin, and the compiler's way on (R69). -/
def State.decideSet (r : Fin 8) (x : SetRec) (s : State) : State :=
  let dk := x.decide s.stapler
  let s := (s.dropReservation r).modRec r (SetRec.decided dk.1 dk.2)
  match dk.1 with
  | .staple => (s.binChoice r).beginStapling r
  | .wait =>
    let s := s.modRec r fun x => { x with state := .stapleWait }
    (s.setCompiler .stapleWait).raise .staples
  | _ => (s.binChoice r).awaitEject r .ejecting

/-- JOG_END (R69): the 150 ms jog ends; a purged set leaves without a decision (R83). -/
def execJogEnd (s : State) : Host.Outcome State Fault Refusal :=
  s.does fun s =>
    match s.compiler.jog with
    | none => s
    | some start =>
      let s := s.reach (start + Config.jogTime)
      let s := { s with compiler := { s.compiler with jog := none } }
      match s.currentRec with
      | none => s
      | some (r, x) => if x.divert = some .purged then s.purgedEject r else s.decideSet r x

/-! ## Staple operations -/

/-- Whether a second operation of the set begins after a good staple (R76, R83). -/
def State.secondStaple (x : SetRec) (s : State) : Bool :=
  s.stapler.made < x.pattern.staples && !s.stapler.stopPending && s.stapler.cartridge.state = some true && 1 ≤ s.stapler.count &&
    x.divert ≠ some .purged

/-- A good staple (R76): the next operation begins, or stapling ends (R77). -/
def State.goodStaple (s : State) : State :=
  let s := { s with stapler := { s.stapler with made := s.stapler.made + 1, drive := false, homeTimer := none } }
  match s.currentRec with
  | some (_, x) => if s.secondStaple x then s.startStaple else s.staplingEnds false
  | none => s.staplingEnds false

/-- STAPLE_HOME_RETURN (R76): the head is home again within 600 ms. -/
def execStapleHomeReturn (s : State) : Host.Outcome State Fault Refusal :=
  s.does fun s =>
    let s := { s with pins := { s.pins with home := true } }
    match s.stapler.homeTimer with
    | some start => if s.now - start ≤ Config.homeTime then s.goodStaple else s
    | none => s

/-- STAPLE_HOME_TIMEOUT (R76): the home timer reaches 600 ms. -/
def execStapleHomeTimeout (s : State) : Host.Outcome State Fault Refusal :=
  s.does fun s =>
    match s.stapler.homeTimer with
    | some start =>
      let s := s.reach (start + Config.homeTime)
      (s.notifyFault (s.currentRec.map Prod.snd) (s.stapler.made + 1)).staplingEnds true
    | none => s

/-! ## Ejects and releases -/

/-- The eject of a set starts: the SE watch takes it, and its place is claimed (R81, R127). -/
def State.eject (r : Fin 8) (b : Option (Fin 41)) (s : State) : State :=
  { s with
    path := { s.path with se := some ⟨r, s.path.firstLen.getD 0, false, some ⟨s.now, Config.ejectLimit⟩, none⟩ }
    compiler := { s.compiler with ejectDrive := true }
    delivery :=
      match b with
      | some _ => { s.delivery with list := s.delivery.list ++ [⟨r, none⟩] }
      | none => { s.delivery with shelf := .incoming, shelfSet := some r } }

/-- EJECT_START (R81). -/
def execEjectStart (s : State) : Host.Outcome State Fault Refusal :=
  s.does fun s =>
    match s.ejectReady with
    | some (r, b) => s.eject r b
    | none => s

/-- The shelf set is released onto the delivery list (R130). -/
def State.releaseShelf (r : Fin 8) (b : Fin 41) (s : State) : State :=
  let t := targetOf b
  let s := s.modRec r fun x => { x with state := .onBelt, place := .list }
  let d := s.delivery
  ({ s with
    delivery :=
      ({ d with
        list := d.list ++ [⟨r, some ⟨t, ⟨s.now, s.path.deliveryLimit t⟩⟩⟩]
        shelf := .free
        shelfSet := none } : Delivery).setG0 t s.now } : State).recombine

/-- SHELF_RELEASE (R130). -/
def execShelfRelease (s : State) : Host.Outcome State Fault Refusal :=
  s.does fun s =>
    match s.shelfReady with
    | some (r, b) => s.releaseShelf r b
    | none => s

/-- G0_GATE_FREE (R125): the gate time ends. It is computed from the timing settings as they stand, so a TIMING write taken while the gate
is busy changes it: the model's choice (log entry 48). -/
def execG0GateFree (s : State) : Host.Outcome State Fault Refusal :=
  s.does fun s =>
    match s.delivery.g0Busy with
    | some start =>
      let s := s.reach (start + s.path.gateTime)
      { s with delivery := { s.delivery with g0Busy := none } }
    | none => s

/-- HOLD_TIMER_EXPIRY (R133). -/
def execHoldTimerExpiry (s : State) : Host.Outcome State Fault Refusal :=
  s.does fun s =>
    match s.delivery.holdTimer with
    | some start => (s.reach (start + s.delivery.holdLimit * 1000)).holdExpires
    | none => s

/-! ## The cartridge -/

/-- Whether a set is in STAPLE WAIT (R73). -/
def State.waits (s : State) : Bool := s.compiler.state = .stapleWait

/-- The cartridge sensor, an input of the part, takes a qualified state (log entry 20). -/
def State.setCartridge (v : Bool) (s : State) : State :=
  { s with stapler := { s.stapler with cartridge := .qualified v }, pins := { s.pins with cartridge := v } }

/-- The cartridge-empty sensor, an input of the part, takes a qualified state (log entry 20). -/
def State.setEmptySensor (v : Bool) (s : State) : State :=
  { s with stapler := { s.stapler with emptySensor := .qualified v }, pins := { s.pins with emptySensor := v } }

/-- A set in STAPLE WAIT leaves it once the stapler is READY with staples enough for its pattern (R74). -/
def State.waitTest (s : State) : State :=
  match s.currentRec with
  | none => s
  | some (r, x) =>
    if s.waits && s.stapler.state = .ready && x.pattern.staples ≤ s.stapler.count then
      let s := s.drop .staples
      let s := s.setRec r { x with decision := some .staple }
      (s.binChoice r).beginStapling r
    else s

/-- The stapler at an insertion (R78): STAPLING goes on, and every other state is left. -/
def Stapler.insert (p : Stapler) : Stapler :=
  let covered := p.emptySensor.state = some true
  { p with
    count := if covered then 0 else Config.freshCartridge
    state := if p.state = .stapling then .stapling else if covered then .empty else .ready }

/-- CARTRIDGE_INSERTION (R78): the cartridge sensor qualifies fitted. -/
def execCartridgeInsertion (s : State) : Host.Outcome State Fault Refusal :=
  s.does fun s =>
    if s.stapler.cartridge.state = some true then s
    else
      let s := s.setCartridge true
      let s := { s with stapler := s.stapler.insert }
      let s := s.recombine
      (s.notify ⟨.stapleInserted, some s.stapler.count, some s.waits.toNat, none, none⟩ none).waitTest

/-- The stapler at a removal (R78). -/
def Stapler.remove (p : Stapler) : Stapler :=
  { p with
    count := 0
    stopPending := if p.state = .stapling then true else p.stopPending
    state := if p.state = .stapling then .stapling else .noCartridge }

/-- CARTRIDGE_REMOVAL (R78): the sensor qualifies absent; its first qualification as absent gives no notice (R75). -/
def execCartridgeRemoval (s : State) : Host.Outcome State Fault Refusal :=
  s.does fun s =>
    match s.stapler.cartridge.state with
    | some false => s
    | none => s.setCartridge false
    | some true =>
      let before := s.stapler.count
      let s := s.setCartridge false
      let s := { s with stapler := s.stapler.remove }
      s.recombine.notify ⟨.stapleRemoved, some before, none, none, none⟩ none

/-- The stapler as its cartridge-empty sensor is covered (R79). -/
def Stapler.exhaust (p : Stapler) : Stapler :=
  { p with
    count := 0
    stopPending := if p.state = .stapling then true else p.stopPending
    state := if p.state = .ready then .empty else p.state }

/-- CARTRIDGE_EMPTY_COVERED (R79). -/
def execCartridgeEmptyCovered (s : State) : Host.Outcome State Fault Refusal :=
  s.does fun s =>
    if s.stapler.emptySensor.state = some true then s
    else
      let before := s.stapler.count
      let s := s.setEmptySensor true
      let s := { s with stapler := s.stapler.exhaust }
      s.recombine.notify ⟨.stapleEmpty, some before, none, none, none⟩ none

/-- CARTRIDGE_EMPTY_CLEAR (R79): the state and the count are unchanged. -/
def execCartridgeEmptyClear (s : State) : Host.Outcome State Fault Refusal :=
  s.does fun s => if s.stapler.emptySensor.state = some false then s else s.setEmptySensor false

end Sys2Proof.Machine
end

