-- ==== Sys2Proof/Machine/Resets.lean ====
section
/-! DEFINITION. Resets, start-up and enumeration (R117, R124, R141 to R143, R172). -/

namespace Sys2Proof.Machine

/-! ## Resets -/

/-- A CONTROL RESET (R172): the whole part takes its reset values and starts up with cause RESET RECORD. -/
def State.resetRecord (s : State) : State := (s.hold .resetRecord false).start

/-- The supply rises (R141, R143): every block at its reset values with cause POWER ON, held there while RESETn is also low. -/
def execPowerOn (s : State) : Host.Outcome State Fault Refusal :=
  .next (if s.run.resetLow then s.hold .powerOn true else (s.hold .powerOn false).start)

/-- RESETn goes low with the supply stable (R141, R143); while it is low already there is nothing to go low. -/
def execResetnLow (s : State) : Host.Outcome State Fault Refusal :=
  .next (if s.run.resetLow then s else s.hold .resetLine true)

/-- RESETn returns high (R141): the part enters STARTING with the cause of the reset it was held in. -/
def execResetEnd (s : State) : Host.Outcome State Fault Refusal :=
  .next (if s.run.resetLow then (s.hold s.run.cause false).start else s)

/-! ## Enumeration -/

/-- The bins 1 to 40. -/
def towerBins : List (Fin 41) := (List.finRange 41).filter fun b => (towerOf b).isSome

/-- Enumeration begins at tower 1 (R117): every tower not present, every tower-side qualifier unqualified. -/
def State.enumerate (startup : Bool) (s : State) : State :=
  let s' : State :=
    { s with
      chain := ⟨Vector.ofFn fun t : Fin 4 => s.chain.towers[t].unqualify, some ⟨startup, 0, s.now⟩⟩
      bins := Vector.ofFn fun b : Fin 41 => if (towerOf b).isSome then s.bins[b].unqualify else s.bins[b] }
  s'.binsChanged s towerBins

/-- The towers-present field of a waiting HELLO is completed (R143). -/
def OutRec.complete (n : Nat) : OutRec → OutRec
  | .hello cause none => .hello cause (some n)
  | r => r

/-- Enumeration ends (R117): the HELLO of a start-up is completed (R143), and the end of a TOWER RESET is reported (R124). -/
def State.enumerationEnds (startup : Bool) (s : State) : State :=
  let s := { s with chain := { s.chain with enum := none } }
  let n := s.towersPresent
  if startup then
    { s with report := { s.report with link := { s.report.link with queue := s.report.link.queue.map (OutRec.complete n) } } }
  else s.notify ⟨.towerResetDone, some n, none, none, none⟩ none

/-- A tower answers during enumeration (R117): it is present, and the next tower is addressed. -/
def execEnumerationReply (s : State) : Host.Outcome State Fault Refusal :=
  s.does fun s =>
    match s.chain.enum with
    | none => s
    | some e =>
      let t := s.chain.towers[e.tower]
      let s := { s with chain := { s.chain with towers := s.chain.towers.set e.tower { t with present := true, missed := 0 } } }
      if h : e.tower.val + 1 < 4 then { s with chain := { s.chain with enum := some ⟨e.startup, ⟨e.tower.val + 1, h⟩, s.now⟩ } }
      else s.enumerationEnds e.startup

/-- A tower does not answer within its 200 ms, and enumeration ends (R117). -/
def execEnumerationSlotTimeout (s : State) : Host.Outcome State Fault Refusal :=
  s.does fun s =>
    match s.chain.enum with
    | none => s
    | some e => (s.reach (e.start + Config.slotTime)).enumerationEnds e.startup

/-! ## The end of STARTING -/

/-- The first covered path sensor, in the order of R57. -/
def Pins.firstCovered (p : Pins) : Option Sensor :=
  if p.s1 then some .s1 else if p.s2 then some .s2 else if p.sc then some .sc else if p.sr then some .sr
  else if p.se then some .se else if p.s0 then some .s0 else none

/-- STARTING ends in READY, or in JAM where a path sensor is covered (R57, R142). That JAM is raised before STARTING is dropped, so that no
FEED is placed between them, is the model's choice (log entry 7). -/
def State.startingEnds (s : State) : State :=
  let s := { s with run := { s.run with startup := none } }
  (match s.pins.firstCovered with
    | some x => s.jam .stall x
    | none => s.enterReady).drop .starting

/-- Whether an input has been qualified. -/
def Qual.isQualified (q : Qual) : Bool := q.state.isSome

/-- Whether both sensors of a bin have been qualified. -/
def Bin.isQualified (x : Bin) : Bool := x.present.isQualified && x.full.isQualified

/-- Whether the start-up inputs of a tower have been qualified; a tower not present has none (R142). That the bin sensors of a tower are asked
for only while its power is qualified as on, and no more once it has gone off again, is the model's choice (log entry 56). -/
def State.towerQualified (s : State) (t : Fin 4) : Bool :=
  let x := s.chain.towers[t]
  !x.present || (x.power.isQualified && x.door.isQualified &&
    (x.power.state ≠ some true || (binsOf t).all fun b => s.bins[b].isQualified))

/-- Start-up is complete: enumeration has ended and every start-up input has been qualified once (R142). -/
def State.startupDone (s : State) : Bool :=
  s.run.op = .starting && s.chain.enum.isNone && s.bins[(0 : Fin 41)].isQualified && s.rejectNear.isQualified &&
    s.rejectFull.isQualified && s.stapler.cartridge.isQualified && s.stapler.emptySensor.isQualified &&
    (List.finRange 4).all s.towerQualified

/-- Start-up is complete (R142). -/
def execStartupComplete (s : State) : Host.Outcome State Fault Refusal :=
  s.does fun s => if s.startupDone then s.startingEnds else s

/-- The start-up timer reaches 1500 ms (R142). -/
def execStartupTimerExpiry (s : State) : Host.Outcome State Fault Refusal :=
  s.does fun s =>
    match s.run.startup with
    | some start => if s.run.op = .starting then (s.reach (start + Config.startupTime)).startingEnds else s
    | none => s

end Sys2Proof.Machine
end

