-- ==== Sys2Proof/Machine/Controls.lean ====
section
/-! DEFINITION. The CONTROL records (R172): PAUSE, RESUME, CLEAR JAM, RELEASE HOLD, TOWER RESET, STANDBY, WAKE and RESET. -/

namespace Sys2Proof.Machine

/-- A control of the right length goes to its rule (R167, R172). -/
def State.control (tag : Byte) (extra : List Byte) (f : State → State) (s : State) : State :=
  if extra = [] then f s else s.refuse 0x16 tag .badLength

/-- A control that is not taken in the present state (R168). -/
def State.refuseControl (tag : Byte) (s : State) : State := s.refuse 0x16 tag .state

def State.pauseRecord (tag : Byte) (extra : List Byte) (s : State) : State :=
  s.control tag extra fun s =>
    if s.run.op = .running then { s with run := { s.run with op := .paused } }.raise .paused else s.refuseControl tag

/-- PAUSE (R148): taken in RUNNING, it enters PAUSED and raises PAUSED. -/
def execPause (tag : Byte) (extra : List Byte) (s : State) : Host.Outcome State Fault Refusal :=
  s.does fun s => s.frameTaken.pauseRecord tag extra

def State.resumeRecord (tag : Byte) (extra : List Byte) (s : State) : State :=
  s.control tag extra fun s =>
    if s.run.op = .paused then { s with run := { s.run with op := .running } }.drop .paused else s.refuseControl tag

/-- RESUME (R148): taken in PAUSED, it enters RUNNING without spin-up. -/
def execResume (tag : Byte) (extra : List Byte) (s : State) : Host.Outcome State Fault Refusal :=
  s.does fun s => s.frameTaken.resumeRecord tag extra

/-- Every sensor CLEAR JAM tests is clear (R64). -/
def State.pathClear (s : State) : Bool :=
  s.pins.firstCovered.isNone && (List.finRange 4).all fun t =>
    !(s.chain.towers[t].state = .ready && s.chain.towers[t].teCovered)

/-- JAM is left for RUNNING with spin-up, or for READY where every slot is FREE (R64, R149). -/
def State.leaveJam (s : State) : State :=
  let s := { s with queue := { s.queue with expected := none } }
  (if s.allJobsFree then s.enterReady else s.enterRunning).drop .jam

def State.clearJamRecord (tag : Byte) (extra : List Byte) (s : State) : State :=
  s.control tag extra fun s => if s.run.op = .jam && s.pathClear then s.leaveJam else s.refuseControl tag

/-- CLEAR JAM (R64). -/
def execClearJam (tag : Byte) (extra : List Byte) (s : State) : Host.Outcome State Fault Refusal :=
  s.does fun s => s.frameTaken.clearJamRecord tag extra

/-- The shelf set, if it is HELD (R134). -/
def State.heldOnShelf (s : State) : Option (Fin 8) :=
  match s.delivery.onShelf with
  | none => none
  | some r =>
    match s.getRec r with
    | some x => if x.state = .held then some r else none
    | none => none

/-- The held set RELEASE HOLD diverts (R134). -/
def State.heldSet (s : State) : Option (Fin 8) := s.heldOnShelf.orElse fun _ => s.delivery.compilerHold

def State.releaseHoldRecord (tag : Byte) (extra : List Byte) (s : State) : State :=
  s.control tag extra fun s =>
    match s.heldSet with
    | some r => s.divertHeld r .released
    | none => s.refuseControl tag

/-- RELEASE HOLD (R134). -/
def execReleaseHold (tag : Byte) (extra : List Byte) (s : State) : Host.Outcome State Fault Refusal :=
  s.does fun s => s.frameTaken.releaseHoldRecord tag extra

def State.towerResetRecord (tag : Byte) (extra : List Byte) (s : State) : State :=
  s.control tag extra fun s =>
    if s.run.op = .starting then s.refuseControl tag
    else if !s.delivery.list.isEmpty then s.refuse 0x16 tag .towerBusy
    else s.enumerate false

/-- TOWER RESET (R124). -/
def execTowerReset (tag : Byte) (extra : List Byte) (s : State) : Host.Outcome State Fault Refusal :=
  s.does fun s => s.frameTaken.towerResetRecord tag extra

def State.standbyRecord (tag : Byte) (extra : List Byte) (s : State) : State :=
  s.control tag extra fun s => if s.run.op = .ready then s.enterStandby else s.refuseControl tag

/-- STANDBY (R146). -/
def execStandby (tag : Byte) (extra : List Byte) (s : State) : Host.Outcome State Fault Refusal :=
  s.does fun s => s.frameTaken.standbyRecord tag extra

def State.wakeRecord (tag : Byte) (extra : List Byte) (s : State) : State :=
  s.control tag extra fun s => if s.run.op = .standby then s.enterWaking else s.refuseControl tag

/-- WAKE (R147). -/
def execWake (tag : Byte) (extra : List Byte) (s : State) : Host.Outcome State Fault Refusal :=
  s.does fun s => s.frameTaken.wakeRecord tag extra

def State.resetControl (tag : Byte) (extra : List Byte) (s : State) : State := s.control tag extra State.resetRecord

/-- RESET (R172). -/
def execReset (tag : Byte) (extra : List Byte) (s : State) : Host.Outcome State Fault Refusal :=
  s.does fun s => s.frameTaken.resetControl tag extra

end Sys2Proof.Machine
end

