-- ==== Sys2Proof/Machine/Queries.lean ====
section
/-! DEFINITION. QUERY and its replies (R171): the fields of each subject in the order its rule lists them, in the widths of R176 and
R178. A query changes nothing but what its own reply, and a TAKE, change. -/

namespace Sys2Proof.Machine

/-- The reply to a taken QUERY (R171, R174). -/
def State.reply (subject idx tag : Byte) (fields : List Byte) (s : State) : State :=
  { s with report := s.report.answer (.reply subject idx tag fields) 0x15 tag }

/-- A QUERY of a subject whose index is not used (R171). -/
def State.queryPlain (subject tag : Byte) (rest : List Byte) (fields : State → List Byte) (s : State) : State :=
  match rest with
  | [_, _] => s.reply subject 0 tag (fields s)
  | _ => s.refuse 0x15 tag .badLength

/-- A QUERY of a subject with an index (R171): an index out of its range is refused FIELD RANGE. -/
def State.queryIndexed (subject tag : Byte) (rest : List Byte) (fields : Nat → State → Option (List Byte)) (s : State) : State :=
  match rest with
  | [i, _] =>
    match fields i.toNat s with
    | some l => s.reply subject i tag l
    | none => s.refuse 0x15 tag .fieldRange
  | _ => s.refuse 0x15 tag .badLength

/-! ## STATE, QUEUE -/

/-- A timer's running flag and elapsed time (R155, R176). -/
def timerFields (now : Nat) (t : Timer) : List Byte := flag t.isSome ++ n4 (elapsed now t)

/-- The fields of a STATE reply (R155). -/
def State.stateFields (s : State) : List Byte :=
  let r := s.run
  let f := s.report.feed
  let g := s.report.gov
  n1 r.op.code ++ n1 r.cause.code ++ timerFields s.now r.spinUp ++ timerFields s.now r.wake ++ timerFields s.now r.idle ++
    timerFields s.now r.standby ++ n2 r.standbyDelay ++ n2 (reasonBits f.reasons) ++ flag f.last.hold ++
    n2 (reasonBits f.last.reasons) ++ flag f.slot.isSome ++ n1 (bitSet ((List.finRange 6).map s.govCond)) ++ flag g.comb ++
    flag g.raised ++ n4 (elapsed s.now g.timer) ++ n1 g.selection.toNat ++ flag g.allMode ++ n1 g.d ++ flag g.wait ++
    n1 g.threshold ++ n1 s.towersPresent

def State.queryStateRecord (tag : Byte) (rest : List Byte) (s : State) : State := s.queryPlain 0 tag rest State.stateFields

/-- QUERY_STATE (R155). -/
def execQueryState (tag : Byte) (rest : List Byte) (s : State) : Host.Outcome State Fault Refusal :=
  s.does fun s => s.frameTaken.queryStateRecord tag rest

/-- An optional seq. -/
def seqField (x : Option Seq) : List Byte := optional 1 (fun q : Seq => n1 q.toNat) x

/-- The kind and seq of the head entry (R22, R23). The seq, which a gap marker may lack, has a presence byte of its own, inside the one before
the head: the model's choice (R178; log entry 18). -/
def Entry.fields : Entry → List Byte
  | .descriptor d => n1 0 ++ seqField (some d.seq)
  | .gap q => n1 1 ++ seqField q
  | .void q => n1 2 ++ seqField (some q)

/-- The fields of a QUEUE reply (R22). One presence byte before the kind and the seq of the head, which are absent together, is the model's
choice (R178; log entry 18). -/
def State.queueFields (s : State) : List Byte :=
  let q := s.queue
  n1 q.entries.length ++ n1 q.debt ++ seqField q.expected ++ n1 q.watermark ++ optional 3 Entry.fields q.entries.head?

def State.queryQueueRecord (tag : Byte) (rest : List Byte) (s : State) : State := s.queryPlain 1 tag rest State.queueFields

/-- QUERY_QUEUE (R22). -/
def execQueryQueue (tag : Byte) (rest : List Byte) (s : State) : Host.Outcome State Fault Refusal :=
  s.does fun s => s.frameTaken.queryQueueRecord tag rest

/-! ## PATH, TIMING -/

/-- The orphan reason of an entry, if it is an orphan. -/
def SheetBody.reason : SheetBody → Option OrphanReason
  | .bound .. => none
  | .orphan r => some r

/-- The fields of one path-list entry (R58). One presence byte before the slot and the set ordinal, which are absent together, is the
model's choice (R178; log entry 18). -/
def PathEntry.fields (e : PathEntry) : List Byte :=
  seqField e.seq ++ n1 e.stage.code ++ optional 3 (fun x : Fin 16 × Nat => n1 x.1.val ++ n2 x.2) e.slotOrd ++
    optional 1 (fun r : OrphanReason => n1 r.code) e.body.reason ++ flag e.mismatch

/-- The fields of a PATH reply (R58). One presence byte before the entry as a whole is the model's choice (R178; log entry 18). -/
def State.pathFields (i : Nat) (s : State) : Option (List Byte) :=
  let p := s.path
  let counts := n1 p.list.length ++ n1 p.buffer.length
  if i = 0 then
    some (counts ++ n1 (bitSet [s.pins.s1, s.pins.s2, s.pins.sc, s.pins.sr, s.pins.se, s.pins.s0]) ++ flag p.se.isSome)
  else if i ≤ 6 then some (counts ++ optional 10 PathEntry.fields p.list[i - 1]?)
  else none

def State.queryPathRecord (tag : Byte) (rest : List Byte) (s : State) : State := s.queryIndexed 2 tag rest State.pathFields

/-- QUERY_PATH (R58). -/
def execQueryPath (tag : Byte) (rest : List Byte) (s : State) : Host.Outcome State Fault Refusal :=
  s.does fun s => s.frameTaken.queryPathRecord tag rest

/-- The twelve timing items: p in one byte, the times and lengths in two (R58, R176). -/
def PathMonitor.timingFields (p : PathMonitor) : List Byte :=
  n2 p.timing[0] ++ n1 p.timing[1] ++ ((List.finRange 12).drop 2).flatMap fun i => n2 p.timing[i]

/-- The fields of a TIMING reply (R58): the items, and the five late limits. That they have no count byte, their number never changing, is
the model's choice (R178; log entry 19). -/
def State.timingFields (s : State) : List Byte :=
  let p := s.path
  let te := (List.finRange 4).foldl (fun m t => max m (p.deliveryLimit (.te t))) 0
  p.timingFields ++ n2 (p.lateLimit p.timing[4]) ++ n2 (p.lateLimit p.timing[5]) ++ n2 (p.lateLimit p.timing[6]) ++
    n2 (p.deliveryLimit .s0) ++ n2 te

def State.queryTimingRecord (tag : Byte) (rest : List Byte) (s : State) : State := s.queryPlain 3 tag rest State.timingFields

/-- QUERY_TIMING (R58). -/
def execQueryTiming (tag : Byte) (rest : List Byte) (s : State) : Host.Outcome State Fault Refusal :=
  s.does fun s => s.frameTaken.queryTimingRecord tag rest

/-! ## COMPILER, DELIVERY -/

/-- The identity of a set: slot, job number, set ordinal and part number. -/
def SetRec.identity (x : SetRec) : List Byte := n1 x.slot.val ++ n2 x.jobNumber ++ n2 x.setOrdinal ++ n1 x.part

/-- The record an optional reference names. -/
def State.getRec? (r : Option (Fin 8)) (s : State) : Option SetRec := r.bind fun r => s.getRec r

/-- The path-list entry an optional reference names. -/
def PathMonitor.entry? (id : Option EntryName) (p : PathMonitor) : Option PathEntry := id.bind fun i => p.entry i

/-- The fields of a COMPILER reply (R85). One presence byte before the four fields of the current part, and two bytes for the in-flight
thickness, are the model's choice (R176, R178; log entry 18). -/
def State.compilerFields (s : State) : List Byte :=
  let c := s.compiler
  let p := s.stapler
  n1 c.state.code ++ optional 6 SetRec.identity (s.getRec? c.current) ++ n2 c.contents ++ n2 c.inFlight ++
    seqField ((s.path.entry? c.splitSheet).bind PathEntry.seq) ++ n1 p.state.code ++ n2 p.count ++ n2 p.low ++
    n1 p.cartridge.code ++ n1 p.emptySensor.code ++ flag p.lowStands

def State.queryCompilerRecord (tag : Byte) (rest : List Byte) (s : State) : State := s.queryPlain 4 tag rest State.compilerFields

/-- QUERY_COMPILER (R85). -/
def execQueryCompiler (tag : Byte) (rest : List Byte) (s : State) : Host.Outcome State Fault Refusal :=
  s.does fun s => s.frameTaken.queryCompilerRecord tag rest

/-- A set's identity and its state. -/
def SetRec.identityState (x : SetRec) : List Byte := x.identity ++ n1 x.state.code

/-- The target and elapsed window time of a TRAVELLING entry (R140). -/
def Travel.fields (now : Nat) (v : Travel) : List Byte := n1 (targetCode v.target) ++ n4 (now - v.window.start)

/-- The fields of one delivery-list entry (R140): phase 0 is DEPARTING, 1 TRAVELLING. One presence byte before the target and the elapsed
window time, which are absent together, and 255 for no chosen bin are the model's choice (R178; log entry 18). -/
def State.listEntryFields (s : State) (e : ListEntry) : List Byte :=
  match s.getRec e.set with
  | some x =>
    x.identity ++ codeOr 255 (x.chosen.map Fin.val) ++ flag e.travel.isSome ++ optional 5 (Travel.fields s.now) e.travel
  | none => List.replicate 14 0

/-- The fields of a DELIVERY reply (R140). One presence byte before the five fields of the shelf set, one before the four of the compiler hold,
and one before a list entry as a whole are the model's choice (R178; log entry 18). -/
def State.deliveryFields (i : Nat) (s : State) : Option (List Byte) :=
  let d := s.delivery
  let count := n1 d.list.length
  if i = 0 then
    some (n1 d.shelf.code ++ optional 7 SetRec.identityState (s.getRec? d.shelfSet) ++ timerFields s.now d.holdTimer ++
      n2 d.holdLimit ++ optional 6 SetRec.identity (s.getRec? d.compilerHold) ++ count ++ n1 d.g0.code)
  else if i ≤ 3 then some (count ++ optional 14 s.listEntryFields d.list[i - 1]?)
  else none

def State.queryDeliveryRecord (tag : Byte) (rest : List Byte) (s : State) : State :=
  s.queryIndexed 5 tag rest State.deliveryFields

/-- QUERY_DELIVERY (R140). -/
def execQueryDelivery (tag : Byte) (rest : List Byte) (s : State) : Host.Outcome State Fault Refusal :=
  s.does fun s => s.frameTaken.queryDeliveryRecord tag rest

/-! ## ROUTE, BIN, TOWER -/

/-- The fields of a route entry (R86, R101). One byte for the generation, a number that ends at 255 and that the terms of the manual call a
counter, is the model's choice (R176; log entry 18). -/
def RouteEntry.fields (e : RouteEntry) : List Byte :=
  flag e.valid ++ n2 (e.job.getD 0) ++ n2 e.keyBase ++ n2 e.keyLimit ++ n1 e.first.val ++ n1 e.last.val ++ n1 e.policy.code ++
    n1 e.cursor.val ++ n1 e.generation.toNat

/-- The fields of a ROUTE reply (R101). -/
def State.routeFields (i : Nat) (s : State) : Option (List Byte) :=
  (index 32 i).map fun k => s.routes.entries[k].fields ++ n1 s.routes.unmatched.code ++ n1 s.routes.defaultBin.val

def State.queryRouteRecord (tag : Byte) (rest : List Byte) (s : State) : State := s.queryIndexed 6 tag rest State.routeFields

/-- QUERY_ROUTE (R101). -/
def execQueryRoute (tag : Byte) (rest : List Byte) (s : State) : Host.Outcome State Fault Refusal :=
  s.does fun s => s.frameTaken.queryRouteRecord tag rest

/-- The fields of a BIN reply (R115). -/
def State.binFields (i : Nat) (s : State) : Option (List Byte) :=
  (index 41 i).map fun b =>
    let x := s.bins[b]
    n2 x.capacity ++ n2 x.margin ++ flag x.enabled ++ n2 x.fill ++ n2 x.reserved ++ n2 x.count ++ n1 x.nextSide.code ++
      n1 x.present.code ++ n1 x.full.code ++ n1 (s.binState b).code ++ n1 s.fullCount

def State.queryBinRecord (tag : Byte) (rest : List Byte) (s : State) : State := s.queryIndexed 7 tag rest State.binFields

/-- QUERY_BIN (R115). -/
def execQueryBin (tag : Byte) (rest : List Byte) (s : State) : Host.Outcome State Fault Refusal :=
  s.does fun s => s.frameTaken.queryBinRecord tag rest

/-- A tower number 1 to 4, as an index. -/
def towerIndex (i : Nat) : Option (Fin 4) := if i = 0 then none else index 4 (i - 1)

/-- The fields of a TOWER reply (R123). -/
def State.towerFields (i : Nat) (s : State) : Option (List Byte) :=
  (towerIndex i).map fun t =>
    let x := s.chain.towers[t]
    flag x.present ++ n1 x.state.code ++ n1 x.missed ++ n1 x.power.code ++ n1 x.door.code ++ n1 (levelCode x.teCovered) ++
      flag x.wakeEnable ++ n1 s.towersPresent

def State.queryTowerRecord (tag : Byte) (rest : List Byte) (s : State) : State := s.queryIndexed 8 tag rest State.towerFields

/-- QUERY_TOWER (R123). -/
def execQueryTower (tag : Byte) (rest : List Byte) (s : State) : Host.Outcome State Fault Refusal :=
  s.does fun s => s.frameTaken.queryTowerRecord tag rest

/-! ## ATTENTION -/

/-- The cause flags of one class, bit n for cause code n (R178, R179). -/
def NoticeUnit.classFlags (u : NoticeUnit) (k : Fin 8) : List Byte := n1 (bitSet ((causesOf k).map fun c => c ∈ u.flags))

/-- The 21 bytes of the notice settings (R177, R178). -/
def NoticeUnit.settings (u : NoticeUnit) : List Byte :=
  u.enables.toList.flatMap flag ++ u.masks.toList.flatMap flag ++ flag u.globalMask ++ u.towerMasks.toList.flatMap flag

/-- The fields of an ATTENTION reply (R163). -/
def State.attentionFields (s : State) : List Byte :=
  let u := s.report.notice
  (List.finRange 8).flatMap u.classFlags ++ n1 (bitSet u.towerFlags.toList) ++ n1 (bitSet (u.slots.toList.map Option.isSome)) ++
    u.settings

/-- The flags the reply reports are cleared (R164). -/
def State.clearSummary (s : State) : State :=
  { s with
    report := { s.report with
      notice := { s.report.notice with flags := [], towerFlags := Vector.replicate 4 false } } }

/-- QUERY ATTENTION with PEEK (R163). -/
def State.peekRecord (tag : Byte) (extra : List Byte) (s : State) : State :=
  if extra = [] then s.reply 9 0 tag s.attentionFields else s.refuse 0x15 tag .badLength

/-- QUERY ATTENTION with TAKE (R164): the summary is cleared only when its reply is admitted. -/
def State.takeRecord (tag : Byte) (extra : List Byte) (s : State) : State :=
  if extra = [] then
    let fields := s.attentionFields
    if s.report.occupancy < Config.answerMark then s.clearSummary.reply 9 0 tag fields else s.reply 9 0 tag fields
  else s.refuse 0x15 tag .badLength

/-- QUERY_ATTENTION_PEEK (R163); the index is not used. -/
def execQueryAttentionPeek (tag _index : Byte) (extra : List Byte) (s : State) : Host.Outcome State Fault Refusal :=
  s.does fun s => s.frameTaken.peekRecord tag extra

/-- QUERY_ATTENTION_TAKE (R164); the index is not used. -/
def execQueryAttentionTake (tag _index : Byte) (extra : List Byte) (s : State) : Host.Outcome State Fault Refusal :=
  s.does fun s => s.frameTaken.takeRecord tag extra

/-! ## JOB, MEDIA, SETTINGS -/

/-- The six counters in the order of R6. That they are sent without a count byte, as no list in the sense of R178, is the model's choice (log
entry 19). -/
def Counters.fields (c : Counters) : List Byte :=
  n2 c.opened ++ n2 c.delivered ++ n2 c.diverted ++ n2 c.lost ++ n2 c.purged ++ n2 c.loose

/-- The fields of a JOB reply (R171). -/
def State.jobFields (i : Nat) (s : State) : Option (List Byte) :=
  (index 16 i).map fun k =>
    let j := s.jobs[k]
    n1 j.state.code ++ n2 j.number ++ n1 j.pattern.code ++ n1 j.policy.code ++ flag j.offset ++ flag j.closeSeen ++ j.counters.fields

def State.queryJobRecord (tag : Byte) (rest : List Byte) (s : State) : State := s.queryIndexed 10 tag rest State.jobFields

/-- QUERY_JOB (R171). -/
def execQueryJob (tag : Byte) (rest : List Byte) (s : State) : Host.Outcome State Fault Refusal :=
  s.does fun s => s.frameTaken.queryJobRecord tag rest

/-- The fields of a MEDIA reply (R171). -/
def State.mediaFields (i : Nat) (s : State) : Option (List Byte) :=
  (index 8 i).map fun k => n1 s.media[k].thickness ++ n2 s.media[k].length ++ flag s.media[k].eligible

def State.queryMediaRecord (tag : Byte) (rest : List Byte) (s : State) : State := s.queryIndexed 11 tag rest State.mediaFields

/-- QUERY_MEDIA (R171). -/
def execQueryMedia (tag : Byte) (rest : List Byte) (s : State) : Host.Outcome State Fault Refusal :=
  s.does fun s => s.frameTaken.queryMediaRecord tag rest

/-- The twelve values of R170 as they stand. -/
def State.settings (s : State) : List Nat :=
  let g := s.report.gov
  [s.queue.watermark, s.delivery.holdLimit, s.stapler.low, s.run.standbyDelay, s.qualCount, s.routes.unmatched.code,
    s.routes.defaultBin.val, g.selection.toNat, g.allMode.toNat, g.d, g.wait.toNat, g.threshold]

/-- The fields of a SETTINGS reply: twelve 16-bit values (R170, R171). -/
def State.settingsFields (s : State) : List Byte := s.settings.flatMap n2

def State.querySettingsRecord (tag : Byte) (rest : List Byte) (s : State) : State := s.queryPlain 12 tag rest State.settingsFields

/-- QUERY_SETTINGS (R171). -/
def execQuerySettings (tag : Byte) (rest : List Byte) (s : State) : Host.Outcome State Fault Refusal :=
  s.does fun s => s.frameTaken.querySettingsRecord tag rest

end Sys2Proof.Machine
end

