-- ==== Sys2Proof/Machine/Records.lean ====
section
/-! DEFINITION. The records of jobs and sheets: SHEET (R24 to R28), JOB OPEN, JOB CLOSE and JOB PURGE (R2 to R5). Each meaning takes an
accepted frame (R167) and hands the record to its operation, which a frame received byte by byte reaches too. -/

namespace Sys2Proof.Machine

/-! ## SHEET -/

/-- QUEUE stands while the entry count is at the watermark or above, or debt stands (R30). -/
def State.syncQueue (s : State) : State :=
  s.setReason .queue (s.queue.watermark ≤ s.queue.entries.length || 0 < s.queue.debt)

/-- One position is appended, or kept as debt where the queue is full (R28); the first one owed gives OVERRUN (R27). -/
def State.appendPos (e : Entry) (seq : Seq) (s : State) : State :=
  let q := s.queue
  if q.entries.length < Config.queueCapacity then { s with queue := { q with entries := q.entries ++ [e] } }.syncQueue
  else if q.debt = 0 then
    { s with queue := { q with debt := 1, nextOwed := some seq } }.syncQueue.notify
      ⟨.overrun, some seq.toNat, some q.entries.length, some 1, none⟩ none
  else { s with queue := { q with debt := min 255 (q.debt + 1) } }.syncQueue

/-- The gap markers for the seqs `first`, `first + 1`, … are appended in order (R26). -/
def State.appendMarkers (first : Seq) (n : Nat) (s : State) : State :=
  (List.range n).foldl (fun s i => s.appendPos (.gap (some (first + BitVec.ofNat 8 i))) (first + BitVec.ofNat 8 i)) s

/-- The distance of a SHEET's seq from E, 0 while E is unset (R26). -/
def DescQueue.distance (seq : Seq) (q : DescQueue) : Nat :=
  match q.expected with
  | some e => (seq - e).toNat
  | none => 0

/-- E becomes the seq after a record's own (R26). -/
def State.expectAfter (seq : Seq) (s : State) : State := { s with queue := { s.queue with expected := some (seq + 1) } }

/-- A SEQUENCE cause other than OVERRUN, with E before the record, its seq, a third field and the entry count (R27). -/
def State.notifySequence (cause : Cause) (e : Option Seq) (seq : Seq) (f3 : Option Nat) (s : State) : State :=
  s.notify ⟨cause, e.map BitVec.toNat, some seq.toNat, f3, some s.queue.entries.length⟩ none

/-- A SHEET record (R24 to R28). -/
def State.sheetRecord (seq : Seq) (rest : List Byte) (s : State) : State :=
  if s.working then
    let e := s.queue.expected
    let g := s.queue.distance seq
    let x := sheetEntry seq rest
    if g = 0 then (s.appendPos x seq).expectAfter seq
    else if g ≤ 8 then
      ((((s.appendMarkers (e.getD 0) g).appendPos x seq).expectAfter seq).notifySequence .gap e seq (some g))
    else if g ≤ 127 then
      let s := if 0 < s.queue.debt then { s with queue := { s.queue with nextOwed := none } } else s
      ((s.appendPos x seq).expectAfter seq).notifySequence .resync e seq none
    else s.notifySequence .stale e seq none
  else s.refuse 0x10 seq .state

/-- SHEET (R24). -/
def execSheet (seq : Byte) (rest : List Byte) (s : State) : Host.Outcome State Fault Refusal :=
  s.does fun s => s.frameTaken.sheetRecord seq rest

/-! ## JOB OPEN and JOB CLOSE -/

/-- Whether a job number is held by a slot other than `i` that is not FREE (R2). -/
def State.numberHeld (i : Fin 16) (n : Nat) (s : State) : Bool :=
  (List.finRange 16).any fun k => k ≠ i && s.jobs[k].state ≠ .free && s.jobs[k].number = n

/-- A taken JOB OPEN moves READY to RUNNING with spin-up and STANDBY to WAKING (R2). -/
def State.jobOpened (s : State) : State :=
  match s.run.op with
  | .ready => s.enterRunning
  | .standby => s.enterWaking
  | _ => s

/-- A JOB OPEN record (R2). -/
def State.jobOpenRecord (tag : Byte) (rest : List Byte) (s : State) : State :=
  match jobOpenBody rest with
  | none => s.refuse 0x11 tag .badLength
  | some b =>
    match index 16 b.slot, Pattern.ofByte b.pattern, StaplePolicy.ofByte b.policy with
    | some i, some pattern, some policy =>
      if b.number = 0 then s.refuse 0x11 tag .fieldRange
      else if s.run.op = .starting then s.refuse 0x11 tag .state
      else if s.jobs[i].state ≠ .free then s.refuse 0x11 tag .slotBusy
      else if s.numberHeld i b.number then s.refuse 0x11 tag .duplicateJob
      else (s.setJob i ⟨.opened, b.number, pattern, policy, b.options.getLsbD 0, false, ⟨0, 0, 0, 0, 0, 0⟩⟩).jobOpened
    | _, _, _ => s.refuse 0x11 tag .fieldRange

/-- JOB OPEN (R2). -/
def execJobOpen (tag : Byte) (rest : List Byte) (s : State) : Host.Outcome State Fault Refusal :=
  s.does fun s => s.frameTaken.jobOpenRecord tag rest

/-- The slot a JOB CLOSE or JOB PURGE body names: none for a wrong length, and within it none for a slot above 15 (R177). -/
def slotBody : List Byte → Option (Option (Fin 16))
  | [slot] => some (index 16 slot.toNat)
  | _ => none

/-- A JOB CLOSE record (R3). -/
def State.jobCloseRecord (tag : Byte) (rest : List Byte) (s : State) : State :=
  match slotBody rest with
  | none => s.refuse 0x12 tag .badLength
  | some none => s.refuse 0x12 tag .fieldRange
  | some (some i) =>
    let j := s.jobs[i]
    match j.state with
    | .free => s.refuse 0x12 tag .jobNotOpen
    | .opened => (s.setJob i { j with state := .closed }).completionTest i
    | .closed => s.refuse 0x12 tag .state
    | .purging => (s.setJob i { j with closeSeen := true }).completionTest i

/-- JOB CLOSE (R3). -/
def execJobClose (tag : Byte) (rest : List Byte) (s : State) : Host.Outcome State Fault Refusal :=
  s.does fun s => s.frameTaken.jobCloseRecord tag rest

/-! ## JOB PURGE -/

/-- Whether a purge of slot `i` marks a record: it names the slot and is not ON BELT (R5). -/
def State.purges (i : Fin 16) (s : State) (r : Fin 8) : Bool :=
  match s.getRec r with
  | some x => x.slot = i && x.state ≠ .onBelt
  | none => false

/-- A record is marked purged (R5). -/
def SetRec.markPurged (x : SetRec) : SetRec := { x with divert := some .purged }

/-- A marked record is treated by its state at the purge (R5, R83). -/
def State.purgeRec (s : State) (r : Fin 8) : State :=
  match s.getRec r with
  | none => s
  | some x =>
    match x.state with
    | .forming => s.closeForming r
    | .stapleWait => (s.drop .staples).purgedEject r
    | .readyToEject => s.retarget r .purged
    | .held => (s.retarget r .purged).foundBin r
    | _ => s

/-- The bin a waiting set of a purged job leaves, which has a bin event (R106, R113). -/
def State.leftBin (s : State) (r : Fin 8) : Option (Fin 41) :=
  match s.getRec r with
  | some x => if x.state = .readyToEject then x.chosen else none
  | none => none

/-- The set records of a slot entering PURGING (R5): all marked, each treated, and then the bins that were left have their events (log
entry 16), after the cursor-return tests that the removed reservations brought (log entry 47). -/
def State.purgeSets (i : Fin 16) (s : State) : State :=
  let rs := s.sets.order.filter (s.purges i)
  let left := rs.filterMap s.leftBin
  let s := rs.foldl (fun s r => s.modRec r SetRec.markPurged) s
  let s := rs.foldl State.purgeRec s
  let s := rs.foldl (fun s r => s.passPartBin r) s
  left.foldl State.binEvent s

/-- The slot enters PURGING, its sets are acted on, and the completion test follows (R4, R5, R7). -/
def State.purgeJob (i : Fin 16) (closeSeen : Bool) (s : State) : State :=
  ((s.setJob i { s.jobs[i] with state := .purging, closeSeen := closeSeen }).purgeSets i).completionTest i

/-- A JOB PURGE record (R4). -/
def State.jobPurgeRecord (tag : Byte) (rest : List Byte) (s : State) : State :=
  match slotBody rest with
  | none => s.refuse 0x13 tag .badLength
  | some none => s.refuse 0x13 tag .fieldRange
  | some (some i) =>
    match s.jobs[i].state with
    | .free => s.refuse 0x13 tag .jobNotOpen
    | .opened => s.purgeJob i false
    | .closed => s.purgeJob i true
    | .purging => s

/-- JOB PURGE (R4). -/
def execJobPurge (tag : Byte) (rest : List Byte) (s : State) : Host.Outcome State Fault Refusal :=
  s.does fun s => s.frameTaken.jobPurgeRecord tag rest

end Sys2Proof.Machine
end

