-- ==== Sys2Proof/Machine/Tables.lean ====
section
/-! DEFINITION. TABLE WRITE (R169, R170): for each table the whole record is checked, FIELD RANGE before STATE, and then written at one
moment, its owner acting on the new contents. -/

namespace Sys2Proof.Machine

/-- The frame of every table write: a wrong length is BAD LENGTH, a failed check FIELD RANGE, and in STARTING the record is refused
STATE (R167, R169). -/
def State.tableWrite {α : Type} (tag : Byte) (rest : List Byte) (entries : List Byte → Option (List α))
    (ok : Nat → List α → Bool) (write : Nat → List α → State → State) (s : State) : State :=
  match tableBody entries rest with
  | none => s.refuse 0x14 tag .badLength
  | some (start, xs) =>
    if !ok start xs then s.refuse 0x14 tag .fieldRange
    else if s.run.op = .starting then s.refuse 0x14 tag .state
    else write start xs s

/-- Entries are written at consecutive indexes (R169). -/
def writeAll {α β : Type} {n : Nat} (f : β → α → β) : Nat → List α → Vector β n → Vector β n
  | _, [], v => v
  | i, x :: xs, v => writeAll f (i + 1) xs (if h : i < n then v.set i (f v[i] x) else v)

/-! ## MEDIA -/

/-- A media entry as written (R8). -/
def MediaWrite.written (x : MediaWrite) : Media := ⟨clamp 4 40 x.thickness, clamp 100 450 x.length, x.eligible = 1⟩

/-- A MEDIA write is in range (R8, R169). -/
def mediaOk (start : Nat) (xs : List MediaWrite) : Bool := start + xs.length ≤ 8 && xs.all fun x => (yesNo x.eligible).isSome

/-- A TABLE WRITE of table MEDIA (R8). -/
def State.mediaRecord (tag : Byte) (rest : List Byte) (s : State) : State :=
  s.tableWrite tag rest mediaEntries mediaOk fun start xs s =>
    { s with media := writeAll (fun _ x => MediaWrite.written x) start xs s.media }

/-- MEDIA_WRITE (R8). -/
def execMediaWrite (tag : Byte) (rest : List Byte) (s : State) : Host.Outcome State Fault Refusal :=
  s.does fun s => s.frameTaken.mediaRecord tag rest

/-! ## TIMING -/

/-- The range of each timing item (R43). -/
def timingRange (i : Nat) : Nat × Nat :=
  match i with
  | 0 => (100, 800)
  | 1 => (0, 50)
  | 2 => (0, 255)
  | 3 => (1, 50)
  | _ => (0, 4000)

/-- Material is in the path: the path list, the compiler, the shelf or the delivery list is not empty (R47, R138). -/
def State.material (s : State) : Bool :=
  !s.path.list.isEmpty || s.compiler.state ≠ .empty || s.delivery.shelf ≠ .free || !s.delivery.list.isEmpty

/-- Values are written from an index on, each clamped to its range (R47). -/
def writeTiming : Nat → List Nat → Vector Nat 12 → Vector Nat 12
  | _, [], v => v
  | i, x :: xs, v =>
    writeTiming (i + 1) xs (if h : i < 12 then v.set i (clamp (timingRange i).1 (timingRange i).2 x) else v)

/-- A TABLE WRITE of table TIMING (R47). -/
def State.timingRecord (tag : Byte) (rest : List Byte) (s : State) : State :=
  s.tableWrite tag rest wordEntries (fun start xs => start + xs.length ≤ 12) fun start xs s =>
    if s.material then s.refuse 0x14 tag .state
    else { s with path := { s.path with timing := writeTiming start xs s.path.timing } }

/-- TIMING_WRITE (R47). -/
def execTimingWrite (tag : Byte) (rest : List Byte) (s : State) : Host.Outcome State Fault Refusal :=
  s.does fun s => s.frameTaken.timingRecord tag rest

/-! ## ROUTE -/

/-- The structural values of a route entry are in range (R99). -/
def RouteWrite.ok (x : RouteWrite) : Bool :=
  (yesNo x.valid).isSome && x.first ≤ 40 && x.last ≤ 40 && x.first ≤ x.last && !(x.first = 0 && x.last ≠ 0) &&
    x.keyBase ≤ x.keyLimit && (RoutePolicy.ofByte x.policy).isSome

/-- A bin number, 0 where it is out of range: a checked write has none such. -/
def binOf (x : Nat) : Fin 41 := if h : x < 41 then ⟨x, h⟩ else 0

/-- A route entry is written: its generation increases by 1, wrapping, and its cursor is its new first bin (R99). -/
def RouteEntry.write (e : RouteEntry) (x : RouteWrite) : RouteEntry :=
  { valid := x.valid = 1
    job := if x.job = 0 then none else some x.job
    keyBase := x.keyBase
    keyLimit := x.keyLimit
    first := binOf x.first
    last := binOf x.last
    policy := (RoutePolicy.ofByte x.policy).getD .fill
    cursor := binOf x.first
    generation := e.generation + 1 }

/-- A TABLE WRITE of table ROUTE (R99, R100). -/
def State.routeRecord (tag : Byte) (rest : List Byte) (s : State) : State :=
  s.tableWrite tag rest routeEntries (fun start xs => start + xs.length ≤ 32 && xs.all RouteWrite.ok) fun start xs s =>
    { s with routes := { s.routes with entries := writeAll RouteEntry.write start xs s.routes.entries } }

/-- ROUTE_WRITE (R99). -/
def execRouteWrite (tag : Byte) (rest : List Byte) (s : State) : Host.Outcome State Fault Refusal :=
  s.does fun s => s.frameTaken.routeRecord tag rest

/-! ## BIN -/

/-- A bin record takes the settings written (R114). -/
def Bin.write (b : Bin) (x : BinWrite) : Bin :=
  { b with capacity := min 9999 x.capacity, margin := min 9999 x.margin, enabled := x.enabled = 1 }

/-- Whether a write gives a bin its bin event (R113): it was enabled, its C raised or its M lowered. -/
def Bin.roomier (old new : Bin) : Bool :=
  (!old.enabled && new.enabled) || old.capacity < new.capacity || new.margin < old.margin

/-- The bins a write of `n` entries from `start` covers. -/
def binsWritten (start n : Nat) : List (Fin 41) := (List.finRange 41).filter fun b => start ≤ b.val ∧ b.val < start + n

/-- The bin records are written (R114): all, then the notices of the written bins, then their bin events. -/
def State.writeBins (start : Nat) (xs : List BinWrite) (s : State) : State :=
  let bs := binsWritten start xs.length
  let s' := { s with bins := writeAll Bin.write start xs s.bins }
  let events := bs.filter fun b => s.bins[b].roomier s'.bins[b]
  events.foldl State.binEvent (s'.binsChanged s bs)

/-- A TABLE WRITE of table BIN (R114). -/
def State.binRecord (tag : Byte) (rest : List Byte) (s : State) : State :=
  s.tableWrite tag rest binEntries
    (fun start xs => start + xs.length ≤ 41 && xs.all fun x => (yesNo x.enabled).isSome) State.writeBins

/-- BIN_WRITE (R114). -/
def execBinWrite (tag : Byte) (rest : List Byte) (s : State) : Host.Outcome State Fault Refusal :=
  s.does fun s => s.frameTaken.binRecord tag rest

/-! ## TOWER -/

/-- A TABLE WRITE of table TOWER (R122): the start index is the tower number, 1 to 4. -/
def State.towerRecord (tag : Byte) (rest : List Byte) (s : State) : State :=
  s.tableWrite tag rest (fun l => some l)
    (fun start xs => start ≠ 0 && start + xs.length ≤ 5 && xs.all fun x => (yesNo x).isSome) fun start xs s =>
    { s with
      chain := { s.chain with
        towers := writeAll (fun (t : Tower) (x : Byte) => { t with wakeEnable := x = 1 }) (start - 1) xs s.chain.towers } }

/-- TOWER_WRITE (R122). -/
def execTowerWrite (tag : Byte) (rest : List Byte) (s : State) : Host.Outcome State Fault Refusal :=
  s.does fun s => s.frameTaken.towerRecord tag rest

/-! ## NOTICE -/

/-- The 21-byte entries of a NOTICE write (R177). -/
def noticeEntries (l : List Byte) : Option (List (List Byte)) :=
  if l.length % 21 = 0 then some ((List.range (l.length / 21)).map fun i => (l.drop (21 * i)).take 21) else none

/-- One setting of a NOTICE entry. -/
def settingAt (x : List Byte) (i : Nat) : Bool := x.getD i 0 = 1

/-- The notice settings are written, a class newly disabled losing its parked notice, and the sending test follows (R162). -/
def State.writeNotice (x : List Byte) (s : State) : State :=
  let u := s.report.notice
  let enables : Vector Bool 8 := Vector.ofFn fun k : Fin 8 => settingAt x k.val
  let u' : NoticeUnit :=
    { u with
      enables := enables
      masks := Vector.ofFn fun k : Fin 8 => settingAt x (8 + k.val)
      globalMask := settingAt x 16
      towerMasks := Vector.ofFn fun t : Fin 4 => settingAt x (17 + t.val)
      slots := Vector.ofFn fun k : Fin 8 => if u.enables[k] && !enables[k] then none else u.slots[k] }
  { s with report := ({ s.report with notice := u' } : Report).sendingTest }

/-- A TABLE WRITE of table NOTICE (R162): one entry only, at start index 0. -/
def State.noticeRecord (tag : Byte) (rest : List Byte) (s : State) : State :=
  s.tableWrite tag rest noticeEntries
    (fun start xs => start = 0 && xs.length = 1 && xs.all fun x => x.all fun b => (yesNo b).isSome)
    fun _ xs s => s.writeNotice (xs.headD [])

/-- NOTICE_WRITE (R162). -/
def execNoticeWrite (tag : Byte) (rest : List Byte) (s : State) : Host.Outcome State Fault Refusal :=
  s.does fun s => s.frameTaken.noticeRecord tag rest

/-! ## SETTINGS -/

/-- A setting's value is in range, or is clamped (R170). -/
def settingOk (i x : Nat) : Bool :=
  match i with
  | 5 | 8 | 10 => x ≤ 1
  | 6 => x ≤ 40
  | _ => true

/-- Every value of a SETTINGS write is in range, or is clamped (R170). -/
def settingsOk : Nat → List Nat → Bool
  | _, [] => true
  | i, x :: xs => settingOk i x && settingsOk (i + 1) xs

/-- A governor setting changes. -/
def State.modGov (f : Governor → Governor) (s : State) : State := { s with report := { s.report with gov := f s.report.gov } }

/-- One setting is written, clamped where R170 calls for it. -/
def State.writeSetting (i x : Nat) (s : State) : State :=
  match i with
  | 0 => { s with queue := { s.queue with watermark := clamp 1 16 x } }
  | 1 => { s with delivery := { s.delivery with holdLimit := clamp 1 600 x } }
  | 2 => { s with stapler := { s.stapler with low := min 1000 x } }
  | 3 => { s with run := { s.run with standbyDelay := min 255 x } }
  | 4 => { s with qualCount := clamp 1 127 x }
  | 5 => { s with routes := { s.routes with unmatched := if x = 0 then .report else .quiet } }
  | 6 => { s with routes := { s.routes with defaultBin := binOf x } }
  | 7 => s.modGov fun g => { g with selection := BitVec.ofNat 6 x }
  | 8 => s.modGov fun g => { g with allMode := x = 1 }
  | 9 => s.modGov fun g => { g with d := min 127 x }
  | 10 => s.modGov fun g => { g with wait := x = 1 }
  | 11 => s.modGov fun g => { g with threshold := clamp 1 41 x }
  | _ => s

/-- The settings are written one by one, no owner acting yet. -/
def State.writeSettings : Nat → List Nat → State → State
  | _, [], s => s
  | i, x :: xs, s => State.writeSettings (i + 1) xs (s.writeSetting i x)

/-- Whether a write of `n` values from `start` writes index `i`. -/
def covers (start n i : Nat) : Bool := start ≤ i && i < start + n

/-- The hold timer is at or past the hold limit (R129). -/
def Delivery.holdDue (now : Nat) (d : Delivery) : Bool := d.holdTimer.isSome && d.holdLimit * 1000 ≤ elapsed now d.holdTimer

/-- Each owner acts once on the new values (R170): QUEUE (R30), the governor (R80, R154), and the hold timer (R129). -/
def State.settingsWritten (start n : Nat) (s : State) : State :=
  let s := s.syncQueue
  let s :=
    if (List.range 5).any fun i => covers start n (7 + i) then { s with report := s.report.governorWritten s.govCond s.now }
    else s.recombine
  if covers start n 1 && s.delivery.holdDue s.now then s.holdExpires else s

/-- A TABLE WRITE of table SETTINGS (R170). -/
def State.settingsRecord (tag : Byte) (rest : List Byte) (s : State) : State :=
  s.tableWrite tag rest wordEntries (fun start xs => start + xs.length ≤ 12 && settingsOk start xs) fun start xs s =>
    (s.writeSettings start xs).settingsWritten start xs.length

/-- SETTINGS_WRITE (R170). -/
def execSettingsWrite (tag : Byte) (rest : List Byte) (s : State) : Host.Outcome State Fault Refusal :=
  s.does fun s => s.frameTaken.settingsRecord tag rest

end Sys2Proof.Machine
end

