-- ==== Sys2Proof/Machine/LinkEvents.lean ====
section
/-! DEFINITION. The Sheet Link byte by byte: the receiver (R166), the dispatch of an accepted frame (R167), and the transmitter (R173,
R175). -/

namespace Sys2Proof.Machine

/-! ## Dispatch -/

/-- A TABLE WRITE by its table id; an id of no table is refused FIELD RANGE once the body has 4 bytes (R169, R177, R179). -/
def State.tableRecord (tag table : Byte) (rest : List Byte) (s : State) : State :=
  match table.toNat with
  | 0 => s.mediaRecord tag rest
  | 1 => s.timingRecord tag rest
  | 2 => s.routeRecord tag rest
  | 3 => s.binRecord tag rest
  | 4 => s.towerRecord tag rest
  | 5 => s.noticeRecord tag rest
  | 6 => s.settingsRecord tag rest
  | _ => if 2 ≤ rest.length then s.refuse 0x14 tag .fieldRange else s.refuse 0x14 tag .badLength

/-- A QUERY ATTENTION by its mode (R163, R179). -/
def State.attentionRecord (tag mode : Byte) (s : State) : State :=
  if mode = 0 then s.peekRecord tag [] else if mode = 1 then s.takeRecord tag [] else s.refuse 0x15 tag .fieldRange

/-- A QUERY by its subject; an unknown one is refused FIELD RANGE (R171, R179). -/
def State.queryRecord (tag subject idx mode : Byte) (s : State) : State :=
  match subject.toNat with
  | 0 => s.queryStateRecord tag [idx, mode]
  | 1 => s.queryQueueRecord tag [idx, mode]
  | 2 => s.queryPathRecord tag [idx, mode]
  | 3 => s.queryTimingRecord tag [idx, mode]
  | 4 => s.queryCompilerRecord tag [idx, mode]
  | 5 => s.queryDeliveryRecord tag [idx, mode]
  | 6 => s.queryRouteRecord tag [idx, mode]
  | 7 => s.queryBinRecord tag [idx, mode]
  | 8 => s.queryTowerRecord tag [idx, mode]
  | 9 => s.attentionRecord tag mode
  | 10 => s.queryJobRecord tag [idx, mode]
  | 11 => s.queryMediaRecord tag [idx, mode]
  | 12 => s.querySettingsRecord tag [idx, mode]
  | _ => s.refuse 0x15 tag .fieldRange

/-- A CONTROL by its code; an unknown one is refused FIELD RANGE (R172, R179). -/
def State.controlRecord (tag code : Byte) (s : State) : State :=
  match code.toNat with
  | 0 => s.pauseRecord tag []
  | 1 => s.resumeRecord tag []
  | 2 => s.clearJamRecord tag []
  | 3 => s.releaseHoldRecord tag []
  | 4 => s.towerResetRecord tag []
  | 5 => s.standbyRecord tag []
  | 6 => s.wakeRecord tag []
  | 7 => s.resetControl tag []
  | _ => s.refuse 0x16 tag .fieldRange

/-- A record of a kind that is no inbound kind (R167). -/
def State.unknownKindRecord (kind tag : Byte) (s : State) : State := s.refuse kind tag .unknownKind

/-- The record of an accepted frame, by its kind and the bytes after its tag (R167, R176). -/
def State.record (kind tag : Byte) (rest : List Byte) (s : State) : State :=
  match kind.toNat with
  | 0x10 => s.sheetRecord tag rest
  | 0x11 => s.jobOpenRecord tag rest
  | 0x12 => s.jobCloseRecord tag rest
  | 0x13 => s.jobPurgeRecord tag rest
  | 0x14 =>
    match rest with
    | table :: rest => s.tableRecord tag table rest
    | [] => s.refuse 0x14 tag .badLength
  | 0x15 =>
    match rest with
    | [subject, idx, mode] => s.queryRecord tag subject idx mode
    | _ => s.refuse 0x15 tag .badLength
  | 0x16 =>
    match rest with
    | [code] => s.controlRecord tag code
    | _ => s.refuse 0x16 tag .badLength
  | _ => s.unknownKindRecord kind tag

/-- UNKNOWN_KIND (R167). -/
def execUnknownKind (kind tag : Byte) (_rest : List Byte) (s : State) : Host.Outcome State Fault Refusal :=
  s.does fun s => s.frameTaken.unknownKindRecord kind tag

/-! ## The receiver -/

/-- The receiver moves to a state other than HUNT, and the inter-byte timer starts again (R166). -/
def State.receive (r : Receiver) (s : State) : State :=
  { s with report := { s.report with link := { s.report.link with receiver := r, byteTimer := some s.now } } }

/-- The receiver returns to HUNT and the timer stops (R166). -/
def State.hunt (s : State) : State :=
  { s with report := { s.report with link := { s.report.link with receiver := .hunt, byteTimer := none } } }

/-- The frame is discarded with LINK FRAME and an error kind: 0 TIMEOUT, 1 LENGTH, 2 CHECK (R166, R179). -/
def State.frameError (kind : Nat) (s : State) : State := s.hunt.notify ⟨.linkFrame, some kind, none, none, none⟩ none

/-- A received body byte is kept; the last one leads to CHECK (R166). -/
def State.bodyByte (len kind : Byte) (got : List Byte) (b : Byte) (s : State) : State :=
  let got := got ++ [b]
  if got.length < len.toNat then s.receive (.body len kind got) else s.receive (.check len kind got)

/-- The check byte is taken: the frame is accepted and dispatched, or discarded (R166, R167). -/
def State.checkByte (len kind : Byte) (got : List Byte) (b : Byte) (s : State) : State :=
  if b = frameCheck len kind got then
    match got with
    | tag :: rest => s.frameTaken.record kind tag rest
    | [] => s.frameTaken
  else s.frameError 2

/-- One received byte, with its stop bit low or not, is taken by the state it finds (R166). -/
def State.takeByte (b : Byte) (stopLow : Bool) (s : State) : State :=
  match s.report.link.receiver with
  | .hunt => if !stopLow && b = 0xA5 then s.receive .length else s
  | .length =>
    if stopLow then s.frameError 2
    else if 1 ≤ b.toNat && b.toNat ≤ 60 then s.receive (.kind b)
    else s.frameError 1
  | .kind len => if stopLow then s.frameError 2 else s.receive (.body len b [])
  | .body len kind got => if stopLow then s.frameError 2 else s.bodyByte len kind got b
  | .check len kind got => if stopLow then s.frameError 2 else s.checkByte len kind got b

/-- RECEIVED_BYTE (R166): a byte with its stop bit high. -/
def execReceivedByte (byte : Byte) (s : State) : Host.Outcome State Fault Refusal :=
  s.does fun s => s.takeByte byte false

/-- BAD_FRAME (R166): a byte that discards the frame, by its value or by a low stop bit (log entry 6). -/
def execBadFrame (byte : Byte) (stopLow : Bool) (s : State) : Host.Outcome State Fault Refusal :=
  s.does fun s => s.takeByte byte stopLow

/-- INTER_BYTE_TIMEOUT (R166): more than 5 ms have passed after a byte, with the receiver not in HUNT. -/
def execInterByteTimeout (s : State) : Host.Outcome State Fault Refusal :=
  s.does fun s =>
    match s.report.link.byteTimer with
    | some start => (s.reach (start + Config.interByteTime + 1)).frameError 0
    | none => s

/-! ## The transmitter -/

/-- The transmitter begins a record (R175). -/
def Report.send (r : OutRec) (now : Nat) (p : Report) : Report := { p with link := { p.link with sending := some ⟨r, now⟩ } }

/-- The head of the queue leaves it (R173): as the occupancy falls below 16, BACKLOG is dropped and the sending test made. -/
def Report.leave (rest : List OutRec) (p : Report) : Report :=
  let falls := p.occupancy = Config.backlogMark
  let p := ({ p with link := { p.link with queue := rest } } : Report).syncBacklog
  if falls then p.sendingTest else p

/-- Whether a record at the head waits: a HELLO whose towers are not yet known (R143, R175). -/
def OutRec.waits : OutRec → Bool
  | .hello _ none => true
  | _ => false

/-- The idle transmitter begins the FEED slot's record, or the queue head (R175). -/
def Report.transmit (now : Nat) (p : Report) : Report :=
  match p.feed.slot with
  | some f => ({ p with feed := { p.feed with slot := none } } : Report).send (.feed f) now
  | none =>
    match p.link.queue with
    | [] => p
    | r :: rest => if r.waits then p else (p.send r now).leave rest

/-- TRANSMIT_BEGIN (R175): nothing is begun while a record is being sent. -/
def execTransmitBegin (s : State) : Host.Outcome State Fault Refusal :=
  s.does fun s =>
    match s.report.link.sending with
    | some _ => s
    | none => { s with report := s.report.transmit s.now }

/-- The tick by which the frame being sent is complete (R165). -/
def Sending.doneAt (x : Sending) : Nat := x.start + ceilDiv (x.record.frame.length * 1000) 23040

/-- TRANSMIT_DONE (R175): the frame completes, and the transmitter is idle. -/
def execTransmitDone (s : State) : Host.Outcome State Fault Refusal :=
  s.does fun s =>
    match s.report.link.sending with
    | some x =>
      let s := s.reach x.doneAt
      { s with report := { s.report with link := { s.report.link with sending := none } } }
    | none => s

end Sys2Proof.Machine
end

