-- ==== Sys2Proof/Machine/PathEvents.lean ====
section
/-! DEFINITION. The edges of the path sensors: the Entry Binder at S1 (R32 to R40), the path list (R50 to R55), the SE watch with the
hand-over at SE (R56, R82, R128), and arrivals at S0 (R135). -/

namespace Sys2Proof.Machine

/-! ## Taking the head -/

/-- The queue after its head was taken: one owed position is repaid with a gap marker (R29). -/
def DescQueue.taken (q : DescQueue) : DescQueue :=
  let rest := q.entries.tail
  if q.debt = 0 then { q with entries := rest }
  else
    { q with
      entries := rest ++ [.gap q.nextOwed]
      debt := q.debt - 1
      nextOwed := if q.debt = 1 then none else q.nextOwed.map fun x => x + 1 }

/-- The head leaves the Descriptor Queue (R29, R30). -/
def State.takeHead (s : State) : State := { s with queue := s.queue.taken }.syncQueue

/-! ## Binding and orphans -/

/-- The lowest name that no entry on the path list has, nor the entry at S2, which may have left the list (R48; log entries 21 and 45). -/
def PathMonitor.freeId (p : PathMonitor) : EntryName :=
  ((List.finRange 7).find? fun i => p.list.all (fun e => e.id ≠ i) && p.s2.all fun a => a.id ≠ i).getD 0

/-- The length the stall and length checks use (R9, R45). -/
def State.lengthOf (s : State) : SheetBody → Nat
  | .bound _ _ snap => snap.length
  | .orphan _ => s.media[0].length

/-- Whether a sheet is bound. -/
def SheetBody.isBound : SheetBody → Bool
  | .bound .. => true
  | .orphan _ => false

/-- The path-list entry of a classified sheet is created, G1 set, and the sheet put under the Path Monitor's windows (R39, R40, R50). -/
def State.enterPath (seq : Option Seq) (slotOrd : Option (Fin 16 × Nat)) (sheetOrd : Option Nat) (body : SheetBody)
    (s : State) : State :=
  let p := s.path
  let id := p.freeId
  let len := s.lengthOf body
  let d := if body.isBound then p.timing[4] else p.timing[6]
  let e : PathEntry :=
    { id := id, seq := seq, slotOrd := slotOrd, sheetOrd := sheetOrd, body := body, mismatch := false
      stage := if body.isBound then .toS2 else .toSR
      window := some ⟨s.now, p.lateLimit d⟩, s1Clear := false, released := false }
  { s with
    path := { p with list := p.list ++ [e], s1 := some ⟨id, s.now, len, some ⟨s.now, p.stallLimit len⟩⟩ }
    binder := { s.binder with g1 := if body.isBound then .main else .reject } }

/-- A sheet is made an orphan (R40). -/
def State.makeOrphan (reason : OrphanReason) (seq : Option Seq) (s : State) : State := s.enterPath seq none none (.orphan reason)

/-- A sheet whose descriptor was readable is made an orphan (R40). -/
def State.orphanOf (reason : OrphanReason) (d : Descriptor) (s : State) : State :=
  s.enterPath (some d.seq) (some (d.slot, d.setOrdinal)) (some d.sheetOrdinal) (.orphan reason)

/-- An orphan counted as a loose sheet of its slot (R6). -/
def State.looseOf (reason : OrphanReason) (d : Descriptor) (s : State) : State :=
  (s.bump d.slot Counters.addLoose).orphanOf reason d

/-- The forming set is marked broken (R13). -/
def State.breakForming (b : BrokenReason) (s : State) : State :=
  match s.binder.forming with
  | some r => s.modRec r (SetRec.markBroken b)
  | none => s

/-- The forming set is marked broken and closed (R35 to R37). -/
def State.endForming (b : BrokenReason) (s : State) : State :=
  match s.binder.forming with
  | some r => (s.modRec r (SetRec.markBroken b)).closeForming r
  | none => s

/-- Whether the forming set is the one a descriptor names by slot and set ordinal (R35, R37). -/
def State.ownForming (d : Descriptor) (s : State) : Bool :=
  match s.binder.forming with
  | some r =>
    match s.getRec r with
    | some x => x.slot = d.slot && x.setOrdinal = d.setOrdinal
    | none => false
  | none => false

/-- A sheet is bound to record `r` (R39). -/
def State.bind (d : Descriptor) (r : Fin 8) (s : State) : State :=
  let snap := s.media[d.media]
  (s.enterPath (some d.seq) (some (d.slot, d.setOrdinal)) (some d.sheetOrdinal) (.bound r d.media snap)).modRec r fun x =>
    { x with allEligible := x.allEligible && snap.eligible }

/-- A LAST sheet has been bound: the set is checked against its declared count and closed (R38). -/
def State.lastBound (d : Descriptor) (r : Fin 8) (s : State) : State :=
  match s.getRec r with
  | none => s
  | some x =>
    (if x.count.isSome && x.count ≠ some d.sheetOrdinal then s.setRec r (x.markBroken .countShort) else s).closeForming r

/-- Whether a route entry matches a job number and a key (R88). -/
def RouteEntry.routes (job : Nat) (key : Option Nat) (e : RouteEntry) : Bool :=
  e.valid && (e.job.isNone || e.job = some job) &&
    match key with
    | some k => e.keyBase ≤ k && k ≤ e.keyLimit
    | none => e.keyBase = 0 && e.keyLimit = 65535

/-- The route snapshot of a set being opened (R88, R89). -/
def RouteTable.resolve (job : Nat) (key : Option Nat) (t : RouteTable) : RouteSnap :=
  match (List.finRange 32).find? fun i => t.entries[i].routes job key with
  | some i => .entry i t.entries[i].first t.entries[i].last t.entries[i].policy t.entries[i].generation
  | none => if t.unmatched = .quiet then .default t.defaultBin else .none

/-- The record of a set being opened (R10, R12, R36). -/
def State.newRec (d : Descriptor) (s : State) : SetRec :=
  let j := s.jobs[d.slot]
  { slot := d.slot, jobNumber := j.number, setOrdinal := d.setOrdinal, part := 0, key := d.key, count := d.count
    pattern := d.finish.getD j.pattern, policy := j.policy, offset := j.offset, route := s.routes.resolve j.number d.key
    bound := 1, lastOrdinal := 1, compiled := 0, thickness := 0, allEligible := true, broken := none, decision := none
    result := .notRequested, skip := none, height := none, chosen := none, partBin := none, nextPart := none, side := .none
    divert := none, place := .path, state := .forming }

/-- A FIRST sheet of an OPEN slot: the forming set is closed, and a new set opened if a record is FREE (R36). -/
def State.openSet (d : Descriptor) (s : State) : State :=
  let s := s.endForming .missingEnd
  match s.sets.freeIndex with
  | none => s.looseOf .noSetRecord d
  | some r =>
    let s := (s.allocate r (s.newRec d)).bump d.slot Counters.addOpened
    let s := { s with binder := { s.binder with forming := some r } }.bind d r
    if d.last then s.lastBound d r else s

/-- A joining sheet's ordinal is checked and the sheet counted into its set (R37, R39). -/
def SetRec.join (d : Descriptor) (x : SetRec) : SetRec :=
  let x := if d.sheetOrdinal = x.lastOrdinal + 1 then x else x.markBroken .ordinalSkip
  let x := if x.count.any fun n => n < d.sheetOrdinal then x.markBroken .countExceeded else x
  { x with bound := x.bound + 1, lastOrdinal := d.sheetOrdinal }

/-- A sheet of an OPEN slot without FIRST is tried against the forming set (R37). -/
def State.extendSet (d : Descriptor) (s : State) : State :=
  match s.binder.forming with
  | none => s.looseOf .noSet d
  | some r =>
    match s.getRec r with
    | none => s.looseOf .noSet d
    | some x =>
      if !s.ownForming d then (s.endForming .jobChange).looseOf .noSet d
      else if 255 ≤ x.bound then (s.endForming .countExceeded).looseOf .noSet d
      else
        let s := (s.setRec r (x.join d)).bind d r
        if d.last then s.lastBound d r else s

/-- A sheet whose descriptor names a slot that is not OPEN (R35). -/
def State.unopened (d : Descriptor) (s : State) : State :=
  match s.jobs[d.slot].state with
  | .free => s.orphanOf .jobNotOpen d
  | .purging => s.looseOf .jobPurging d
  | _ => (if s.ownForming d then s.endForming .sheetMissing else s).looseOf .jobNotOpen d

/-- A sheet with a readable descriptor is classified (R35 to R38), and the completion test follows for the slot it names (R29). -/
def State.classifyDescriptor (d : Descriptor) (s : State) : State :=
  (if s.jobs[d.slot].state ≠ .opened then s.unopened d
    else if d.first then s.openSet d
    else s.extendSet d).completionTest d.slot

/-- A sheet that finds the queue empty (R33). -/
def State.noDescriptor (s : State) : State :=
  let e := s.queue.expected
  { s with queue := { s.queue with expected := e.map fun x => x + 1 } }.makeOrphan .noDescriptor e

/-- The sheet at S1 is classified by the queue head (R32 to R38). -/
def State.classify (s : State) : State :=
  match s.queue.entries with
  | [] => s.noDescriptor
  | .gap q :: _ => (s.takeHead.breakForming .sheetMissing).makeOrphan .lostDescriptor q
  | .void q :: _ => (s.takeHead.breakForming .sheetMissing).makeOrphan .badDescriptor (some q)
  | .descriptor d :: _ => s.takeHead.classifyDescriptor d

/-! ## S1 -/

/-- A sheet reaches S1 in RUNNING or PAUSED (R50). -/
def State.s1Sheet (s : State) : State :=
  if s.path.list.length < Config.pathCapacity then s.classify else s.jam .bufferOverflow .s1

/-- S1_LEADING_EDGE (R50, R57). -/
def execS1LeadingEdge (s : State) : Host.Outcome State Fault Refusal :=
  s.does fun s =>
    let s := { s with pins := { s.pins with s1 := true } }
    match s.run.op with
    | .running => s.s1Sheet
    | .paused => s.s1Sheet
    | .starting => s
    | _ => s.jam .unexpectedSheet .s1

/-- The length check at the S1 trailing edge (R46): a mismatch flags the entry and breaks the set of a bound sheet. -/
def State.lengthCheck (e : PathEntry) (a : AtS1) (s : State) : State :=
  if s.path.lengthDiffers (s.path.measured (s.now - a.edge)) a.len then
    let s := { s with path := s.path.modEntry a.id fun e => { e with mismatch := true } }
    match e.boundTo with
    | some (r, _) => s.modRec r (SetRec.markBroken .length)
    | none => s
  else s

/-- The sheet at S1 clears it (R51). -/
def State.s1Clears (a : AtS1) (s : State) : State :=
  let s := { s with path := { s.path with s1 := none } }
  match s.path.entry a.id with
  | none => s
  | some e =>
    let s := s.lengthCheck e a
    { s with path := s.path.modEntry a.id fun e => { e with s1Clear := true } }.leaveIfDone a.id

/-- S1_TRAILING_EDGE (R51). -/
def execS1TrailingEdge (s : State) : Host.Outcome State Fault Refusal :=
  s.does fun s =>
    let s := { s with pins := { s.pins with s1 := false } }
    match s.path.s1 with
    | none => s
    | some a => s.s1Clears a

/-! ## S2, SC and SR -/

/-- The oldest entry at a stage (R48). -/
def PathMonitor.oldest (st : Stage) (p : PathMonitor) : Option PathEntry := p.list.find? fun e => e.stage = st

/-- A sheet is sent towards SC, and its thickness is in flight from now on (R44, R67; log entry 54). -/
def State.sendToSC (e : PathEntry) (snap : Media) (released : Bool) (s : State) : State :=
  { s with
    path := s.path.modEntry e.id fun e =>
      { e with stage := .toSC, window := some ⟨s.now, s.path.lateLimit s.path.timing[5]⟩, released := released }
    compiler := { s.compiler with inFlight := s.compiler.inFlight + snap.thickness } }

/-- BUFFER stands while the entry buffer holds a sheet (R53). -/
def State.syncBuffer (s : State) : State := s.setReason .buffer (!s.path.buffer.isEmpty)

/-- A sheet goes onto the entry buffer (R52); one that finds it empty is tested for readiness there (R53, R66, R70). -/
def State.sendToBuffer (e : PathEntry) (s : State) : State :=
  if Config.bufferCapacity ≤ s.path.buffer.length then s.jam .bufferOverflow .s2
  else
    let p := s.path.modEntry e.id fun e => { e with stage := .onBuffer, window := none }
    let s' := { s with path := { p with buffer := p.buffer ++ [e.id] } }.syncBuffer
    if s.path.buffer.isEmpty then s'.bufferTest else s'

/-- A bound sheet reaches S2 (R52). -/
def State.s2Sheet (e : PathEntry) (r : Fin 8) (snap : Media) (s : State) : State :=
  let s := { s with path := { s.path with s2 := some ⟨e.id, some ⟨s.now, s.path.stallLimit snap.length⟩⟩ } }
  if s.path.buffer.isEmpty && s.compilerReady r snap.thickness && s.sameSetInFlight r then s.sendToSC e snap false
  else s.sendToBuffer e

/-- S2_LEADING_EDGE (R52, R57). -/
def execS2LeadingEdge (s : State) : Host.Outcome State Fault Refusal :=
  s.does fun s =>
    let s := { s with pins := { s.pins with s2 := true } }
    if s.working then
      match s.path.oldest .toS2 with
      | none => s.jam .unexpectedSheet .s2
      | some e =>
        match e.boundTo with
        | some (r, snap) => s.s2Sheet e r snap
        | none => s
    else s

/-- S2_TRAILING_EDGE (R52, R57). -/
def execS2TrailingEdge (s : State) : Host.Outcome State Fault Refusal :=
  s.does fun s =>
    let s := { s with pins := { s.pins with s2 := false } }
    if s.working then { s with path := { s.path with s2 := none } } else s

/-- The oldest entry at a stage arrives at its sensor (R54, R55): its arrival takes effect once it has cleared S1 (R49). -/
def State.sheetArrives (st : Stage) (sensor : Sensor) (s : State) : State :=
  match s.path.oldest st with
  | none => s.jam .unexpectedSheet sensor
  | some e =>
    { s with path := s.path.modEntry e.id fun e => { e with stage := .arrived, window := none } }.leaveIfDone e.id

/-- SC_LEADING_EDGE (R54, R57). -/
def execScLeadingEdge (s : State) : Host.Outcome State Fault Refusal :=
  s.does fun s =>
    let s := { s with pins := { s.pins with sc := true } }
    if s.working then s.sheetArrives .toSC .sc else s

/-- SR_LEADING_EDGE (R55, R57). -/
def execSrLeadingEdge (s : State) : Host.Outcome State Fault Refusal :=
  s.does fun s =>
    let s := { s with pins := { s.pins with sr := true } }
    if s.working then s.sheetArrives .toSR .sr else s

/-- Whether the head of the entry buffer may be released (R53). -/
def State.releaseReady (s : State) : Option (PathEntry × Media) :=
  match s.path.bufferHead with
  | none => none
  | some (e, r, snap) =>
    if s.compilerReady r snap.thickness && s.sameSetInFlight r && s.path.list.all fun e => !(e.released && e.stage = .toSC) then
      some (e, snap)
    else none

/-- BUFFER_RELEASE (R53): the head leaves the buffer for SC. -/
def execBufferRelease (s : State) : Host.Outcome State Fault Refusal :=
  s.does fun s =>
    match s.releaseReady with
    | none => s
    | some (e, snap) => ({ s with path := { s.path with buffer := s.path.buffer.tail } }.sendToSC e snap true).syncBuffer

/-! ## SE and S0 -/

/-- The compiler is EMPTY at its set's SE leading edge (R82). -/
def State.vacate (s : State) : State :=
  { s with compiler := { s.compiler with current := none, contents := 0 } }.setCompiler .empty

/-- The delivery list with the DEPARTING entry of record `r` TRAVELLING (R128). -/
def Delivery.travels (r : Fin 8) (v : Travel) (d : Delivery) : Delivery :=
  { d with list := d.list.map fun e => if e.set = r && e.travel.isNone then { e with travel := some v } else e }

/-- A set claimed a place on the list: it is TRAVELLING and ON BELT (R128). -/
def State.setTravels (r : Fin 8) (x : SetRec) (s : State) : State :=
  let t := targetOf (x.chosen.getD 0)
  let s := s.setRec r { x with state := .onBelt, place := .list }
  { s with delivery := (s.delivery.travels r ⟨t, ⟨s.now, s.path.deliveryLimit t⟩⟩).setG0 t s.now }

/-- A set claimed the shelf: it lands there, HELD with its timer running if it has no bin (R128, R129). That the HELD notice is
given before the Feed Governor is told of the shelf is the model's choice (log entry 52). -/
def State.setShelved (r : Fin 8) (x : SetRec) (s : State) : State :=
  let held := x.chosen.isNone
  let s := s.setRec r { x with state := if held then .held else .readyToEject, place := .shelf }
  let s := { s with
    delivery := { s.delivery with
      shelf := .occupied
      holdTimer := if held then some s.now else none
      compilerHold := if s.delivery.compilerHold = some r then none else s.delivery.compilerHold } }
  (if held then s.notify ⟨.held, some x.slot.val, some x.jobNumber, some x.setOrdinal, some x.part⟩ none else s).recombine

/-- A set is handed to the Delivery Controller at SE (R82, R128). -/
def State.setAtSE (w : SEWatch) (s : State) : State :=
  let s := { s with
    path := { s.path with
      firstLen := none
      se := some { w with edgeTaken := true, window := none, stall := some ⟨s.now, s.path.stallLimit w.len⟩ } } }.vacate
  match s.getRec w.set with
  | none => s
  | some x =>
    if s.delivery.list.any fun e => e.set = w.set && e.travel.isNone then s.setTravels w.set x else s.setShelved w.set x

/-- SE_LEADING_EDGE (R56, R57). -/
def execSeLeadingEdge (s : State) : Host.Outcome State Fault Refusal :=
  s.does fun s =>
    let s := { s with pins := { s.pins with se := true } }
    if s.working then
      match s.path.se with
      | some w => if w.edgeTaken then s.jam .unexpectedSet .se else s.setAtSE w
      | none => s.jam .unexpectedSet .se
    else s

/-- SE_TRAILING_EDGE (R56, R82): the watch is none, the eject drive stops, and the buffer makes its test. -/
def execSeTrailingEdge (s : State) : Host.Outcome State Fault Refusal :=
  s.does fun s =>
    let s := { s with pins := { s.pins with se := false } }
    if s.working then
      { s with
        path := { s.path with se := none }
        compiler := { s.compiler with ejectDrive := false } }.bufferTest
    else s

/-- S0_ARRIVAL (R135). -/
def execS0Arrival (s : State) : Host.Outcome State Fault Refusal :=
  s.does fun s => { s with pins := { s.pins with s0 := true } }.arrive .s0

end Sys2Proof.Machine
end

