-- ==== Sys2Proof/Machine/Timers.lean ====
section
/-! DEFINITION. Timers that reach their limits: the late windows and stall timers of the path (R44, R45, R137), and the timers of the Run
Controller and the governor (R144 to R147, R153). -/

namespace Sys2Proof.Machine

/-! ## Windows and stall timers -/

/-- The window of the oldest entry at a stage. -/
def PathMonitor.windowAt (st : Stage) (p : PathMonitor) : Option Window :=
  match p.list.find? fun e => e.stage = st with
  | some e => e.window
  | none => none

/-- A late window the Path Monitor owns (R44). -/
def PathMonitor.lateWindow (p : PathMonitor) : PathWindow → Option Window
  | .s2 => p.windowAt .toS2
  | .sc => p.windowAt .toSC
  | .sr => p.windowAt .toSR
  | .se => p.se.bind SEWatch.window

/-- The sensor a late window expects an arrival at. -/
def windowSensor : PathWindow → Sensor
  | .s2 => .s2
  | .sc => .sc
  | .sr => .sr
  | .se => .se

/-- The tick a window or stall timer expires at. -/
def Window.limitAt (w : Window) : Nat := w.start + w.limit

/-- PATH_LATE_WINDOW_EXPIRY (R44). -/
def execPathLateWindowExpiry (w : PathWindow) (s : State) : Host.Outcome State Fault Refusal :=
  s.does fun s =>
    match s.path.lateWindow w with
    | some x => (s.reach x.limitAt).jam .late (windowSensor w)
    | none => s

/-- The window of the oldest TRAVELLING entry for a target (R137). -/
def Delivery.lateWindow (t : Target) (d : Delivery) : Option Window := (d.expecting t).bind fun e => e.travel.map Travel.window

/-- DELIVERY_WINDOW_EXPIRY (R137). -/
def execDeliveryWindowExpiry (t : Target) (s : State) : Host.Outcome State Fault Refusal :=
  s.does fun s =>
    match s.delivery.lateWindow t with
    | some x => (s.reach x.limitAt).jam .late (targetSensor t)
    | none => s

/-- A stall timer of the Path Monitor (R45). -/
def PathMonitor.stall (p : PathMonitor) : StallSensor → Option Window
  | .s1 => p.s1.bind AtS1.stall
  | .s2 => p.s2.bind AtS2.stall
  | .se => p.se.bind SEWatch.stall

/-- The sensor a stall timer watches. -/
def stallAt : StallSensor → Sensor
  | .s1 => .s1
  | .s2 => .s2
  | .se => .se

/-- Whether a watched sensor is covered (R45). -/
def Pins.covers (p : Pins) : StallSensor → Bool
  | .s1 => p.s1
  | .s2 => p.s2
  | .se => p.se

/-- One stall timer stops. -/
def PathMonitor.stopStall (w : StallSensor) (p : PathMonitor) : PathMonitor :=
  match w with
  | .s1 => { p with s1 := p.s1.map fun a => { a with stall := none } }
  | .s2 => { p with s2 := p.s2.map fun a => { a with stall := none } }
  | .se => { p with se := p.se.map fun a => { a with stall := none } }

/-- A stall timer at its limit: with the sensor still covered a jam of kind STALL is declared (R45). With it clear, its trailing edge having
had no effect (R57), the timer stops and nothing is declared (log entry 46). -/
def State.stallExpires (w : StallSensor) (s : State) : State :=
  if s.pins.covers w then s.jam .stall (stallAt w) else { s with path := s.path.stopStall w }

/-- STALL_TIMER_EXPIRY (R45). -/
def execStallTimerExpiry (w : StallSensor) (s : State) : Host.Outcome State Fault Refusal :=
  s.does fun s =>
    match s.path.stall w with
    | some x => (s.reach x.limitAt).stallExpires w
    | none => s

/-! ## Run Controller and governor -/

/-- SPIN_UP_END (R144). -/
def execSpinUpEnd (s : State) : Host.Outcome State Fault Refusal :=
  s.does fun s =>
    match s.run.spinUp with
    | some start =>
      let s := s.reach (start + Config.spinUpTime)
      { s with run := { s.run with spinUp := none } }.drop .spinUp
    | none => s

/-- IDLE_TIMER_EXPIRY (R145): the part enters READY. -/
def execIdleTimerExpiry (s : State) : Host.Outcome State Fault Refusal :=
  s.does fun s =>
    match s.run.idle with
    | some start => (s.reach (start + Config.idleTime)).enterReady
    | none => s

/-- The standby delay in ms (R146). -/
def RunController.standbyTime (r : RunController) : Nat := r.standbyDelay * 60000

/-- STANDBY_TIMER_EXPIRY (R146): with a delay of 0 the timer never expires. -/
def execStandbyTimerExpiry (s : State) : Host.Outcome State Fault Refusal :=
  s.does fun s =>
    match s.run.standby with
    | some start => if s.run.standbyDelay = 0 then s else (s.reach (start + s.run.standbyTime)).enterStandby
    | none => s

/-- The end of WAKING (R147): RUNNING with spin-up if a job slot is not FREE, READY otherwise. -/
def State.wakeEnds (s : State) : State :=
  let s := { s with run := { s.run with wake := none } }
  (if s.allJobsFree then s.enterReady else s.enterRunning).drop .wake

/-- WAKE_TIMER_END (R147). -/
def execWakeTimerEnd (s : State) : Host.Outcome State Fault Refusal :=
  s.does fun s =>
    match s.run.wake with
    | some start => (s.reach (start + Config.wakeTime)).wakeEnds
    | none => s

/-- GOVERNOR_TIMER_EXPIRY (R153). -/
def execGovernorTimerExpiry (s : State) : Host.Outcome State Fault Refusal :=
  s.does fun s =>
    match s.report.gov.timer with
    | some start =>
      let s := s.reach (start + s.report.gov.d * 100)
      { s with report := s.report.governorExpires }
    | none => s

end Sys2Proof.Machine
end

