-- ==== Sys2Proof/Machine/BinEvents.lean ====
section
/-! DEFINITION. Qualified changes of the bin sensors (R110 to R112), of the reject tray sensors (R150, R152), and the wake event a change
at a tower may give (R122). -/

namespace Sys2Proof.Machine

/-! ## Wake events -/

/-- A qualified change at a wake-enabled tower in STANDBY wakes the part (R122, R147). -/
def State.wakeEvent (t : Fin 4) (s : State) : State :=
  if s.run.op = .standby && s.chain.towers[t].wakeEnable then s.enterWaking else s

/-- The wake event of a change at a bin; bin 0 gives none (R122). -/
def State.wakeByBin (b : Fin 41) (s : State) : State :=
  match towerOf b with
  | some t => s.wakeEvent t
  | none => s

/-! ## The present sensor -/

/-- An empty of a bin (R110). -/
def State.binEmptied (b : Fin 41) (s : State) : State :=
  let x := s.bins[b]
  let s := s.notify ⟨.binEmptied, some b.val, some x.fill, some x.count, none⟩ (towerOf b)
  ((s.updateBin b fun x => { x with fill := 0, count := 0, nextSide := .left }).cursorReturn b).binEvent b

/-- The present sensor of a bin takes a qualified state (R110): clear from covered is an empty, and so is a first clear with fill above
0; nothing else is. Bin 0's sensor is an input of the part, which reads so (log entry 20). -/
def State.presentQualified (b : Fin 41) (v : Bool) (s : State) : State :=
  let x := s.bins[b]
  let s := s.modBin b fun x => { x with present := .qualified v }
  let s := { s with pins := { s.pins with bin0Present := if b = 0 then v else s.pins.bin0Present } }
  if !v && (x.present.state = some true || (x.present.state = none && 0 < x.fill)) then s.binEmptied b else s

/-! ## The full sensor -/

/-- The fill a re-reference gives (R112). -/
def Bin.rereferenced (x : Bin) : Nat := x.capacity - x.margin - 1

/-- A bin as its full sensor takes a qualified state (R111, R112). -/
def Bin.fullQualified (v : Bool) (x : Bin) : Bin :=
  { x with
    full := .qualified v
    fill :=
      if v then max x.fill x.capacity
      else if x.full.state = some true && x.present.state = some true then x.rereferenced
      else x.fill }

/-- The full sensor of a bin takes a qualified state (R111); a re-reference has its cursor-return test and bin event (R112). That the test
comes before the event is the model's choice, for R112 and R98 fix no order (log entry 47). -/
def State.fullQualified (b : Fin 41) (v : Bool) (s : State) : State :=
  let x := s.bins[b]
  let s := s.updateBin b (Bin.fullQualified v)
  let s := { s with pins := { s.pins with bin0Full := if b = 0 then v else s.pins.bin0Full } }
  if !v && x.full.state = some true && x.present.state = some true then (s.cursorReturn b).binEvent b else s

/-! ## The commands -/

/-- Whether a tower is polled: it is present, and no enumeration runs (R117, R118). -/
def State.polled (t : Fin 4) (s : State) : Bool := s.chain.towers[t].present && s.chain.enum.isNone

/-- Whether the bin's sensors are sampled (R109, R117): a tower's only while it is polled, its supply on. -/
def State.sampled (b : Fin 41) (s : State) : Bool :=
  match towerOf b with
  | none => true
  | some t => s.polled t && s.chain.towers[t].state ≠ .unpowered

/-- BIN_EMPTY (R110): the present sensor qualifies clear. -/
def execBinEmpty (b : Fin 41) (s : State) : Host.Outcome State Fault Refusal :=
  s.does fun s =>
    if s.sampled b && s.bins[b].present.state ≠ some false then (s.presentQualified b false).wakeByBin b else s

/-- BIN_PRESENT_COVERED (R110): the present sensor qualifies covered. -/
def execBinPresentCovered (b : Fin 41) (s : State) : Host.Outcome State Fault Refusal :=
  s.does fun s =>
    if s.sampled b && s.bins[b].present.state ≠ some true then (s.presentQualified b true).wakeByBin b else s

/-- BIN_FULL_SENSOR_COVERED (R111). -/
def execBinFullSensorCovered (b : Fin 41) (s : State) : Host.Outcome State Fault Refusal :=
  s.does fun s =>
    if s.sampled b && s.bins[b].full.state ≠ some true then (s.fullQualified b true).wakeByBin b else s

/-- Whether a clear full sensor would be a re-reference (R112). -/
def Bin.rereferences (x : Bin) : Bool := x.full.state = some true && x.present.state = some true

/-- BIN_FULL_SENSOR_CLEAR (R111): the full sensor qualifies clear, and it is no re-reference. -/
def execBinFullSensorClear (b : Fin 41) (s : State) : Host.Outcome State Fault Refusal :=
  s.does fun s =>
    if s.sampled b && s.bins[b].full.state ≠ some false && !s.bins[b].rereferences then (s.fullQualified b false).wakeByBin b
    else s

/-- RE_REFERENCE (R112): the full sensor qualifies clear with the present sensor covered. -/
def execReReference (b : Fin 41) (s : State) : Host.Outcome State Fault Refusal :=
  s.does fun s => if s.sampled b && s.bins[b].rereferences then (s.fullQualified b false).wakeByBin b else s

/-! ## The reject tray -/

/-- REJECT_NEAR_FULL_CHANGE (R152): governor condition G2 follows the sensor. -/
def execRejectNearFullChange (covered : Bool) (s : State) : Host.Outcome State Fault Refusal :=
  s.does fun s =>
    if s.rejectNear.state = some covered then s
    else { s with rejectNear := .qualified covered, pins := { s.pins with rejectNear := covered } }.recombine

/-- REJECT_FULL_CHANGE (R150): REJECT FULL stands while the sensor is qualified covered. -/
def execRejectFullChange (covered : Bool) (s : State) : Host.Outcome State Fault Refusal :=
  s.does fun s =>
    if s.rejectFull.state = some covered then s
    else
      { s with rejectFull := .qualified covered, pins := { s.pins with rejectFull := covered } }.setReason .rejectFull covered

end Sys2Proof.Machine
end

