-- ==== Sys2Proof/Machine/TowerEvents.lean ====
section
/-! DEFINITION. The polls of a tower (R118, R121) and the qualified changes of its power and door inputs (R119, R120). -/

namespace Sys2Proof.Machine

def State.modTower (t : Fin 4) (f : Tower → Tower) (s : State) : State :=
  { s with chain := { s.chain with towers := s.chain.towers.set t (f s.chain.towers[t]) } }

/-- A cause of class TOWER: the tower's number and its state after the change (R119). -/
def State.towerNotice (t : Fin 4) (cause : Cause) (s : State) : State :=
  s.notify ⟨cause, some (t.val + 1), some s.chain.towers[t].state.code, none, none⟩ (some t)

/-- The state of a tower, or its bins' sensors, have changed since `was`: its bins are derived again, and give their bin events if it
has become READY (R103, R104, R113, R119). That all the notices come before the events, and both in number order, is the model's choice,
which may decide whether the shelf or the compiler is tried first (R131; log entry 15). -/
def State.towerChanged (t : Fin 4) (s was : State) : State :=
  let s := s.binsChanged was (binsOf t)
  if was.chain.towers[t].state ≠ .ready && s.chain.towers[t].state = .ready then (binsOf t).foldl State.binEvent s else s

/-- A jam of a tower whose set is on the delivery list (R118, R120). -/
def State.towerJam (t : Fin 4) (kind : JamKind) (s : State) : State := if s.listHolds t then s.jam kind (.te t) else s

/-- A tower with one of its inputs in a new qualified condition. -/
def Tower.setInput (i : TowerInput) (q : Qual) (t : Tower) : Tower :=
  match i with
  | .power => { t with power := q }
  | .door => { t with door := q }

/-- The input itself. -/
def Tower.input (i : TowerInput) (t : Tower) : Qual :=
  match i with
  | .power => t.power
  | .door => t.door

/-- The cause a qualified change of an input gives (R119). -/
def inputCause (i : TowerInput) (v : Bool) : Cause :=
  match i, v with
  | .power, true => .towerPowerRestored
  | .power, false => .towerPowerLost
  | .door, true => .towerDoorClosed
  | .door, false => .towerDoorOpened

/-- An input of a tower takes a qualified state (R119): a change of the tower's state gives its notice, and an opening may be a jam
(R120). That the tower's notice comes before those of its bins, and the jam after them, is the model's choice (log entry 15). -/
def State.inputQualified (t : Fin 4) (i : TowerInput) (v : Bool) (s : State) : State :=
  let s' := s.modTower t (Tower.setInput i (.qualified v))
  let changed := s'.chain.towers[t].state ≠ s.chain.towers[t].state
  let s' := (if changed then s'.towerNotice t (inputCause i v) else s').towerChanged t s
  (if v then s' else s'.towerJam t .towerDoor).wakeEvent t

/-- TOWER_INPUT_CHANGE (R119): an input of a tower that is polled qualifies (R117). -/
def execTowerInputChange (t : Fin 4) (i : TowerInput) (v : Bool) (s : State) : Host.Outcome State Fault Refusal :=
  s.does fun s =>
    if s.polled t && (s.chain.towers[t].input i).state ≠ some v then s.inputQualified t i v else s

/-! ## Poll replies -/

/-- One sample of an input is taken (R109); a change takes effect. -/
def State.sampleInput (t : Fin 4) (i : TowerInput) (v : Bool) (s : State) : State :=
  let q := (s.chain.towers[t].input i).sample s.qualCount v
  if q.2 then s.inputQualified t i v else s.modTower t (Tower.setInput i q.1)

/-- One sample of a present sensor is taken (R109). -/
def State.samplePresent (b : Fin 41) (v : Bool) (s : State) : State :=
  let q := s.bins[b].present.sample s.qualCount v
  if q.2 then (s.presentQualified b v).wakeByBin b else s.modBin b fun x => { x with present := q.1 }

/-- One sample of a full sensor is taken (R109). -/
def State.sampleFull (b : Fin 41) (v : Bool) (s : State) : State :=
  let q := s.bins[b].full.sample s.qualCount v
  if q.2 then (s.fullQualified b v).wakeByBin b else s.modBin b fun x => { x with full := q.1 }

/-- The two samples of one bin, in the order the reply says. -/
def State.sampleBin (t : Fin 4) (reply : PollReply) (s : State) (i : Fin 10) : State :=
  let b := binAt t i
  let p := reply.presentCovered.getLsbD i.val
  let f := reply.fullCovered.getLsbD i.val
  if reply.fullFirst then (s.sampleFull b f).samplePresent b p else (s.samplePresent b p).sampleFull b f

/-- The samples of a reply: the bin sensors unless the tower is UNPOWERED, then door and power in the order the reply says (R118). -/
def State.takeSamples (t : Fin 4) (reply : PollReply) (s : State) : State :=
  let s := if s.chain.towers[t].state = .unpowered then s else (List.finRange 10).foldl (State.sampleBin t reply) s
  if reply.doorFirst then (s.sampleInput t .door reply.doorClosed).sampleInput t .power reply.powerOn
  else (s.sampleInput t .power reply.powerOn).sampleInput t .door reply.doorClosed

/-- The TEt level and the arrivals of a reply (R121). -/
def State.takeArrivals (t : Fin 4) (reply : PollReply) (s : State) : State :=
  (List.range reply.arrivals.val).foldl (fun s _ => s.arrive (.te t))
    (s.modTower t fun x => { x with teCovered := reply.teCovered })

/-- A good reply is taken (R118), its parts in the order it says (R120; log entry 13). -/
def State.goodReply (t : Fin 4) (reply : PollReply) (s : State) : State :=
  let s := s.modTower t fun x => { x with missed := 0, lastGood := true, answered := true }
  if reply.arrivalsFirst then (s.takeArrivals t reply).takeSamples t reply else (s.takeSamples t reply).takeArrivals t reply

/-- TOWER_POLL_REPLY (R118). -/
def execTowerPollReply (t : Fin 4) (reply : PollReply) (s : State) : Host.Outcome State Fault Refusal :=
  s.does fun s => if s.polled t then s.goodReply t reply else s

/-! ## Missed polls -/

/-- A tower is lost (R118). -/
def State.loseTower (t : Fin 4) (s : State) : State :=
  let s' : State :=
    { s with
      chain := { s.chain with towers := s.chain.towers.set t s.chain.towers[t].unqualify }
      bins := Vector.ofFn fun b : Fin 41 => if towerOf b = some t then s.bins[b].unqualify else s.bins[b] }
  ((s'.towerNotice t .towerLost).towerChanged t s).towerJam t .towerLost

/-- Whether the interval of a tower's last poll is over, so that the next one is due (R118). -/
def Tower.pollOver (now interval : Nat) (t : Tower) : Bool := t.poll.isSome && interval ≤ elapsed now t.poll

/-- A poll without a good reply is counted (R118). Where its interval is over the next poll is made at once; where it is not, its reply has
failed its check, and nothing more is awaited of it. -/
def Tower.missPoll (now interval : Nat) (t : Tower) : Tower :=
  let ended := t.pollOver now interval
  { t with
    missed := min Config.lostPolls (t.missed + 1), lastGood := false
    poll := if ended then some now else t.poll
    answered := !ended }

/-- TOWER_POLL_MISSED (R118): the third missed poll loses the tower. -/
def execTowerPollMissed (t : Fin 4) (s : State) : Host.Outcome State Fault Refusal :=
  s.does fun s =>
    if s.polled t then
      let s := s.modTower t (Tower.missPoll s.now (sampleInterval s.run.op))
      if Config.lostPolls ≤ s.chain.towers[t].missed then s.loseTower t else s
    else s

end Sys2Proof.Machine
end

