-- ==== Sys2Proof/Machine/Clock.lean ====
section
/-! DEFINITION. What the part does of itself (log entries 1 and 2): the steps that are due at the present tick, and the tick. -/

namespace Sys2Proof.Machine

/-- A step that is due under a condition. -/
def dueIf (cond : Bool) (c : Instr) : List Instr := if cond then [c] else []

/-- Whether a timer has run for at least so many ticks. -/
def timerDue (now : Nat) (t : Timer) (limit : Nat) : Bool := t.isSome && limit ≤ elapsed now t

/-- Whether a window or stall timer has reached its limit. -/
def windowDue (now : Nat) : Option Window → Bool
  | some w => w.limitAt ≤ now
  | none => false

/-- The steps of the Link Interface that are due (R165, R166, R175). -/
def State.linkDue (s : State) : List Instr :=
  let k := s.report.link
  dueIf (timerDue s.now k.byteTimer (Config.interByteTime + 1)) .interByteTimeout ++
    dueIf (k.sending.isNone && (s.report.feed.slot.isSome || k.queue.head?.any fun r => !r.waits)) .transmitBegin ++
    dueIf (k.sending.any (Sending.complete s.now)) .transmitDone

/-- The windows and stall timers that are due (R44, R45, R137). -/
def State.windowsDue (s : State) : List Instr :=
  dueIf (windowDue s.now (s.path.lateWindow .s2)) (.pathLateWindowExpiry .s2) ++
    dueIf (windowDue s.now (s.path.lateWindow .sc)) (.pathLateWindowExpiry .sc) ++
    dueIf (windowDue s.now (s.path.lateWindow .sr)) (.pathLateWindowExpiry .sr) ++
    dueIf (windowDue s.now (s.path.lateWindow .se)) (.pathLateWindowExpiry .se) ++
    dueIf (windowDue s.now (s.delivery.lateWindow .s0)) (.deliveryWindowExpiry .s0) ++
    (List.finRange 4).flatMap (fun t => dueIf (windowDue s.now (s.delivery.lateWindow (.te t))) (.deliveryWindowExpiry (.te t))) ++
    dueIf (windowDue s.now (s.path.stall .s1)) (.stallTimerExpiry .s1) ++
    dueIf (windowDue s.now (s.path.stall .s2)) (.stallTimerExpiry .s2) ++
    dueIf (windowDue s.now (s.path.stall .se)) (.stallTimerExpiry .se)

/-- The steps of finishing and delivery that are due (R53, R69, R70, R76, R81, R125, R130, R133). -/
def State.finishingDue (s : State) : List Instr :=
  dueIf s.releaseReady.isSome .bufferRelease ++
    dueIf s.splitReady.isSome .splitEjectStart ++
    dueIf (timerDue s.now s.compiler.jog Config.jogTime) .jogEnd ++
    dueIf (timerDue s.now s.stapler.homeTimer Config.homeTime) .stapleHomeTimeout ++
    dueIf s.ejectReady.isSome .ejectStart ++
    dueIf s.shelfReady.isSome .shelfRelease ++
    dueIf (timerDue s.now s.delivery.g0Busy s.path.gateTime) .g0GateFree ++
    dueIf (timerDue s.now s.delivery.holdTimer (s.delivery.holdLimit * 1000)) .holdTimerExpiry

/-- The steps of start-up, the Run Controller and the governor that are due (R117, R142, R144 to R147, R153). -/
def State.runDue (s : State) : List Instr :=
  dueIf s.startupDone .startupComplete ++
    dueIf (s.run.op = .starting && timerDue s.now s.run.startup Config.startupTime) .startupTimerExpiry ++
    dueIf (s.chain.enum.any fun e => Config.slotTime ≤ s.now - e.start) .enumerationSlotTimeout ++
    dueIf (timerDue s.now s.run.spinUp Config.spinUpTime) .spinUpEnd ++
    dueIf (timerDue s.now s.run.idle Config.idleTime) .idleTimerExpiry ++
    dueIf (s.run.standbyDelay ≠ 0 && timerDue s.now s.run.standby s.run.standbyTime) .standbyTimerExpiry ++
    dueIf (timerDue s.now s.run.wake Config.wakeTime) .wakeTimerEnd ++
    dueIf (timerDue s.now s.report.gov.timer (s.report.gov.d * 100)) .governorTimerExpiry

/-- The poll of a tower that no reply has come to before its next poll is due (R118). -/
def State.pollsDue (s : State) : List Instr :=
  (List.finRange 4).flatMap fun t =>
    dueIf (s.polled t && !s.chain.towers[t].answered && s.chain.towers[t].pollOver s.now (sampleInterval s.run.op))
      (.towerPollMissed t)

/-- Whether the main-unit inputs are to be sampled at this tick (R109). -/
def State.sampleDue (s : State) : Bool := sampleInterval s.run.op ≤ s.now - s.lastSample

/-- The qualified changes that the sample of this tick gives (R109). -/
def State.samplesDue (s : State) : List Instr :=
  if s.sampleDue then
    let p := s.pins
    let n := s.qualCount
    let b := s.bins[(0 : Fin 41)]
    dueIf (b.present.qualifies n p.bin0Present) (if p.bin0Present then .binPresentCovered 0 else .binEmpty 0) ++
      dueIf (b.full.qualifies n p.bin0Full)
        (if p.bin0Full then .binFullSensorCovered 0 else if b.rereferences then .reReference 0 else .binFullSensorClear 0) ++
      dueIf (s.rejectNear.qualifies n p.rejectNear) (.rejectNearFullChange p.rejectNear) ++
      dueIf (s.rejectFull.qualifies n p.rejectFull) (.rejectFullChange p.rejectFull) ++
      dueIf (s.stapler.cartridge.qualifies n p.cartridge) (if p.cartridge then .cartridgeInsertion else .cartridgeRemoval) ++
      dueIf (s.stapler.emptySensor.qualifies n p.emptySensor)
        (if p.emptySensor then .cartridgeEmptyCovered else .cartridgeEmptyClear)
  else []

/-- Every step of the part's own that is due; none while RESETn is low (R141). -/
def State.due (s : State) : List Instr :=
  if s.run.resetLow then []
  else s.linkDue ++ s.windowsDue ++ s.finishingDue ++ s.runDue ++ s.pollsDue ++ s.samplesDue

/-! ## The tick -/

/-- The samples of the main-unit inputs at their interval (R109). -/
def State.takeSample (s : State) : State :=
  let p := s.pins
  let n := s.qualCount
  let b := s.bins[(0 : Fin 41)]
  if s.sampleDue then
    { s with
      bins := s.bins.set 0 { b with present := b.present.counted n p.bin0Present, full := b.full.counted n p.bin0Full }
      rejectNear := s.rejectNear.counted n p.rejectNear
      rejectFull := s.rejectFull.counted n p.rejectFull
      stapler := { s.stapler with
        cartridge := s.stapler.cartridge.counted n p.cartridge, emptySensor := s.stapler.emptySensor.counted n p.emptySensor }
      lastSample := s.now }
  else s

/-- A tower that is due its first poll, or its next after one that was answered, is polled (R117, R118). -/
def State.pollTower (s : State) (t : Fin 4) : Tower :=
  let x := s.chain.towers[t]
  if s.polled t && (x.poll.isNone || (x.answered && x.pollOver s.now (sampleInterval s.run.op))) then
    { x with poll := some s.now, answered := false }
  else x

/-- The polls of the towers at their interval (R118). -/
def State.makePolls (s : State) : State :=
  { s with chain := { s.chain with towers := Vector.ofFn s.pollTower } }

/-- A covered sensor without a trailing edge of its own at the next tick: a free value (log entry 8). -/
def nextLevel (covered : Bool) (draw : Nat) : Bool := covered && Config.stillCovered draw

/-- The tick passes (R42). -/
def State.advance (s : State) : State :=
  let p := s.pins
  { s with
    now := s.now + 1
    pins := { p with sc := nextLevel p.sc s.draws, sr := nextLevel p.sr (s.draws + 1), s0 := nextLevel p.s0 (s.draws + 2) }
    draws := if p.sc || p.sr || p.s0 then s.draws + 3 else s.draws }

/-- The path tick (R42): samples and polls are taken as their intervals end, and none while RESETn is low (R141). -/
def State.tick (s : State) : State := (if s.run.resetLow then s else s.takeSample.makePolls).advance

/-- The one step due joins the queue; of several, a free value says which (log entry 2). -/
def State.schedule (c : Instr) (cs : List Instr) (s : State) : State :=
  match cs with
  | [] => { s with pending := s.pending ++ [c] }
  | _ => { s with pending := s.pending ++ [((c :: cs)[Config.pick s.draws % (c :: cs).length]?).getD c], draws := s.draws + 1 }

/-- What the part does with no command waiting: a step that is due joins the queue, and otherwise a tick passes. -/
def State.idle (s : State) : State :=
  match s.due with
  | [] => s.tick
  | c :: cs => s.schedule c cs

end Sys2Proof.Machine
end

