-- ==== Sys2Proof/Machine/Dispatch.lean ====
section
/-! DEFINITION. One arm per command, each a direct call of its meaning. -/

namespace Sys2Proof.Machine

def exec (i : Instr) (s : State) : Host.Outcome State Fault Refusal :=
  match i with
  | .powerOn => Sys2Proof.Machine.execPowerOn s
  | .resetnLow => Sys2Proof.Machine.execResetnLow s
  | .startupComplete => Sys2Proof.Machine.execStartupComplete s
  | .startupTimerExpiry => Sys2Proof.Machine.execStartupTimerExpiry s
  | .sheet seq rest => Sys2Proof.Machine.execSheet seq rest s
  | .jobOpen tag rest => Sys2Proof.Machine.execJobOpen tag rest s
  | .jobClose tag rest => Sys2Proof.Machine.execJobClose tag rest s
  | .jobPurge tag rest => Sys2Proof.Machine.execJobPurge tag rest s
  | .mediaWrite tag rest => Sys2Proof.Machine.execMediaWrite tag rest s
  | .timingWrite tag rest => Sys2Proof.Machine.execTimingWrite tag rest s
  | .routeWrite tag rest => Sys2Proof.Machine.execRouteWrite tag rest s
  | .binWrite tag rest => Sys2Proof.Machine.execBinWrite tag rest s
  | .towerWrite tag rest => Sys2Proof.Machine.execTowerWrite tag rest s
  | .noticeWrite tag rest => Sys2Proof.Machine.execNoticeWrite tag rest s
  | .settingsWrite tag rest => Sys2Proof.Machine.execSettingsWrite tag rest s
  | .queryState tag rest => Sys2Proof.Machine.execQueryState tag rest s
  | .queryQueue tag rest => Sys2Proof.Machine.execQueryQueue tag rest s
  | .queryPath tag rest => Sys2Proof.Machine.execQueryPath tag rest s
  | .queryTiming tag rest => Sys2Proof.Machine.execQueryTiming tag rest s
  | .queryCompiler tag rest => Sys2Proof.Machine.execQueryCompiler tag rest s
  | .queryDelivery tag rest => Sys2Proof.Machine.execQueryDelivery tag rest s
  | .queryRoute tag rest => Sys2Proof.Machine.execQueryRoute tag rest s
  | .queryBin tag rest => Sys2Proof.Machine.execQueryBin tag rest s
  | .queryTower tag rest => Sys2Proof.Machine.execQueryTower tag rest s
  | .queryAttentionPeek tag index extra => Sys2Proof.Machine.execQueryAttentionPeek tag index extra s
  | .queryAttentionTake tag index extra => Sys2Proof.Machine.execQueryAttentionTake tag index extra s
  | .queryJob tag rest => Sys2Proof.Machine.execQueryJob tag rest s
  | .queryMedia tag rest => Sys2Proof.Machine.execQueryMedia tag rest s
  | .querySettings tag rest => Sys2Proof.Machine.execQuerySettings tag rest s
  | .pause tag extra => Sys2Proof.Machine.execPause tag extra s
  | .resume tag extra => Sys2Proof.Machine.execResume tag extra s
  | .clearJam tag extra => Sys2Proof.Machine.execClearJam tag extra s
  | .releaseHold tag extra => Sys2Proof.Machine.execReleaseHold tag extra s
  | .towerReset tag extra => Sys2Proof.Machine.execTowerReset tag extra s
  | .standby tag extra => Sys2Proof.Machine.execStandby tag extra s
  | .wake tag extra => Sys2Proof.Machine.execWake tag extra s
  | .reset tag extra => Sys2Proof.Machine.execReset tag extra s
  | .unknownKind kind tag rest => Sys2Proof.Machine.execUnknownKind kind tag rest s
  | .badFrame byte stopLow => Sys2Proof.Machine.execBadFrame byte stopLow s
  | .interByteTimeout => Sys2Proof.Machine.execInterByteTimeout s
  | .transmitBegin => Sys2Proof.Machine.execTransmitBegin s
  | .transmitDone => Sys2Proof.Machine.execTransmitDone s
  | .s1LeadingEdge => Sys2Proof.Machine.execS1LeadingEdge s
  | .s1TrailingEdge => Sys2Proof.Machine.execS1TrailingEdge s
  | .s2LeadingEdge => Sys2Proof.Machine.execS2LeadingEdge s
  | .s2TrailingEdge => Sys2Proof.Machine.execS2TrailingEdge s
  | .scLeadingEdge => Sys2Proof.Machine.execScLeadingEdge s
  | .srLeadingEdge => Sys2Proof.Machine.execSrLeadingEdge s
  | .seLeadingEdge => Sys2Proof.Machine.execSeLeadingEdge s
  | .seTrailingEdge => Sys2Proof.Machine.execSeTrailingEdge s
  | .s0Arrival => Sys2Proof.Machine.execS0Arrival s
  | .pathLateWindowExpiry window => Sys2Proof.Machine.execPathLateWindowExpiry window s
  | .deliveryWindowExpiry target => Sys2Proof.Machine.execDeliveryWindowExpiry target s
  | .stallTimerExpiry sensor => Sys2Proof.Machine.execStallTimerExpiry sensor s
  | .bufferRelease => Sys2Proof.Machine.execBufferRelease s
  | .splitEjectStart => Sys2Proof.Machine.execSplitEjectStart s
  | .jogEnd => Sys2Proof.Machine.execJogEnd s
  | .stapleHomeReturn => Sys2Proof.Machine.execStapleHomeReturn s
  | .stapleHomeTimeout => Sys2Proof.Machine.execStapleHomeTimeout s
  | .ejectStart => Sys2Proof.Machine.execEjectStart s
  | .shelfRelease => Sys2Proof.Machine.execShelfRelease s
  | .g0GateFree => Sys2Proof.Machine.execG0GateFree s
  | .holdTimerExpiry => Sys2Proof.Machine.execHoldTimerExpiry s
  | .binEmpty bin => Sys2Proof.Machine.execBinEmpty bin s
  | .binPresentCovered bin => Sys2Proof.Machine.execBinPresentCovered bin s
  | .binFullSensorCovered bin => Sys2Proof.Machine.execBinFullSensorCovered bin s
  | .binFullSensorClear bin => Sys2Proof.Machine.execBinFullSensorClear bin s
  | .reReference bin => Sys2Proof.Machine.execReReference bin s
  | .cartridgeInsertion => Sys2Proof.Machine.execCartridgeInsertion s
  | .cartridgeRemoval => Sys2Proof.Machine.execCartridgeRemoval s
  | .cartridgeEmptyCovered => Sys2Proof.Machine.execCartridgeEmptyCovered s
  | .cartridgeEmptyClear => Sys2Proof.Machine.execCartridgeEmptyClear s
  | .rejectNearFullChange covered => Sys2Proof.Machine.execRejectNearFullChange covered s
  | .rejectFullChange covered => Sys2Proof.Machine.execRejectFullChange covered s
  | .towerPollReply tower reply => Sys2Proof.Machine.execTowerPollReply tower reply s
  | .towerPollMissed tower => Sys2Proof.Machine.execTowerPollMissed tower s
  | .towerInputChange tower input value => Sys2Proof.Machine.execTowerInputChange tower input value s
  | .enumerationReply => Sys2Proof.Machine.execEnumerationReply s
  | .enumerationSlotTimeout => Sys2Proof.Machine.execEnumerationSlotTimeout s
  | .spinUpEnd => Sys2Proof.Machine.execSpinUpEnd s
  | .idleTimerExpiry => Sys2Proof.Machine.execIdleTimerExpiry s
  | .standbyTimerExpiry => Sys2Proof.Machine.execStandbyTimerExpiry s
  | .wakeTimerEnd => Sys2Proof.Machine.execWakeTimerEnd s
  | .governorTimerExpiry => Sys2Proof.Machine.execGovernorTimerExpiry s
  | .resetEnd => Sys2Proof.Machine.execResetEnd s
  | .receivedByte byte => Sys2Proof.Machine.execReceivedByte byte s

end Sys2Proof.Machine
end

