-- ==== Sys2Proof/Safety.lean ====
section
/-! DEFINITION. What counts as a sound part: the bounds and agreements the manual states of the whole part, block by block, and the few
notions the statements share. -/

namespace Sys2Proof.Machine

/-! ## Notions the statements share -/

/-- RESETn is high: the part takes commands (R141). -/
def State.live (s : State) : Prop := s.run.resetLow = false

/-- An answer would be admitted to the outbound queue (R174). -/
def State.answers (s : State) : Prop := s.report.link.queue.length < Config.answerMark

/-- No set is HELD anywhere, so that a bin event finds nothing to re-evaluate (R131). -/
def State.noneHeld (s : State) : Prop := s.delivery.shelf ≠ .occupied ∧ s.delivery.compilerHold = none

/-- A cause is set in the attention summary (R157). -/
def State.latched (c : Cause) (s : State) : Prop := c ∈ s.report.notice.flags

/-- A hold reason stands (R150). -/
def State.stands (r : Reason) (s : State) : Prop := r ∈ s.report.feed.reasons

/-- `t` is `s` with nothing changed but the reports, the idle timer, and the standby timer that every frame restarts (R145, R146). -/
def State.onlyReports (s t : State) : Prop :=
  t = { s with report := t.report, run := { s.run with idle := t.run.idle, standby := t.run.standby } }

/-- `t` is `s` after a record whose answer `r` joins the outbound queue: nothing else changes but BACKLOG, the receiver, and the two timers
that a frame acts on (R145, R146, R166 to R168, R171, R173). -/
def State.answered (r : OutRec) (s t : State) : Prop :=
  t = { s.frameTaken with
    report := { s.frameTaken.report with
      feed := t.report.feed, link := { s.frameTaken.report.link with queue := s.report.link.queue ++ [r] } }
    run := { s.frameTaken.run with idle := t.run.idle } } ∧
    (∀ x, x ≠ .backlog → (t.stands x ↔ s.stands x)) ∧ (t.stands .backlog ↔ 16 ≤ s.report.link.queue.length + 1)

/-- The command `c` is refused (R167, R168): its REFUSE joins the outbound queue, and nothing else happens. -/
def State.refuses (c : Instr) (kind tag : Byte) (reason : RefuseReason) (s : State) : Prop :=
  ∃ t, exec c s = .next t ∧ s.answered (.refuse kind tag reason) t

/-! ## The governor, the idle part, and what is handed to the Notice Unit -/

/-- The condition G1 to G6 of the governor holds (R152). -/
def State.condition (s : State) : Fin 6 → Prop
  | 0 => s.stapler.count < s.stapler.low
  | 1 => s.rejectNear.state = some true
  | 2 => s.binState 0 = .nearFull ∨ s.binState 0 = .full
  | 3 => s.delivery.shelf = .occupied
  | 4 => s.report.gov.threshold ≤ s.fullCount
  | 5 => ∃ k : Fin 4, s.chain.towers[k].state = .doorOpen

/-- The selected conditions combine to true (R152): one of them in mode ANY, all of them in mode ALL, none being selected in neither. -/
def State.combines (s : State) : Prop :=
  let g := s.report.gov
  let selected := fun i : Fin 6 => g.selection.getLsbD i.val = true
  (∃ i, selected i) ∧
    ((g.allMode = true ∧ ∀ i, selected i → s.condition i) ∨ (g.allMode = false ∧ ∃ i, selected i ∧ s.condition i))

/-- `g'` is what the governor `g` makes of its combination at the tick `now` (R153): an unchanged one changes nothing; one that becomes true
starts the timer, or raises at once with D = 0; one that becomes false stops it; while raised, one that becomes false starts the timer, or
drops at once with WAIT clear or D = 0, and one that becomes true stops it. -/
def Governor.follows (now : Nat) (g g' : Governor) : Prop :=
  let becomes := fun (raised : Bool) (timer : Timer) => g' = { g with comb := g'.comb, raised := raised, timer := timer }
  (g'.comb = g.comb → g' = g) ∧
    (g.raised = false → g.comb = false → g'.comb = true → g.d = 0 → becomes true none) ∧
    (g.raised = false → g.comb = false → g'.comb = true → g.d ≠ 0 → becomes false (some now)) ∧
    (g.raised = false → g.comb = true → g'.comb = false → becomes false none) ∧
    (g.raised = true → g.comb = true → g'.comb = false → g.wait = false ∨ g.d = 0 → becomes false none) ∧
    (g.raised = true → g.comb = true → g'.comb = false → g.wait = true → g.d ≠ 0 → becomes true (some now)) ∧
    (g.raised = true → g.comb = false → g'.comb = true → becomes true none)

/-- GOVERNOR is raised and dropped with each change of raised, and stays otherwise (R150, R153). -/
def State.governorReason (s t : State) : Prop :=
  (t.report.gov.raised ≠ s.report.gov.raised → (t.stands .governor ↔ t.report.gov.raised = true)) ∧
    (t.report.gov.raised = s.report.gov.raised → (t.stands .governor ↔ s.stands .governor))

/-- The governor has computed its combination of the conditions as they stand in `t`, and followed it (R152, R153). -/
def State.governed (s t : State) : Prop :=
  (t.report.gov.comb = true ↔ t.combines) ∧ s.report.gov.follows t.now t.report.gov ∧ s.governorReason t

/-- The part is idle (R138, R145). -/
def State.standsIdle (s : State) : Prop :=
  (∀ i : Fin 16, s.jobs[i].state = .free) ∧ s.queue.entries = [] ∧ s.queue.debt = 0 ∧ s.path.list = [] ∧ s.compiler.state = .empty ∧
    s.delivery.shelf = .free ∧ s.delivery.list = []

/-- The class and the notice of a slot that is eligible for sending: it holds one, its class mask is clear, and so is the global mask
(R160). -/
def NoticeUnit.eligible (u : NoticeUnit) (k : Fin 8) : Option (Fin 8 × Notice) :=
  if u.masks[k] = false ∧ u.globalMask = false then u.slots[k].map fun x => (k, x.notice) else none

/-- What the sending test sends from a Notice Unit's slots while the outbound queue holds `occupancy` records (R160): the notices of the
eligible slots, the lowest class first, as far as 16 records. -/
def NoticeUnit.sends (occupancy : Nat) (u : NoticeUnit) : List (Fin 8 × Notice) :=
  ((List.finRange 8).filterMap u.eligible).take (16 - occupancy)

/-- The Notice Unit and the outbound queue of `t` are what the sending test makes of the unit `u` and the queue `q` (R160). -/
def State.sendsFrom (u : NoticeUnit) (q : List OutRec) (t : State) : Prop :=
  t.report.link.queue = q ++ (u.sends q.length).map (fun x => OutRec.notice x.2) ∧
    t.report.notice = { u with
      slots := Vector.ofFn fun k : Fin 8 => if k ∈ (u.sends q.length).map Prod.fst then none else u.slots[k] }

/-- The Notice Unit and the outbound queue of `t` are those of `s` once a cause has been handed over, with its notice `n` and its origin
(R157 to R160): latched, with its tower's attention flag for a class 2 or 3; given no NOTICE where its class is disabled or, in those
classes, its tower masked; parked under a mask and at 16 records or more; queued where its slot is empty; and else parked over the older
notice and tested for sending. -/
def State.handed (n : Notice) (origin : Option (Fin 4)) (s t : State) : Prop :=
  let u := s.report.notice
  let q := s.report.link.queue
  let k := n.cause.cls
  let ofTower := fun j : Fin 4 => origin = some j ∧ (k = 2 ∨ k = 3)
  let latched := { u with
    flags := t.report.notice.flags, towerFlags := Vector.ofFn fun j : Fin 4 => u.towerFlags[j] || decide (ofTower j) }
  let parked := { latched with slots := u.slots.set k (some ⟨n, false⟩) }
  let becomes := fun (v : NoticeUnit) (p : List OutRec) => t.report.notice = v ∧ t.report.link.queue = p
  (∀ c, t.latched c ↔ c = n.cause ∨ s.latched c) ∧
    if u.enables[k] = false ∨ ∃ j : Fin 4, ofTower j ∧ u.towerMasks[j] = true then becomes latched q
    else if u.masks[k] = true ∨ u.globalMask = true ∨ 16 ≤ q.length then becomes parked q
    else if u.slots[k] = none then becomes latched (q ++ [.notice n])
    else t.sendsFrom parked q

/-- A record is no NOTICE. -/
def OutRec.isOther (r : OutRec) : Prop := ∀ n, r ≠ .notice n

/-- The Notice Unit and the outbound queue of `t` are those of `s` once the disposition `d` has been given to the Link Interface (R161,
R174): it joins the queue below 48 records; at 48 the NOTICE nearest the head makes room, and is handed back to its class's slot, unless a
notice parked there as it arose keeps it; with no NOTICE in the queue it is dropped, and DISPOSITION LOST is handed over as `lost`. -/
def State.disposed (d : OutRec) (lost : Notice) (s t : State) : Prop :=
  let u := s.report.notice
  let q := s.report.link.queue
  (q.length < 48 → t.report.link.queue = q ++ [d] ∧ t.report.notice = u) ∧
    (48 ≤ q.length →
      (∀ before n after, q = before ++ .notice n :: after → (∀ r ∈ before, r.isOther) →
        t.report.link.queue = before ++ after ++ [d] ∧
        t.report.notice = { u with
          slots := if (u.slots[n.cause.cls]).any (fun x => !x.handedBack) then u.slots
            else u.slots.set n.cause.cls (some ⟨n, true⟩) }) ∧
      ((∀ r ∈ q, r.isOther) → s.handed lost none t))

/-- `t` is what a jam of kind `k`, declared in `s` at the tick `tick`, leaves (R31, R59 to R62, R84, R139, R149): JAM, its cause latched
and its hold reason standing, nothing in flight, no set record, no descriptor, the tables as they were, and the governor following its
conditions. -/
def State.jamDeclared (k : JamKind) (tick : Nat) (s t : State) : Prop :=
  t.now = max s.now tick ∧ t.run = { s.run with op := .jam, startup := none, spinUp := none, wake := none, idle := none, standby := none } ∧
    t.latched (.jam k) ∧ t.stands .jam ∧ (∀ c, s.latched c → t.latched c) ∧
    (∀ r ∈ [Reason.spinUp, .wake, .paused, .queue, .buffer, .sets, .staples], ¬ t.stands r) ∧
    t.queue = { s.queue with entries := [], debt := 0, nextOwed := none } ∧ (∀ r : Fin 8, t.getRec r = none) ∧ t.sets.order = [] ∧
    t.binder = { s.binder with forming := none } ∧
    t.path = { s.path with list := [], buffer := [], s1 := none, s2 := none, firstLen := none, se := none } ∧
    t.compiler = .reset ∧ t.stapler.state ≠ .stapling ∧ t.stapler.count = s.stapler.count ∧
    (s.stapler.state = .stapling → t.stapler.homeTimer = none) ∧
    t.delivery = { s.delivery with
      shelf := .free, shelfSet := none, holdTimer := none, compilerHold := none, list := [], g0Busy := none, jogger := none } ∧
    (∀ b : Fin 41, t.bins[b] = { s.bins[b] with reserved := t.bins[b].reserved }) ∧ t.media = s.media ∧ t.chain = s.chain ∧
    s.governed t

/-- Whether a record is a disposition (R20, R21). -/
def OutRec.isDisposition : OutRec → Bool
  | .setDisp _ | .looseDisp _ => true
  | _ => false

/-- A set's disposition `d` has joined the outbound queue, among what else its confirmation reports (R20, R174): it is the one disposition
more below 48 records; at 48 it takes the place of the NOTICE nearest the head, and with none it is dropped with DISPOSITION LOST. -/
def State.dispositionJoins (d : OutRec) (s t : State) : Prop :=
  let q := s.report.link.queue
  (q.length < 48 → t.report.link.queue.filter OutRec.isDisposition = q.filter OutRec.isDisposition ++ [d]) ∧
    (48 ≤ q.length →
      (∀ before n after, q = before ++ .notice n :: after → (∀ r ∈ before, r.isOther) →
        t.report.link.queue = before ++ after ++ [d]) ∧
      ((∀ r ∈ q, r.isOther) → t.report.link.queue = q ∧ t.latched .dispositionLost))

/-- The heights of the sets whose chosen bin is `b` (R106). -/
def SetTable.reservedIn (b : Fin 41) (t : SetTable) : Nat :=
  ((List.finRange 8).map fun r => match t.recs[r] with
    | some x => if x.chosen = some b then x.height.getD 0 else 0
    | none => 0).sum

/-- The number of sets of a slot. -/
def SetTable.setsOf (i : Fin 16) (t : SetTable) : Nat :=
  (List.finRange 8).countP fun r => match t.recs[r] with
    | some x => x.slot = i
    | none => false

/-- The staple result a set is lost with: a set being stapled has what its staples left (R77, R84). -/
def State.resultAtJam (s : State) (r : Fin 8) (x : SetRec) : StapleResult :=
  if s.compiler.current = some r ∧ x.state = .stapling then stapleResult x.pattern.staples s.stapler.made else x.result

/-- The dispositions of a jam declared in `s` (R61, R62): its sets in the order of their allocation, then its orphans in list order, all
LOST and without a destination. -/
def State.lostDispositions (s : State) : List OutRec :=
  (s.sets.order.filterMap fun r => (s.getRec r).map fun x =>
    OutRec.setDisp ⟨.lost, none, x.slot, x.jobNumber, x.setOrdinal, x.part, x.bound, x.height.getD 0, s.resultAtJam r x, x.skip, x.side,
      x.broken, x.divert, false⟩) ++
    s.path.list.filterMap fun e => match e.body with
      | .orphan reason => some (.looseDisp ⟨false, e.seq, reason, e.slotOrd⟩)
      | .bound .. => none

/-- The JAM notice of a jam of kind `k` at a sensor, declared in `s`: the kind, the sensor, the number of entries flushed, and the seq of
the oldest one (R31, R60). -/
def State.jamNotice (k : JamKind) (at_ : Sensor) (s : State) : Notice :=
  ⟨.jam k, some k.code, some at_.code, some s.queue.entries.length,
    match s.queue.entries with
    | [] => none
    | .descriptor d :: _ => some d.seq.toNat
    | .gap q :: _ => q.map BitVec.toNat
    | .void q :: _ => some q.toNat⟩

/-- `t` has the losses of a jam of kind `k` at a sensor, declared in `s` (R60 to R62): every lost set's height off its bin and counted in
its slot; with at most 15 records queued before, the LOST dispositions in their order, and the JAM notice where its class may send it. -/
def State.jamLosses (k : JamKind) (at_ : Sensor) (s t : State) : Prop :=
  (∀ b : Fin 41, t.bins[b].reserved = s.bins[b].reserved - s.sets.reservedIn b) ∧
    (∀ i : Fin 16, t.jobs[i] = { s.jobs[i] with
      state := t.jobs[i].state
      counters := { s.jobs[i].counters with
        lost := if s.jobs[i].state = .free ∨ s.sets.setsOf i = 0 then s.jobs[i].counters.lost
          else min 65535 (s.jobs[i].counters.lost + s.sets.setsOf i) } }) ∧
    (s.report.link.queue.length ≤ 15 →
      t.report.link.queue.filter OutRec.isDisposition = s.report.link.queue.filter OutRec.isDisposition ++ s.lostDispositions ∧
      (s.report.notice.enables[(0 : Fin 8)] = true → s.report.notice.masks[(0 : Fin 8)] = false → s.report.notice.globalMask = false →
        s.report.notice.slots[(0 : Fin 8)] = none → .notice (s.jamNotice k at_) ∈ t.report.link.queue))

/-- A jam of kind `k` is declared in `t`; what it leaves is a statement of its own. -/
def State.jams (k : JamKind) (t : State) : Prop := t.run.op = .jam ∧ t.latched (.jam k) ∧ t.stands .jam

/-- `e` is the entry of a sheet just classified at S1 at the tick `now`: on its way to S2 or to SR, its window open, S1 not clear (R49,
R50), and named apart from every entry on the list and from the one at S2 (R48). -/
def PathEntry.enters (now : Nat) (p : PathMonitor) (e : PathEntry) (body : SheetBody) : Prop :=
  e.body = body ∧ e.mismatch = false ∧ e.s1Clear = false ∧ e.released = false ∧ (∀ x ∈ p.list, x.id ≠ e.id) ∧
    (∀ a ∈ p.s2, a.id ≠ e.id) ∧
    match body with
    | .bound .. => e.stage = .toS2 ∧ e.window = some ⟨now, p.lateLimit p.timing[4]⟩
    | .orphan _ => e.stage = .toSR ∧ e.window = some ⟨now, p.lateLimit p.timing[6]⟩

/-- The Path Monitor once the sheet of entry `e`, of length `len`, covers S1 (R45, R50). -/
def PathMonitor.entered (now : Nat) (e : PathEntry) (len : Nat) (p : PathMonitor) : PathMonitor :=
  { p with list := p.list ++ [e], s1 := some ⟨e.id, now, len, some ⟨now, p.stallLimit len⟩⟩ }

/-- The bytes of a frame, received one after another (R166). -/
def receiveAll : List Byte → State → Host.Outcome State Fault Refusal
  | [], s => .next s
  | b :: bs, s =>
    match exec (.receivedByte b) s with
    | .next t => receiveAll bs t
    | .fault e => .fault e
    | .refused e => .refused e

/-- The bytes of an inbound frame (R165). -/
def inboundFrame (kind tag : Byte) (rest : List Byte) : List Byte :=
  let len : Byte := BitVec.ofNat 8 (rest.length + 1)
  [0xA5, len, kind, tag] ++ rest ++ [frameCheck len kind (tag :: rest)]

/-- The command an accepted frame's bytes spell, by their kind, and by the table id, the subject and mode, or the control code (R163, R169,
R171, R172, R176, R179); none where a TABLE WRITE, a QUERY or a CONTROL names no table, subject, mode or code. -/
def frameCommand (kind tag : Byte) (rest : List Byte) : Option Instr :=
  match kind.toNat, rest with
  | 0x10, rest => some (.sheet tag rest)
  | 0x11, rest => some (.jobOpen tag rest)
  | 0x12, rest => some (.jobClose tag rest)
  | 0x13, rest => some (.jobPurge tag rest)
  | 0x14, table :: rest => [Instr.mediaWrite tag rest, .timingWrite tag rest, .routeWrite tag rest, .binWrite tag rest, .towerWrite tag rest,
      .noticeWrite tag rest, .settingsWrite tag rest][table.toNat]?
  | 0x15, [subject, idx, mode] =>
    match subject.toNat, mode.toNat with
    | 0, _ => some (.queryState tag [idx, mode])
    | 1, _ => some (.queryQueue tag [idx, mode])
    | 2, _ => some (.queryPath tag [idx, mode])
    | 3, _ => some (.queryTiming tag [idx, mode])
    | 4, _ => some (.queryCompiler tag [idx, mode])
    | 5, _ => some (.queryDelivery tag [idx, mode])
    | 6, _ => some (.queryRoute tag [idx, mode])
    | 7, _ => some (.queryBin tag [idx, mode])
    | 8, _ => some (.queryTower tag [idx, mode])
    | 9, 0 => some (.queryAttentionPeek tag idx [])
    | 9, 1 => some (.queryAttentionTake tag idx [])
    | 10, _ => some (.queryJob tag [idx, mode])
    | 11, _ => some (.queryMedia tag [idx, mode])
    | 12, _ => some (.querySettings tag [idx, mode])
    | _, _ => none
  | 0x16, [code] => [Instr.pause tag [], .resume tag [], .clearJam tag [], .releaseHold tag [], .towerReset tag [], .standby tag [],
      .wake tag [], .reset tag []][code.toNat]?
  | 0x14, _ | 0x15, _ | 0x16, _ => none
  | _, rest => some (.unknownKind kind tag rest)

/-! ## Soundness of the blocks -/

/-- The Descriptor Queue (R22, R28): its bound, the debt that stands only while it is full, and the watermark's range. -/
def DescQueue.sound (q : DescQueue) : Prop :=
  q.entries.length ≤ Config.queueCapacity ∧ q.debt ≤ 255 ∧ (0 < q.debt → q.entries.length = Config.queueCapacity) ∧
    (q.debt = 0 → q.nextOwed = none) ∧ 1 ≤ q.watermark ∧ q.watermark ≤ 16

/-- The outbound side (R150, R151, R173): the queue's bound, BACKLOG exactly from 16 on, the FEED last placed in agreement with the
reason set, and the slot holding that FEED or nothing. -/
def Report.sound (p : Report) : Prop :=
  p.link.queue.length ≤ Config.outboundCapacity ∧ (.backlog ∈ p.feed.reasons ↔ Config.backlogMark ≤ p.link.queue.length) ∧
    (p.feed.last.hold = true ↔ p.feed.reasons ≠ []) ∧ (p.feed.slot = none ∨ p.feed.slot = some p.feed.last)

/-- The path list, with its entries told apart, the entry buffer and the delivery list within their bounds (R48, R125). -/
def State.placesSound (s : State) : Prop :=
  (s.path.list.map PathEntry.id).Nodup ∧ s.path.list.length ≤ Config.pathCapacity ∧ s.path.buffer.length ≤ Config.bufferCapacity ∧
    s.delivery.list.length ≤ Config.listCapacity

/-- Fills, staples and job counters within their ranges (R6, R80, R106). -/
def State.amountsSound (s : State) : Prop :=
  (∀ b : Fin 41, s.bins[b].fill ≤ 9999 ∧ s.bins[b].capacity ≤ 9999) ∧ s.stapler.count ≤ Config.freshCartridge ∧
    s.stapler.low ≤ 1000 ∧
    ∀ i : Fin 16, s.jobs[i].counters.opened ≤ 65535 ∧ s.jobs[i].counters.delivered ≤ 65535 ∧
      s.jobs[i].counters.diverted ≤ 65535 ∧ s.jobs[i].counters.lost ≤ 65535 ∧ s.jobs[i].counters.purged ≤ 65535 ∧
      s.jobs[i].counters.loose ≤ 65535

/-- The Set Table (R11): the allocation order lists exactly the records in use, each once. -/
def SetTable.sound (t : SetTable) : Prop := t.order.Nodup ∧ ∀ r : Fin 8, r ∈ t.order ↔ t.recs[r].isSome = true

/-- Every bin's reserved height is that of the unconfirmed sets whose chosen bin it is (R106). -/
def State.reservedExactly (s : State) : Prop := ∀ b : Fin 41, s.bins[b].reserved = s.sets.reservedIn b

/-- No set record names a FREE slot (R7). -/
def State.slotsHeld (s : State) : Prop := ∀ (r : Fin 8) (x : SetRec), s.getRec r = some x → s.jobs[x.slot].state ≠ .free

/-- The Run Controller's timers run in their own states alone (R145 to R147), the idle timer in RUNNING exactly while the part is idle
(R145), and STARTING has nothing on its way (R57, R142). -/
def State.runSound (s : State) : Prop :=
  (s.run.idle ≠ none ↔ s.run.op = .running ∧ s.standsIdle) ∧ (s.run.standby ≠ none → s.run.op = .ready) ∧
    (s.run.wake ≠ none → s.run.op = .waking) ∧
    (s.run.op = .starting → s.path.list = [] ∧ s.path.s1 = none ∧ s.path.s2 = none ∧ s.path.se = none ∧ s.delivery.list = [])

/-- A tower that is not present has its inputs and its bins' sensors unqualified, with run count 0 (R116). -/
def State.chainSound (s : State) : Prop :=
  ∀ k : Fin 4, s.chain.towers[k].present = false → s.chain.towers[k].power = .unqualified ∧ s.chain.towers[k].door = .unqualified ∧
    ∀ b : Fin 41, towerOf b = some k → s.bins[b].present = .unqualified ∧ s.bins[b].full = .unqualified

/-- The governor agrees with its conditions (R152 to R154): its combination is that of the conditions as they stand, its timer runs exactly
while raised differs from the combination, and then D is above 0 and, towards a drop, WAIT is set. -/
def State.governorSound (s : State) : Prop :=
  let g := s.report.gov
  (g.comb = true ↔ s.combines) ∧ (g.timer ≠ none ↔ g.raised ≠ g.comb) ∧ (g.timer ≠ none → 0 < g.d ∧ (g.raised = true → g.wait = true))

/-- The condition a hold reason stands with (R150). -/
def State.holds (s : State) : Reason → Prop
  | .starting => s.run.op = .starting
  | .spinUp => s.run.spinUp ≠ none
  | .wake => s.run.op = .waking
  | .paused => s.run.op = .paused
  | .jam => s.run.op = .jam
  | .queue => s.queue.watermark ≤ s.queue.entries.length ∨ 0 < s.queue.debt
  | .buffer => s.path.buffer ≠ []
  | .sets => s.sets.freeCount < 2
  | .backlog => Config.backlogMark ≤ s.report.link.queue.length
  | .staples => s.compiler.state = .stapleWait
  | .rejectFull => s.rejectFull.state = some true
  | .overflowFull => s.binState 0 = .full
  | .governor => s.report.gov.raised = true

/-- Every hold reason stands exactly with its condition (R150). -/
def State.reasonsExact (s : State) : Prop := ∀ r : Reason, s.stands r ↔ s.holds r

end Sys2Proof.Machine
end

