-- ==== Sys2Proof/Certificates/Slice0/Obligations.lean ====
section
/-! DEFINITION. What is to be proved of the part: one statement a definition, its rules cited in its docstring. -/

open Sys2Proof Sys2Proof.Machine

/-! ## Resets and the queue of commands -/

/-- The state after reset holds the values the last columns of R1, R8, R11, R22, R32, R43, R48, R65, R75, R86, R87, R102, R116, R125, R141,
R154 and R156 give, with N = 20 (R109), and those of R142, R150 to R153, R166 and R173: the HELLO alone in the queue, FEED HOLD in its slot
with STARTING alone, no combination, nothing raised, and the receiver in HUNT.
The model's choices in it: the cause POWER ON, the tick 0 and the enumeration begun at it, log entry 27. -/
def Obligations.ResetStateHoldsTheTablesValues : Prop :=
  let s := State.reset
  (∀ i : Fin 16, s.jobs[i] = ⟨.free, 0, .none, .degrade, false, false, ⟨0, 0, 0, 0, 0, 0⟩⟩) ∧
  (∀ i : Fin 8, s.media[i] = ⟨10, 210, true⟩) ∧
  s.sets = ⟨Vector.replicate 8 none, []⟩ ∧ s.queue = ⟨[], none, 0, none, 12⟩ ∧ s.binder = ⟨none, .reject⟩ ∧
  s.path = ⟨#v[320, 10, 20, 12, 380, 140, 300, 180, 700, 1100, 1500, 1900], [], [], none, none, none, none⟩ ∧
  s.compiler.state = .empty ∧ s.compiler.current = none ∧ s.compiler.contents = 0 ∧ s.compiler.inFlight = 0 ∧
  s.compiler.splitSheet = none ∧ s.compiler.jog = none ∧
  s.stapler.state = .noCartridge ∧ s.stapler.count = 0 ∧ s.stapler.low = 200 ∧ s.stapler.cartridge.state = none ∧
  s.stapler.emptySensor.state = none ∧ s.stapler.made = 0 ∧ s.stapler.homeTimer = none ∧ s.stapler.stopPending = false ∧
  (∀ i : Fin 32, s.routes.entries[i] = ⟨false, none, 0, 65535, 0, 0, .fill, 0, 0⟩) ∧ s.routes.unmatched = .report ∧
  s.routes.defaultBin = 0 ∧ s.qualCount = 20 ∧ s.rejectNear = .unqualified ∧ s.rejectFull = .unqualified ∧
  (∀ b : Fin 41, s.bins[b] = ⟨if b = 0 then 6000 else 1500, if b = 0 then 600 else 150, true, 0, 0, 0, .left, .unqualified,
    .unqualified⟩) ∧
  (∀ t : Fin 4, s.chain.towers[t].state = .absent ∧ s.chain.towers[t].missed = 0 ∧ s.chain.towers[t].power = .unqualified ∧
    s.chain.towers[t].door = .unqualified ∧ s.chain.towers[t].teCovered = false ∧ s.chain.towers[t].wakeEnable = false) ∧
  s.chain.enum = some ⟨true, 0, 0⟩ ∧ s.run = ⟨.starting, false, .powerOn, some 0, none, none, none, none, 15⟩ ∧
  s.report.feed = ⟨[.starting], some ⟨true, [.starting]⟩, ⟨true, [.starting]⟩⟩ ∧
  s.report.gov = ⟨0, false, 5, false, 10, false, false, none⟩ ∧ s.report.link = ⟨.hunt, none, [.hello .powerOn none], none⟩ ∧
  s.delivery = ⟨.free, none, none, 120, none, [], .bin0, none, s.delivery.jogger⟩ ∧
  s.report.notice = ⟨[], Vector.replicate 4 false, Vector.replicate 8 true, Vector.replicate 8 false, false,
    Vector.replicate 4 false, Vector.replicate 8 none⟩

/-- POWER_ON with RESETn high (R141 to R143) and CONTROL RESET (R172): whatever the state, the part is as after reset, its start-up
beginning at this tick; after a CONTROL RESET the cause is RESET RECORD, the HELLO that carries it stands alone in the outbound queue, and
nothing is being sent. The clock, the pins, the waiting commands and the draws are no block's state and stay (log entry 10), and the inputs
of the main unit are sampled from this tick on (log entry 20). -/
def Obligations.PowerOnAndControlResetLeaveTheResetState : Prop :=
  let started := fun (cause : ResetCause) (s : State) => { State.reset with
    now := s.now, pending := s.pending, draws := s.draws, pins := s.pins, lastSample := s.now
    report := { State.reset.report with link := ⟨.hunt, none, [.hello cause none], none⟩ }
    run := { State.reset.run with cause := cause, startup := some s.now }
    chain := { State.reset.chain with enum := some ⟨true, 0, s.now⟩ } }
  (∀ s : State, s.live → exec .powerOn s = .next (started .powerOn s)) ∧
  ∀ (s : State) (tag : Byte), s.live → exec (.reset tag []) s = .next (started .resetRecord s)

/-- RESETN_LOW, RESET_END, and POWER_ON under a low RESETn (R141, R143, R166): while RESETn is low every block holds its reset values, no
timer runs, and no command but these three changes anything; when it rises the part starts up with the cause recorded while it was low,
RESET LINE for the line itself and POWER ON for a supply that rose under it.
The model's choices in it: log entries 10 and 11. -/
def Obligations.ResetLineHoldsThenStartsThePart : Prop :=
  let held := fun (cause : ResetCause) (s : State) => { State.reset with
    now := s.now, pending := s.pending, draws := s.draws, pins := s.pins, lastSample := s.lastSample
    report := { State.reset.report with link := ⟨.hunt, none, [.hello cause none], none⟩ }
    run := { State.reset.run with resetLow := true, cause := cause, startup := none }
    chain := { State.reset.chain with enum := none } }
  (∀ s : State, s.live → exec .resetnLow s = .next (held .resetLine s) ∧ exec .resetEnd s = .next s) ∧
  (∀ s : State, ¬ s.live → exec .powerOn s = .next (held .powerOn s) ∧ exec .resetnLow s = .next s ∧
    exec .resetEnd s = .next { held s.run.cause s with
      run := { State.reset.run with cause := s.run.cause, startup := some s.now }
      chain := { State.reset.chain with enum := some ⟨true, 0, s.now⟩ }
      lastSample := s.now }) ∧
  ∀ (s : State) (c : Instr), ¬ s.live → c ≠ .powerOn → c ≠ .resetnLow → c ≠ .resetEnd → exec c s = .next s

/-- A step with a command at the front of the queue is that command on the rest of the queue. -/
def Obligations.StepTakesTheFrontCommand : Prop :=
  ∀ (c : Instr) (rest : List Instr) (s : State), step { s with pending := c :: rest } = exec c { s with pending := rest }

/-- With no command waiting the part's own clock acts (the model's choice, log entries 1 and 2): with no step due the path tick advances
by one, and beside it only levels, draws, samples and polls change; with steps due, one of them joins the queue and no time passes. -/
def Obligations.EmptyQueueTicksOrTakesADueStep : Prop :=
  ∀ s : State, s.pending = [] → ∃ t, step s = .next t ∧
    (s.due = [] →
      t = { s with
        now := s.now + 1, draws := t.draws, pins := { s.pins with sc := t.pins.sc, sr := t.pins.sr, s0 := t.pins.s0 }
        bins := s.bins.set 0 { s.bins[0] with present := t.bins[0].present, full := t.bins[0].full }
        rejectNear := t.rejectNear, rejectFull := t.rejectFull
        stapler := { s.stapler with cartridge := t.stapler.cartridge, emptySensor := t.stapler.emptySensor }
        chain := { s.chain with towers := t.chain.towers }, lastSample := t.lastSample } ∧
      (s.pins.sc = false → t.pins.sc = false) ∧ (s.pins.sr = false → t.pins.sr = false) ∧ (s.pins.s0 = false → t.pins.s0 = false)) ∧
    (s.due ≠ [] → ∃ c ∈ s.due, t = { s with pending := [c], draws := t.draws })

/-- Which steps of the part's own are due (R44, R45, R53, R69, R70, R76, R81, R109, R117, R118, R125, R130, R133, R137, R142, R144 to R147,
R153, R165, R166, R175): a timer at its limit, a poll at the end of its interval unanswered, a sample that qualifies an input, a
transmission that may begin or is complete, a release or an eject whose test passes, and nothing else; none while RESETn is low.
The model's choices in it: log entries 1, 3, 20, 51, the oldest entry's window (22), the time a frame takes (26), a stall timer at its limit
with its sensor clear (46), the time of G0 by TIMING as it stands (48), the in-flight thickness a split eject waits for (54), and the
sensors start-up waits for (56). -/
def Obligations.StepsAreDueExactlyOnTheirConditions : Prop :=
  ∀ s : State, (¬ s.live → s.due = []) ∧ (s.live →
    let interval := if s.run.op = .standby then 100 else 10
    let ran := fun (timer : Timer) (limit : Nat) => ∃ start, timer = some start ∧ limit ≤ s.now - start
    let ended := fun (window : Option Window) => ∃ w, window = some w ∧ w.start + w.limit ≤ s.now
    let takes := fun (q : Qual) (level v : Bool) => level = v ∧ interval ≤ s.now - s.lastSample ∧ q.state ≠ some v ∧
      s.qualCount ≤ if q.last = some v then min 127 (q.run + 1) else 1
    let bin0 := s.bins[(0 : Fin 41)]
    let rereference := bin0.full.state = some true ∧ bin0.present.state = some true
    ∀ c : Instr, c ∈ s.due ↔
      match c with
      | .interByteTimeout => ran s.report.link.byteTimer 6
      | .transmitBegin => s.report.link.sending = none ∧
          (s.report.feed.slot ≠ none ∨ ∃ r rest, s.report.link.queue = r :: rest ∧ ∀ cause, r ≠ .hello cause none)
      | .transmitDone => ∃ x, s.report.link.sending = some x ∧ x.record.frame.length * 1000 ≤ (s.now - x.start) * 23040
      | .pathLateWindowExpiry w => ended (s.path.lateWindow w)
      | .deliveryWindowExpiry g => ended (s.delivery.lateWindow g)
      | .stallTimerExpiry g => ended (s.path.stall g)
      | .bufferRelease => s.releaseReady ≠ none
      | .splitEjectStart => s.splitReady ≠ none
      | .jogEnd => ran s.compiler.jog 150
      | .stapleHomeTimeout => ran s.stapler.homeTimer 600
      | .ejectStart => s.ejectReady ≠ none
      | .shelfRelease => s.shelfReady ≠ none
      | .g0GateFree => ran s.delivery.g0Busy (s.path.stallLimit 450)
      | .holdTimerExpiry => ran s.delivery.holdTimer (s.delivery.holdLimit * 1000)
      | .startupComplete => s.startupDone = true
      | .startupTimerExpiry => s.run.op = .starting ∧ ran s.run.startup 1500
      | .enumerationSlotTimeout => ∃ e, s.chain.enum = some e ∧ 200 ≤ s.now - e.start
      | .spinUpEnd => ran s.run.spinUp 400
      | .idleTimerExpiry => ran s.run.idle 2000
      | .standbyTimerExpiry => s.run.standbyDelay ≠ 0 ∧ ran s.run.standby (s.run.standbyDelay * 60000)
      | .wakeTimerEnd => ran s.run.wake 500
      | .governorTimerExpiry => ran s.report.gov.timer (s.report.gov.d * 100)
      | .towerPollMissed k => s.chain.towers[k].present = true ∧ s.chain.enum = none ∧ s.chain.towers[k].answered = false ∧
          ran s.chain.towers[k].poll interval
      | .binEmpty b => b = 0 ∧ takes bin0.present s.pins.bin0Present false
      | .binPresentCovered b => b = 0 ∧ takes bin0.present s.pins.bin0Present true
      | .binFullSensorCovered b => b = 0 ∧ takes bin0.full s.pins.bin0Full true
      | .binFullSensorClear b => b = 0 ∧ takes bin0.full s.pins.bin0Full false ∧ ¬ rereference
      | .reReference b => b = 0 ∧ takes bin0.full s.pins.bin0Full false ∧ rereference
      | .rejectNearFullChange v => takes s.rejectNear s.pins.rejectNear v
      | .rejectFullChange v => takes s.rejectFull s.pins.rejectFull v
      | .cartridgeInsertion => takes s.stapler.cartridge s.pins.cartridge true
      | .cartridgeRemoval => takes s.stapler.cartridge s.pins.cartridge false
      | .cartridgeEmptyCovered => takes s.stapler.emptySensor s.pins.emptySensor true
      | .cartridgeEmptyClear => takes s.stapler.emptySensor s.pins.emptySensor false
      | _ => False)

/-- The tick's samples and polls (R109, R117, R118), no step being due: every 10 ms, or 100 ms in STANDBY, each input of the main unit is
sampled, its run count following R109; a present tower is polled as its enumeration ends and at every interval after an answered poll; at
any other tick, and while RESETn is low, none of these changes.
The model's choices in it: log entries 1, 20 and 51. -/
def Obligations.TicksSampleTheInputsAndPollTheTowers : Prop :=
  ∀ s : State, s.pending = [] → s.due = [] → ∃ t, step s = .next t ∧
    (let interval := if s.run.op = .standby then 100 else 10
    let sampled := fun (q : Qual) (v : Bool) =>
      (⟨q.state, some v, if q.state = some v then 0 else if q.last = some v then min 127 (q.run + 1) else 1⟩ : Qual)
    let samples := s.live ∧ interval ≤ s.now - s.lastSample
    let polled := fun k : Fin 4 => s.live ∧ s.chain.towers[k].present = true ∧ s.chain.enum = none ∧
      (s.chain.towers[k].poll = none ∨
        (s.chain.towers[k].answered = true ∧ ∃ p, s.chain.towers[k].poll = some p ∧ interval ≤ s.now - p))
    (samples → t.lastSample = s.now ∧ t.bins[0].present = sampled s.bins[0].present s.pins.bin0Present ∧
      t.bins[0].full = sampled s.bins[0].full s.pins.bin0Full ∧ t.rejectNear = sampled s.rejectNear s.pins.rejectNear ∧
      t.rejectFull = sampled s.rejectFull s.pins.rejectFull ∧ t.stapler.cartridge = sampled s.stapler.cartridge s.pins.cartridge ∧
      t.stapler.emptySensor = sampled s.stapler.emptySensor s.pins.emptySensor) ∧
    (¬ samples → t.lastSample = s.lastSample ∧ t.bins = s.bins ∧ t.rejectNear = s.rejectNear ∧ t.rejectFull = s.rejectFull ∧
      t.stapler = s.stapler) ∧
    ∀ k : Fin 4, (polled k → t.chain.towers[k] = { s.chain.towers[k] with poll := some s.now, answered := false }) ∧
      (¬ polled k → t.chain.towers[k] = s.chain.towers[k]))

/-! ## Start-up and enumeration -/

/-- STARTUP_COMPLETE and STARTUP_TIMER_EXPIRY (R57, R60 to R62, R142). Start-up is complete exactly once enumeration has ended with the six
inputs of the main unit qualified, the power and door of every present tower, and the twenty bin sensors of each whose power is qualified
on; before that STARTUP_COMPLETE does nothing. With every path sensor clear: READY, the start-up timer stopped, the standby timer running,
STARTING dropped, and FEED GO placed where no other reason stands. With one covered: the jam STALL at the first one.
The model's choices in it: log entries 3, 7 and 56. -/
def Obligations.StartupEndsInReadyOrInAJam : Prop :=
  (∀ s : State,
    let known := fun (q : Qual) => q.state ≠ none
    (s.startupDone = true ↔ s.run.op = .starting ∧ s.chain.enum = none ∧ known s.bins[(0 : Fin 41)].present ∧
      known s.bins[(0 : Fin 41)].full ∧ known s.rejectNear ∧ known s.rejectFull ∧ known s.stapler.cartridge ∧
      known s.stapler.emptySensor ∧
      ∀ k : Fin 4, s.chain.towers[k].present = true → known s.chain.towers[k].power ∧ known s.chain.towers[k].door ∧
        (s.chain.towers[k].power.state = some true → ∀ b : Fin 41, towerOf b = some k →
          known s.bins[b].present ∧ known s.bins[b].full)) ∧
    (s.live → s.startupDone = false → exec .startupComplete s = .next s.syncIdle)) ∧
  (∀ s : State, s.live → s.startupDone = true → s.pins.firstCovered = none →
    ∃ t, exec .startupComplete s = .next t ∧
      t = { s with
        report := { s.report with feed := t.report.feed }
        run := { s.run with op := .ready, startup := none, standby := some s.now, idle := none } } ∧
      t.report.feed.reasons = s.report.feed.reasons.filter (fun r => r ≠ .starting) ∧
      (s.report.feed.reasons = [.starting] → t.report.feed.slot = some ⟨false, []⟩)) ∧
  (∀ (s : State) (start : Nat), s.live → s.run.op = .starting → s.run.startup = some start → s.pins.firstCovered = none →
    ∃ t, exec .startupTimerExpiry s = .next t ∧
      t = { s with
        now := max s.now (start + 1500)
        report := { s.report with feed := t.report.feed }
        run := { s.run with op := .ready, startup := none, standby := some (max s.now (start + 1500)), idle := none } } ∧
      t.report.feed.reasons = s.report.feed.reasons.filter (fun r => r ≠ .starting) ∧
      (s.report.feed.reasons = [.starting] → t.report.feed.slot = some ⟨false, []⟩)) ∧
  (∀ (s : State) (x : Sensor), s.live → s.startupDone = true → s.pins.firstCovered = some x → s.sets.sound → s.placesSound →
    ∃ t, exec .startupComplete s = .next t ∧ s.jamDeclared .stall s.now t ∧ s.jamLosses .stall x t ∧ ¬ t.stands .starting) ∧
  ∀ (s : State) (start : Nat) (x : Sensor), s.live → s.run.op = .starting → s.run.startup = some start →
    s.pins.firstCovered = some x → s.sets.sound → s.placesSound →
    ∃ t, exec .startupTimerExpiry s = .next t ∧ s.jamDeclared .stall (start + 1500) t ∧ s.jamLosses .stall x t ∧ ¬ t.stands .starting

/-- ENUMERATION_REPLY, ENUMERATION_SLOT_TIMEOUT and TOWER RESET (R117, R124, R143): an answering tower becomes present with no missed polls,
and the next tower is addressed; the end of an enumeration completes a waiting HELLO at start-up and latches RESET DONE after a TOWER RESET,
which, with the delivery list empty, restarts enumeration at tower 1 with every tower not present and unqualified, while every bin keeps its
fill, reservation, settings and side, bin 0 and the operating state are untouched, and the governor follows.
The model's choices in it: log entries 3, 4 and 40. -/
def Obligations.EnumerationCountsTowersInOrder : Prop :=
  (∀ (s : State) (e : Enumeration), s.live → s.chain.enum = some e → ∃ t, exec .enumerationReply s = .next t ∧
    t.chain.towers = s.chain.towers.set e.tower { s.chain.towers[e.tower] with present := true, missed := 0 } ∧
    t = { s with report := t.report, run := { s.run with idle := t.run.idle }, chain := t.chain } ∧
    (∀ k : Fin 4, k.val = e.tower.val + 1 → t.chain.enum = some ⟨e.startup, k, s.now⟩ ∧ t.report = s.report) ∧
    (e.tower = 3 → t.chain.enum = none ∧ (e.startup = false → t.latched .towerResetDone) ∧
      (e.startup = true → t.report.link.queue = s.report.link.queue.map (OutRec.complete t.towersPresent)))) ∧
  (∀ (s : State) (e : Enumeration), s.live → s.chain.enum = some e → ∃ t, exec .enumerationSlotTimeout s = .next t ∧
    t = { s with
      now := max s.now (e.start + 200), report := t.report, run := { s.run with idle := t.run.idle }
      chain := { s.chain with enum := none } } ∧
    (e.startup = false → t.latched .towerResetDone) ∧
    (e.startup = true → t.report.link.queue = s.report.link.queue.map (OutRec.complete s.towersPresent))) ∧
  ∀ (s : State) (tag : Byte), s.live → s.run.op ≠ .starting → s.delivery.list = [] →
    ∃ t, exec (.towerReset tag []) s = .next t ∧
      t = { s with
        report := t.report, chain := t.chain, bins := t.bins
        run := { s.run with idle := t.run.idle, standby := t.run.standby } } ∧
      t.chain.enum = some ⟨false, 0, s.now⟩ ∧ s.governed t ∧
      (∀ k : Fin 4, t.chain.towers[k] = { s.chain.towers[k] with
        present := false, power := .unqualified, door := .unqualified, poll := none, answered := false }) ∧
      (∀ b : Fin 41, b ≠ 0 → t.bins[b] = { s.bins[b] with present := .unqualified, full := .unqualified }) ∧
      t.bins[(0 : Fin 41)] = s.bins[(0 : Fin 41)]

/-! ## SHEET records -/

/-- A SHEET taken (R24, R26 to R28, R30): at distance 0 to 8 its gap markers and then its entry are appended, at 9 to 127 its entry alone,
with RESYNC, and from 128 on nothing, with STALE. What finds the queue full becomes debt, saturating at 255; the first position owed sets
the next owed seq and latches OVERRUN, and a RESYNC while debt stands makes that seq absent. QUEUE stands with its condition. E becomes the
seq after the record's own, and stays for a stale one. -/
def Obligations.SheetsAreAppendedAsFarAsThereIsRoom : Prop :=
  ∀ (s : State) (seq : Byte) (rest : List Byte), s.live → s.working = true → s.queue.sound →
    let g := s.queue.distance seq
    let markers := (List.range g).map fun i => Entry.gap (some (s.queue.expected.getD 0 + BitVec.ofNat 8 i))
    let positions := if g ≤ 8 then markers ++ [sheetEntry seq rest] else [sheetEntry seq rest]
    let room := 16 - s.queue.entries.length
    let excess := positions.length - room
    ∃ t, exec (.sheet seq rest) s = .next t ∧
      t = { s.frameTaken with report := t.report, queue := t.queue, run := { s.frameTaken.run with idle := t.run.idle } } ∧
      (g ≤ 127 → t.queue = { s.queue with
          entries := s.queue.entries ++ positions.take room
          expected := some (seq + 1)
          debt := min 255 (s.queue.debt + excess)
          nextOwed :=
            if 0 < s.queue.debt then (if g ≤ 8 then s.queue.nextOwed else none)
            else if excess = 0 then none
            else some (seq - BitVec.ofNat 8 (positions.length - 1 - room)) } ∧
        (t.stands .queue ↔ t.queue.watermark ≤ t.queue.entries.length ∨ 0 < t.queue.debt) ∧
        (0 < excess → s.queue.debt = 0 → t.latched .overrun)) ∧
      (g = 0 → excess = 0 → t.report.notice = s.report.notice) ∧
      (1 ≤ g → g ≤ 8 → t.latched .gap) ∧ (9 ≤ g → g ≤ 127 → t.latched .resync) ∧
      (128 ≤ g → t.queue = s.queue ∧ t.latched .stale)

/-- The body of a SHEET (R23, R25, R177, R179): it becomes a void entry exactly where one of the conditions of R25 holds, keeping its seq;
any other spells the descriptor whose fields its bytes give, the optional ones present exactly with their flags. -/
def Obligations.SheetBodiesSpellTheirEntries : Prop :=
  (∀ (seq : Seq) (rest : List Byte), rest.length < 6 → sheetEntry seq rest = .void seq) ∧
  ∀ (seq : Seq) (slot flags lo hi ordinal media : Byte) (opts : List Byte),
    let first := flags.getLsbD 0
    let key := flags.getLsbD 2
    let count := flags.getLsbD 3
    let finish := flags.getLsbD 4
    let atCount := if key then 2 else 0
    let atFinish := atCount + if count then 1 else 0
    let entry := sheetEntry seq (slot :: flags :: lo :: hi :: ordinal :: media :: opts)
    (entry = .void seq ↔
      15 < slot.toNat ∨ 7 < media.toNat ∨ (lo = 0 ∧ hi = 0) ∨ ordinal = 0 ∨ (first = true ∧ ordinal ≠ 1) ∨
      (first = false ∧ (key = true ∨ count = true ∨ finish = true)) ∨
      opts.length ≠ atFinish + (if finish then 1 else 0) ∨
      (count = true ∧ opts[atCount]? = some 0) ∨
      (finish = true ∧ ∃ b, opts[atFinish]? = some b ∧ 2 < b.toNat)) ∧
    (entry ≠ .void seq → ∃ d, entry = .descriptor d ∧ d.seq = seq ∧ d.slot.val = slot.toNat ∧ d.first = first ∧
      d.last = flags.getLsbD 1 ∧ d.setOrdinal = lo.toNat + 256 * hi.toNat ∧ d.sheetOrdinal = ordinal.toNat ∧
      d.media.val = media.toNat ∧ (key = false → d.key = none) ∧ (count = false → d.count = none) ∧ (finish = false → d.finish = none) ∧
      (∀ a b, key = true → opts[0]? = some a → opts[1]? = some b → d.key = some (a.toNat + 256 * b.toNat)) ∧
      (∀ a, count = true → opts[atCount]? = some a → d.count = some a.toNat) ∧
      (∀ a, finish = true → opts[atFinish]? = some a →
        d.finish = some (if a = 0 then .none else if a = 1 then .corner else .edge2)))

/-- A SHEET outside RUNNING and PAUSED is refused STATE with its seq in the tag field, and the queue and E are unchanged (R24, R168). An
accepted frame of a kind that is no inbound kind is refused UNKNOWN KIND with its kind and tag, and a JOB record, a QUERY or a CONTROL of a
wrong length BAD LENGTH (R167). -/
def Obligations.RefusedRecordsCarryTheirKindAndTag : Prop :=
  ∀ s : State, s.live → s.answers →
    (∀ (seq : Byte) (rest : List Byte), s.working = false → s.refuses (.sheet seq rest) 0x10 seq .state) ∧
    (∀ (kind tag : Byte) (rest : List Byte), s.refuses (.unknownKind kind tag rest) kind tag .unknownKind) ∧
    ∀ (tag idx : Byte) (rest : List Byte),
      (rest.length ≠ 6 → s.refuses (.jobOpen tag rest) 0x11 tag .badLength) ∧
      (rest.length ≠ 1 → s.refuses (.jobClose tag rest) 0x12 tag .badLength ∧ s.refuses (.jobPurge tag rest) 0x13 tag .badLength) ∧
      (rest.length ≠ 2 → ∀ c ∈ [Instr.queryState tag rest, .queryQueue tag rest, .queryPath tag rest, .queryTiming tag rest,
          .queryCompiler tag rest, .queryDelivery tag rest, .queryRoute tag rest, .queryBin tag rest, .queryTower tag rest,
          .queryJob tag rest, .queryMedia tag rest, .querySettings tag rest], s.refuses c 0x15 tag .badLength) ∧
      (rest ≠ [] →
        (∀ c ∈ [Instr.queryAttentionPeek tag idx rest, .queryAttentionTake tag idx rest], s.refuses c 0x15 tag .badLength) ∧
        ∀ c ∈ [Instr.pause tag rest, .resume tag rest, .clearJam tag rest, .releaseHold tag rest, .towerReset tag rest,
          .standby tag rest, .wake tag rest, .reset tag rest], s.refuses c 0x16 tag .badLength)


/-! ## Job records -/

/-- JOB OPEN (R2). Taken: the slot is OPEN with the record's fields and its counters 0, every other slot is unchanged, READY goes to
RUNNING with spin-up, STANDBY to WAKING, and every other state stays. A record that fails a check is answered with the first refusal that
applies, in the order of R2, and changes no slot. -/
def Obligations.JobOpenOpensItsSlotOrIsRefused : Prop :=
  (∀ (s : State) (tag slot lo hi pat pol opt : Byte) (i : Fin 16) (p : Pattern) (q : StaplePolicy), s.live →
    s.run.op ≠ .starting → slot.toNat = i.val → Pattern.ofByte pat = some p → StaplePolicy.ofByte pol = some q →
    u16 lo hi ≠ 0 → s.jobs[i].state = .free →
    (∀ k : Fin 16, k ≠ i → s.jobs[k].state = .free ∨ s.jobs[k].number ≠ u16 lo hi) →
    ∃ t, exec (.jobOpen tag [slot, lo, hi, pat, pol, opt]) s = .next t ∧
      t = { s.frameTaken with
        report := { s.frameTaken.report with feed := t.report.feed }
        run := t.run
        jobs := s.jobs.set i ⟨.opened, u16 lo hi, p, q, opt.getLsbD 0, false, ⟨0, 0, 0, 0, 0, 0⟩⟩ } ∧
      (s.run.op = .ready → t.stands .spinUp ∧ (∀ r, r ≠ .spinUp → (t.stands r ↔ s.stands r)) ∧
        t.run = { s.run with op := .running, spinUp := some s.now, standby := none, idle := none }) ∧
      (s.run.op = .standby → t.stands .wake ∧ (∀ r, r ≠ .wake → (t.stands r ↔ s.stands r)) ∧
        t.run = { s.run with op := .waking, wake := some s.now, standby := none, idle := none }) ∧
      (s.run.op ≠ .ready → s.run.op ≠ .standby → t.run = { s.run with idle := none } ∧ t.report.feed = s.report.feed)) ∧
  ∀ (s : State) (tag slot lo hi pat pol opt : Byte) (reason : RefuseReason), s.live → s.answers →
    let bad := 15 < slot.toNat ∨ u16 lo hi = 0 ∨ 2 < pat.toNat ∨ 1 < pol.toNat
    let busy := ∃ i : Fin 16, slot.toNat = i.val ∧ s.jobs[i].state ≠ .free
    let held := ∃ k : Fin 16, slot.toNat ≠ k.val ∧ s.jobs[k].state ≠ .free ∧ s.jobs[k].number = u16 lo hi
    ((reason = .fieldRange ∧ bad) ∨ (reason = .state ∧ ¬ bad ∧ s.run.op = .starting) ∨
      (reason = .slotBusy ∧ ¬ bad ∧ s.run.op ≠ .starting ∧ busy) ∨
      (reason = .duplicateJob ∧ ¬ bad ∧ s.run.op ≠ .starting ∧ ¬ busy ∧ held)) →
    s.refuses (.jobOpen tag [slot, lo, hi, pat, pol, opt]) 0x11 tag reason

/-- JOB CLOSE (R3, R7): an OPEN slot becomes CLOSED, or FREE with JOB COMPLETE latched where nothing of the job remains; a PURGING slot
has close-seen set, or becomes FREE with JOB PURGED latched. Its number and counters stay, and so does every other slot. A slot above 15 is
refused FIELD RANGE, a FREE one JOB NOT OPEN, and a CLOSED one STATE. -/
def Obligations.JobCloseClosesOrCompletesItsSlot : Prop :=
  (∀ (s : State) (tag slot : Byte), s.live → s.answers → 15 < slot.toNat → s.refuses (.jobClose tag [slot]) 0x12 tag .fieldRange) ∧
  ∀ (s : State) (tag slot : Byte) (i : Fin 16), s.live → slot.toNat = i.val →
    let nothing := s.queue.entries.any (Entry.names i) = false ∧ s.sets.names i = false
    let becomes := fun (j : JobSlot) (cause : Option Cause) => ∃ t, exec (.jobClose tag [slot]) s = .next t ∧
      t = { s.frameTaken with
        report := t.report, jobs := s.jobs.set i j, run := { s.frameTaken.run with idle := t.run.idle } } ∧
      (∀ c, cause = some c → t.latched c) ∧ (cause = none → t.report = s.frameTaken.report)
    (s.jobs[i].state = .opened → ¬ nothing → becomes { s.jobs[i] with state := .closed } none) ∧
    (s.jobs[i].state = .opened → nothing → becomes { s.jobs[i] with state := .free } (some .jobComplete)) ∧
    (s.jobs[i].state = .purging → ¬ nothing → becomes { s.jobs[i] with closeSeen := true } none) ∧
    (s.jobs[i].state = .purging → nothing → becomes { s.jobs[i] with closeSeen := true, state := .free } (some .jobPurged)) ∧
    (s.answers → s.jobs[i].state = .free → s.refuses (.jobClose tag [slot]) 0x12 tag .jobNotOpen) ∧
    (s.answers → s.jobs[i].state = .closed → s.refuses (.jobClose tag [slot]) 0x12 tag .state)

/-- JOB PURGE (R4, R5, R19, R106): an OPEN slot becomes PURGING with close-seen clear, a CLOSED one with it set while the job has a set or a
descriptor; each set of the slot is treated by its state as R5's table says; a PURGING slot takes the record without effect, a slot above 15
is refused FIELD RANGE, and a FREE one JOB NOT OPEN.
The model's choices in it: log entries 16 and 17. -/
def Obligations.JobPurgeTreatsEachSetByItsState : Prop :=
  (∀ (s : State) (tag slot : Byte), s.live → s.answers → 15 < slot.toNat → s.refuses (.jobPurge tag [slot]) 0x13 tag .fieldRange) ∧
  ∀ (s : State) (tag slot : Byte) (i : Fin 16), s.live → slot.toNat = i.val →
    (s.answers → s.jobs[i].state = .free → s.refuses (.jobPurge tag [slot]) 0x13 tag .jobNotOpen) ∧
    (s.jobs[i].state = .purging → ∃ t, exec (.jobPurge tag [slot]) s = .next t ∧
      t = { s.frameTaken with run := { s.frameTaken.run with idle := t.run.idle } }) ∧
    (s.sets.sound → s.jobs[i].state = .opened ∨ s.jobs[i].state = .closed → ∃ t, exec (.jobPurge tag [slot]) s = .next t ∧
      (∀ k : Fin 16, k ≠ i → t.jobs[k] = s.jobs[k]) ∧
      (s.jobs[i].state = .opened → t.jobs[i] = { s.jobs[i] with state := .purging, closeSeen := false }) ∧
      (s.jobs[i].state = .closed → s.sets.names i = true ∨ s.queue.entries.any (Entry.names i) = true →
        t.jobs[i] = { s.jobs[i] with state := .purging, closeSeen := true }) ∧
      (∀ (r : Fin 8) (x : SetRec), s.getRec r = some x → x.slot = i → ∃ y, t.getRec r = some y ∧
        (let marked := { x with divert := some .purged, partBin := y.partBin }
        let left := { marked with
          state := .readyToEject, chosen := some 0, side := y.side, height := some (x.height.getD x.thickness)
          result := if x.pattern = .none then .notRequested else .skipped }
        match x.state with
        | .forming => t.binder.forming = none ∧ (x.compiled ≠ x.bound → y = { marked with state := .gathering }) ∧
            (x.compiled = x.bound → y = left ∧ t.compiler.state = .ejecting)
        | .gathering | .compiling | .stapling => y = marked
        | .stapleWait => y = left ∧ t.compiler.state = .ejecting ∧ ¬ t.stands .staples
        | .readyToEject => y = { marked with chosen := some 0, side := y.side }
        | .held => y = { marked with state := .readyToEject, chosen := some 0, side := y.side } ∧ t.delivery.compilerHold ≠ some r ∧
            (s.delivery.shelf = .occupied → s.delivery.shelfSet = some r → t.delivery.holdTimer = none)
        | .onBelt => y = { x with partBin := y.partBin })) ∧
      (∀ b : Fin 41, t.bins[b] = { s.bins[b] with reserved := t.bins[b].reserved, nextSide := t.bins[b].nextSide }) ∧
      t = { s.frameTaken with
        report := t.report, jobs := t.jobs, sets := t.sets, binder := { s.binder with forming := t.binder.forming }
        compiler := { s.compiler with state := t.compiler.state }, routes := t.routes, bins := t.bins
        delivery := { s.delivery with holdTimer := t.delivery.holdTimer, compilerHold := t.delivery.compilerHold }
        run := { s.frameTaken.run with idle := t.run.idle } })

/-! ## Table writes -/

/-- A TABLE WRITE whose body is not its header and one or more whole entries is refused BAD LENGTH; one with an index or a value out of its
range FIELD RANGE, whatever the state; and one in range is refused STATE in STARTING (R8, R47, R99, R114, R122, R162, R167, R169, R170). -/
def Obligations.TableWritesOutOfPlaceAreRefused : Prop :=
  ∀ (s : State) (tag : Byte) (rest : List Byte), s.live → s.answers →
    let checked := fun (c : Instr) (bad : Prop) => (bad → s.refuses c 0x14 tag .fieldRange) ∧
      (¬ bad → s.run.op = .starting → s.refuses c 0x14 tag .state)
    (∀ x ∈ [(Instr.mediaWrite tag rest, 4), (.timingWrite tag rest, 2), (.routeWrite tag rest, 10), (.binWrite tag rest, 5),
        (.towerWrite tag rest, 1), (.noticeWrite tag rest, 21), (.settingsWrite tag rest, 2)],
      rest.length ≤ 1 ∨ (rest.length - 1) % x.2 ≠ 0 → s.refuses x.1 0x14 tag .badLength) ∧
    (∀ start xs, tableBody mediaEntries rest = some (start, xs) →
      checked (.mediaWrite tag rest) (8 < start + xs.length ∨ ∃ x ∈ xs, 1 < x.eligible.toNat)) ∧
    (∀ start xs, tableBody wordEntries rest = some (start, xs) → checked (.timingWrite tag rest) (12 < start + xs.length)) ∧
    (∀ start xs, tableBody routeEntries rest = some (start, xs) →
      checked (.routeWrite tag rest) (32 < start + xs.length ∨ ∃ x ∈ xs, 1 < x.valid.toNat ∨ 40 < x.last ∨ x.last < x.first ∨
        (x.first = 0 ∧ x.last ≠ 0) ∨ x.keyLimit < x.keyBase ∨ 1 < x.policy.toNat)) ∧
    (∀ start xs, tableBody binEntries rest = some (start, xs) →
      checked (.binWrite tag rest) (41 < start + xs.length ∨ ∃ x ∈ xs, 1 < x.enabled.toNat)) ∧
    (∀ start xs, rest = start :: xs → xs ≠ [] →
      checked (.towerWrite tag rest) (start = 0 ∨ 5 < start.toNat + xs.length ∨ ∃ x ∈ xs, 1 < x.toNat)) ∧
    (∀ start xs, rest = start :: xs → xs ≠ [] → xs.length % 21 = 0 →
      checked (.noticeWrite tag rest) (start ≠ 0 ∨ xs.length ≠ 21 ∨ ∃ x ∈ xs, 1 < x.toNat)) ∧
    ∀ start xs, tableBody wordEntries rest = some (start, xs) →
      checked (.settingsWrite tag rest) (12 < start + xs.length ∨ ∃ k x, xs[k]? = some x ∧
        ((1 < x ∧ (start + k = 5 ∨ start + k = 8 ∨ start + k = 10)) ∨ (40 < x ∧ start + k = 6)))

/-- MEDIA_WRITE and TIMING_WRITE (R8, R43, R47, R167): out of STARTING, and for TIMING with no material in the path, each entry is written
clamped to its range, every other entry and every other block is unchanged, and nothing is answered; with material in the path a TIMING
write is refused STATE. -/
def Obligations.MediaAndTimingWritesAreClamped : Prop :=
  (∀ (s : State) (tag : Byte) (rest : List Byte) (start : Nat) (xs : List MediaWrite), s.live → s.run.op ≠ .starting →
    tableBody mediaEntries rest = some (start, xs) → start + xs.length ≤ 8 → (∀ x ∈ xs, x.eligible.toNat ≤ 1) →
    ∃ t, exec (.mediaWrite tag rest) s = .next t ∧
      t = { s.frameTaken with media := t.media, run := { s.frameTaken.run with idle := t.run.idle } } ∧
      ∀ i : Fin 8,
        (∀ x, start ≤ i.val → xs[i.val - start]? = some x →
          t.media[i] = ⟨max 4 (min 40 x.thickness), max 100 (min 450 x.length), x.eligible = 1⟩) ∧
        (i.val < start ∨ start + xs.length ≤ i.val → t.media[i] = s.media[i])) ∧
  (∀ (s : State) (tag : Byte) (rest : List Byte) (start : Nat) (xs : List Nat), s.live → s.run.op ≠ .starting →
    tableBody wordEntries rest = some (start, xs) → start + xs.length ≤ 12 →
    let material := s.path.list ≠ [] ∨ s.compiler.state ≠ .empty ∨ s.delivery.shelf ≠ .free ∨ s.delivery.list ≠ []
    (¬ material → ∃ t, exec (.timingWrite tag rest) s = .next t ∧
      t = { s.frameTaken with
        path := { s.path with timing := t.path.timing }, run := { s.frameTaken.run with idle := t.run.idle } } ∧
      ∀ i : Fin 12,
        (∀ x, start ≤ i.val → xs[i.val - start]? = some x →
          t.path.timing[i] = max (timingRange i.val).1 (min (timingRange i.val).2 x)) ∧
        (i.val < start ∨ start + xs.length ≤ i.val → t.path.timing[i] = s.path.timing[i])) ∧
    (material → s.answers → s.refuses (.timingWrite tag rest) 0x14 tag .state))

/-- ROUTE_WRITE (R99, R100, R167): each entry written takes the given fields, its generation increases by 1, wrapping, and its cursor is its
new first bin, whether or not it is valid; no bin, set record or other entry changes, and nothing is answered. -/
def Obligations.RouteWriteBumpsTheGeneration : Prop :=
  ∀ (s : State) (tag : Byte) (rest : List Byte) (start : Nat) (xs : List RouteWrite), s.live → s.run.op ≠ .starting →
    tableBody routeEntries rest = some (start, xs) → start + xs.length ≤ 32 →
    (∀ x ∈ xs, x.valid.toNat ≤ 1 ∧ x.first ≤ x.last ∧ x.last ≤ 40 ∧ (x.first = 0 → x.last = 0) ∧ x.keyBase ≤ x.keyLimit ∧
      x.policy.toNat ≤ 1) →
    ∃ t, exec (.routeWrite tag rest) s = .next t ∧
      t = { s.frameTaken with
        routes := { s.routes with entries := t.routes.entries }, run := { s.frameTaken.run with idle := t.run.idle } } ∧
      ∀ i : Fin 32,
        (∀ x, start ≤ i.val → xs[i.val - start]? = some x →
          let e := t.routes.entries[i]
          (e.valid = true ↔ x.valid = 1) ∧ e.job = (if x.job = 0 then none else some x.job) ∧ e.keyBase = x.keyBase ∧
          e.keyLimit = x.keyLimit ∧ e.first.val = x.first ∧ e.last.val = x.last ∧ e.cursor = e.first ∧
          (e.policy = .sequence ↔ x.policy = 1) ∧ e.generation = s.routes.entries[i].generation + 1) ∧
        (i.val < start ∨ start + xs.length ≤ i.val → t.routes.entries[i] = s.routes.entries[i])

/-- BIN_WRITE (R104, R114, R150, R152, R153, R167) with no set held: C and M, clamped at 9999, and the enabled flag are written; fill,
reserved, sets since emptied, next side and sensors stay, and so does every other bin; a bin that has become FULL or NEAR FULL gives its
notice, and OVERFLOW FULL follows bin 0, and the governor its conditions. Nothing is answered. -/
def Obligations.BinWriteKeepsFillAndReservations : Prop :=
  ∀ (s : State) (tag : Byte) (rest : List Byte) (start : Nat) (xs : List BinWrite), s.live → s.run.op ≠ .starting →
    s.noneHeld → tableBody binEntries rest = some (start, xs) → start + xs.length ≤ 41 → (∀ x ∈ xs, x.enabled.toNat ≤ 1) →
    ∃ t, exec (.binWrite tag rest) s = .next t ∧
      t = { s.frameTaken with report := t.report, bins := t.bins, run := { s.frameTaken.run with idle := t.run.idle } } ∧
      (∀ r ∈ t.report.link.queue, r ∈ s.report.link.queue ∨ ∃ n, r = .notice n) ∧
      (t.stands .overflowFull ↔ t.binState 0 = .full) ∧ s.governed t ∧
      ∀ b : Fin 41,
        (∀ x, start ≤ b.val → xs[b.val - start]? = some x →
          t.bins[b] = { s.bins[b] with
            capacity := min 9999 x.capacity, margin := min 9999 x.margin, enabled := x.enabled = 1 } ∧
          (t.binState b ≠ s.binState b → (t.binState b = .full → t.latched .binFull) ∧
            (t.binState b = .nearFull → t.latched .binNearFull))) ∧
        (b.val < start ∨ start + xs.length ≤ b.val → t.bins[b] = s.bins[b])

/-- TOWER_WRITE and NOTICE_WRITE (R122, R160, R162, R167): the wake enables of the named towers, and all the notice settings at one moment;
a class newly disabled loses its parked notice, and then the notices of the slots that the new masks leave eligible, the lowest class first
and as far as 16 records, join the queue and leave their slots; the attention summary is untouched. Nothing is answered. -/
def Obligations.TowerAndNoticeWritesSetTheirValues : Prop :=
  (∀ (s : State) (tag start : Byte) (xs : List Byte), s.live → s.run.op ≠ .starting → start ≠ 0 → xs ≠ [] →
    start.toNat + xs.length ≤ 5 → (∀ x ∈ xs, x.toNat ≤ 1) →
    ∃ t, exec (.towerWrite tag (start :: xs)) s = .next t ∧
      t = { s.frameTaken with
        chain := { s.chain with towers := t.chain.towers }, run := { s.frameTaken.run with idle := t.run.idle } } ∧
      ∀ k : Fin 4,
        (∀ x, start.toNat ≤ k.val + 1 → xs[k.val + 1 - start.toNat]? = some x →
          t.chain.towers[k] = { s.chain.towers[k] with wakeEnable := x = 1 }) ∧
        (k.val + 1 < start.toNat ∨ start.toNat + xs.length ≤ k.val + 1 → t.chain.towers[k] = s.chain.towers[k])) ∧
  (∀ (s : State) (tag : Byte) (x : List Byte), s.live → s.run.op ≠ .starting → x.length = 21 → (∀ b ∈ x, b.toNat ≤ 1) →
    ∃ t, exec (.noticeWrite tag (0 :: x)) s = .next t ∧
      (let u := s.report.notice
      let yes := fun i : Nat => decide (x[i]? = some 1)
      let written : NoticeUnit := ⟨u.flags, u.towerFlags, Vector.ofFn fun k : Fin 8 => yes k.val, Vector.ofFn fun k : Fin 8 => yes (8 + k.val),
        yes 16, Vector.ofFn fun k : Fin 4 => yes (17 + k.val),
        Vector.ofFn fun k : Fin 8 => if u.enables[k] = true ∧ yes k.val = false then none else u.slots[k]⟩
      t.sendsFrom written s.report.link.queue) ∧
      t = { s.frameTaken with
        report := { s.frameTaken.report with
          feed := t.report.feed, notice := t.report.notice, link := { s.frameTaken.report.link with queue := t.report.link.queue } }
        run := { s.frameTaken.run with idle := t.run.idle } } ∧
      (∀ r, r ≠ .backlog → (t.stands r ↔ s.stands r)) ∧
      (t.report.link.queue ≠ s.report.link.queue → (t.stands .backlog ↔ 16 ≤ t.report.link.queue.length)) ∧
      (t.report.link.queue = s.report.link.queue → t.report.feed = s.report.feed))

/-- SETTINGS_WRITE (R30, R152 to R154, R167, R170): a record in range is written whole, each value clamped where its setting is clamped, and
every setting not written stays; QUEUE stands with its condition afterwards. The governor computes its combination from the new settings and
acts on a change by R153; under an unchanged one a write of its settings flips raised where its timer is at the new D or runs towards a drop
with WAIT clear, and otherwise leaves both; GOVERNOR follows raised. With no hold timer running nothing else changes, and nothing is
answered.
The model's choices in it: log entries 28 and, for a write that brings a change of the combination and an expiry or a drop at once, 58. -/
def Obligations.SettingsWriteStoresClampedValues : Prop :=
  ∀ (s : State) (tag : Byte) (rest : List Byte) (start : Nat) (xs : List Nat), s.live → s.run.op ≠ .starting →
    tableBody wordEntries rest = some (start, xs) → start + xs.length ≤ 12 →
    (∀ k x, xs[k]? = some x → (start + k = 5 ∨ start + k = 8 ∨ start + k = 10 → x ≤ 1) ∧ (start + k = 6 → x ≤ 40)) →
    ∃ t, exec (.settingsWrite tag rest) s = .next t ∧
      (∀ k x, xs[k]? = some x → t.settings[start + k]? = some (
        if start + k = 0 then max 1 (min 16 x) else if start + k = 1 then max 1 (min 600 x) else if start + k = 2 then min 1000 x
        else if start + k = 3 then min 255 x else if start + k = 4 then max 1 (min 127 x) else if start + k = 7 then x % 64
        else if start + k = 9 then min 127 x else if start + k = 11 then max 1 (min 41 x) else x)) ∧
      (∀ i, i < start ∨ start + xs.length ≤ i → t.settings[i]? = s.settings[i]?) ∧
      (t.stands .queue ↔ t.queue.watermark ≤ t.queue.entries.length ∨ 0 < t.queue.debt) ∧
      (let g : Governor := { t.report.gov with
        comb := s.report.gov.comb, raised := s.report.gov.raised, timer := s.report.gov.timer }
      let touched := start ≤ 11 ∧ 7 < start + xs.length
      let expires := ∃ since, g.timer = some since ∧ ((g.raised = true ∧ g.wait = false) ∨ g.d * 100 ≤ s.now - since)
      (t.report.gov.comb = true ↔ t.combines) ∧ s.governorReason t ∧
      (t.report.gov.comb ≠ g.comb ∨ ¬ touched → g.follows s.now t.report.gov) ∧
      (t.report.gov.comb = g.comb → touched → expires → t.report.gov = { g with raised := !g.raised, timer := none }) ∧
      (t.report.gov.comb = g.comb → touched → ¬ expires → t.report.gov = g)) ∧
      (∀ r ∈ t.report.link.queue, r ∈ s.report.link.queue ∨ ∃ n, r = .notice n) ∧
      (s.delivery.holdTimer = none → t = { s.frameTaken with
        report := { s.frameTaken.report with feed := t.report.feed, gov := t.report.gov }
        run := { s.frameTaken.run with standbyDelay := t.run.standbyDelay, idle := t.run.idle }
        queue := { s.queue with watermark := t.queue.watermark }
        stapler := { s.stapler with low := t.stapler.low }
        routes := { s.routes with unmatched := t.routes.unmatched, defaultBin := t.routes.defaultBin }
        delivery := { s.delivery with holdLimit := t.delivery.holdLimit }, qualCount := t.qualCount })

/-! ## Queries -/

/-- Every query but ATTENTION, taken with room for its answer (R171): exactly one REPLY joins the queue, with its subject, index, the
record's tag and the fields of its rule, and nothing else of the part changes; an index out of the range R171 gives is refused FIELD RANGE.
The model's choices in it: the layout of the reply fields, log entries 18 and 19. -/
def Obligations.QueriesAppendExactlyOneReply : Prop :=
  ∀ (s : State) (tag idx mode : Byte), s.live → s.answers →
    let replies := fun (c : Instr) (subject i : Byte) (fields : List Byte) =>
      ∃ t, exec c s = .next t ∧ s.answered (.reply subject i tag fields) t
    let indexed := fun (c : Instr) (subject : Byte) (inRange : Prop) (fields : Nat → State → Option (List Byte)) =>
      (inRange → ∃ l, fields idx.toNat s = some l ∧ replies c subject idx l) ∧
      (¬ inRange → s.refuses c 0x15 tag .fieldRange)
    let n := idx.toNat
    replies (.queryState tag [idx, mode]) 0 0 s.frameTaken.stateFields ∧
    replies (.queryQueue tag [idx, mode]) 1 0 s.queueFields ∧
    replies (.queryTiming tag [idx, mode]) 3 0 s.timingFields ∧
    replies (.queryCompiler tag [idx, mode]) 4 0 s.compilerFields ∧
    replies (.querySettings tag [idx, mode]) 12 0 s.settingsFields ∧
    indexed (.queryPath tag [idx, mode]) 2 (n ≤ 6) State.pathFields ∧
    indexed (.queryDelivery tag [idx, mode]) 5 (n ≤ 3) State.deliveryFields ∧
    indexed (.queryRoute tag [idx, mode]) 6 (n ≤ 31) State.routeFields ∧
    indexed (.queryBin tag [idx, mode]) 7 (n ≤ 40) State.binFields ∧
    indexed (.queryTower tag [idx, mode]) 8 (1 ≤ n ∧ n ≤ 4) State.towerFields ∧
    indexed (.queryJob tag [idx, mode]) 10 (n ≤ 15) State.jobFields ∧
    indexed (.queryMedia tag [idx, mode]) 11 (n ≤ 7) State.mediaFields

/-- QUERY ATTENTION (R163, R164): both modes answer with the summary as it stands; PEEK leaves it, TAKE clears it; where the reply cannot be
admitted neither clears a flag, and REPLY LOST is latched on top. -/
def Obligations.TakeClearsTheSummaryOnlyWhenAnswered : Prop :=
  ∀ (s : State) (tag idx : Byte), s.live →
    let reply := OutRec.reply 9 0 tag s.attentionFields
    let cleared := { s with
      report := { s.report with notice := { s.report.notice with flags := [], towerFlags := Vector.replicate 4 false } } }
    (s.answers →
      (∃ t, exec (.queryAttentionPeek tag idx []) s = .next t ∧ s.answered reply t) ∧
      (∃ t, exec (.queryAttentionTake tag idx []) s = .next t ∧ cleared.answered reply t)) ∧
    (¬ s.answers → ∀ c, c = Instr.queryAttentionPeek tag idx [] ∨ c = Instr.queryAttentionTake tag idx [] →
      ∃ t, exec c s = .next t ∧ s.onlyReports t ∧ t.latched .replyLost ∧ (∀ x, s.latched x → t.latched x) ∧
        t.report.notice.towerFlags = s.report.notice.towerFlags ∧ reply ∉ t.report.link.queue.drop s.report.link.queue.length)

/-! ## Controls -/

/-- PAUSE, RESUME, STANDBY and WAKE, each in the one state that takes it (R146 to R148); in every other state they are refused STATE, and so
are CLEAR JAM outside JAM or with a sensor covered (R64), TOWER RESET in STARTING (R124), and RELEASE HOLD with no set held (R134); TOWER
RESET with a set on the delivery list is refused TOWER BUSY (R124). -/
def Obligations.RunControlsActInTheirStatesAlone : Prop :=
  ∀ (s : State) (tag : Byte), s.live →
    let enters := fun (c : Instr) (run : RunController) (changed : Reason → Option Bool) => ∃ t, exec c s = .next t ∧
      t = { s.frameTaken with report := { s.frameTaken.report with feed := t.report.feed }, run := { run with idle := t.run.idle } } ∧
      ∀ r, t.stands r ↔ changed r = some true ∨ (changed r = none ∧ s.stands r)
    (s.run.op = .running → enters (.pause tag []) { s.run with op := .paused } fun r => if r = .paused then some true else none) ∧
    (s.run.op = .paused → enters (.resume tag []) { s.run with op := .running } fun r => if r = .paused then some false else none) ∧
    (s.run.op = .ready → enters (.standby tag []) { s.run with op := .standby, standby := none } fun _ => none) ∧
    (s.run.op = .standby → enters (.wake tag []) { s.run with op := .waking, wake := some s.now, standby := none } fun r =>
      if r = .wake then some true else none) ∧
    (s.answers →
      let refused := fun (c : Instr) => s.refuses c 0x16 tag .state
      (s.run.op ≠ .running → refused (.pause tag [])) ∧ (s.run.op ≠ .paused → refused (.resume tag [])) ∧
      (s.run.op ≠ .ready → refused (.standby tag [])) ∧ (s.run.op ≠ .standby → refused (.wake tag [])) ∧
      (s.run.op ≠ .jam → refused (.clearJam tag [])) ∧ (s.run.op = .starting → refused (.towerReset tag [])) ∧
      (∀ t : Fin 4, s.chain.towers[t].state = .ready → s.chain.towers[t].teCovered = true → refused (.clearJam tag [])) ∧
      (s.pins.firstCovered ≠ none → refused (.clearJam tag [])) ∧ (s.heldSet = none → refused (.releaseHold tag [])) ∧
      (s.run.op ≠ .starting → s.delivery.list ≠ [] → s.refuses (.towerReset tag []) 0x16 tag .towerBusy))

/-- CLEAR JAM in JAM with every sensor clear (R31, R64, R149): E is unset, JAM is dropped, and the part is RUNNING with spin-up where a job
slot is not FREE, and READY otherwise. -/
def Obligations.ClearJamLeavesTheJam : Prop :=
  ∀ (s : State) (tag : Byte), s.live → s.run.op = .jam → s.pins.firstCovered = none →
    (∀ t : Fin 4, s.chain.towers[t].state = .ready → s.chain.towers[t].teCovered = false) →
    ∃ t, exec (.clearJam tag []) s = .next t ∧
      t = { s.frameTaken with
        report := { s.frameTaken.report with feed := t.report.feed }, run := t.run, queue := { s.queue with expected := none } } ∧
      ¬ t.stands .jam ∧ (∀ r, r ≠ .jam → r ≠ .spinUp → (t.stands r ↔ s.stands r)) ∧
      ((∃ i : Fin 16, s.jobs[i].state ≠ .free) → t.stands .spinUp ∧
        t.run = { s.run with op := .running, spinUp := some s.now, standby := none, idle := none }) ∧
      ((∀ i : Fin 16, s.jobs[i].state = .free) → (t.stands .spinUp ↔ s.stands .spinUp) ∧
        t.run = { s.run with op := .ready, standby := some s.now, idle := none })

/-- RELEASE HOLD and HOLD_TIMER_EXPIRY (R92, R106, R132 to R134): the HELD shelf set, unsplit and without a divert reason, is re-targeted to
bin 0 with RELEASED or HOLD TIMEOUT, its height reserved there; its hold timer stops and it is READY TO EJECT; an expiry latches EXPIRED.
The model's choices in it: log entry 3. -/
def Obligations.HeldShelfSetsAreDivertedToBinZero : Prop :=
  ∀ (s : State) (r : Fin 8) (x : SetRec), s.live → s.delivery.shelf = .occupied → s.delivery.shelfSet = some r → s.getRec r = some x →
    x.divert = none → x.chosen = none → x.part = 0 →
    let diverted := fun (reason : DivertReason) (t : State) =>
      (∃ y, t.getRec r = some y ∧ y = { x with state := .readyToEject, divert := some reason, chosen := some 0, side := y.side }) ∧
      (∀ k : Fin 8, k ≠ r → t.getRec k = s.getRec k) ∧ t.sets.order = s.sets.order ∧
      t.delivery = { s.delivery with
        holdTimer := none, compilerHold := if s.delivery.compilerHold = some r then none else s.delivery.compilerHold } ∧
      t.bins[(0 : Fin 41)] = { s.bins[(0 : Fin 41)] with
        reserved := s.bins[(0 : Fin 41)].reserved + x.height.getD 0, nextSide := t.bins[(0 : Fin 41)].nextSide } ∧
      (∀ b : Fin 41, b ≠ 0 → t.bins[b] = s.bins[b])
    (∀ tag, x.state = .held → ∃ t, exec (.releaseHold tag []) s = .next t ∧ diverted .released t ∧
      t = { s.frameTaken with
        sets := t.sets, bins := t.bins, delivery := t.delivery, run := { s.frameTaken.run with idle := t.run.idle } }) ∧
    ∀ start, s.delivery.holdTimer = some start → ∃ t, exec .holdTimerExpiry s = .next t ∧ diverted .holdTimeout t ∧
      t.latched .expired ∧
      t = { s with
        now := max s.now (start + s.delivery.holdLimit * 1000)
        report := t.report, sets := t.sets, bins := t.bins, delivery := t.delivery, run := { s.run with idle := t.run.idle } }

/-! ## The Sheet Link -/

/-- A frame received byte by byte in HUNT acts as its record's command (R165 to R167, R176, R179): the start byte, the length, the kind, the
body and the right check end in the command that the kind, the table id, the subject and mode, or the control code spell. A TABLE WRITE, a
QUERY or a CONTROL that spells none is refused BAD LENGTH where its body is too short or too long for it, and FIELD RANGE otherwise.
The model's choices in it: log entry 5. -/
def Obligations.ReceivedFramesReachTheirRecord : Prop :=
  ∀ (s : State) (kind tag : Byte) (rest : List Byte), s.live → s.report.link.receiver = .hunt → s.syncIdle = s → rest.length ≤ 59 →
    (∀ c, frameCommand kind tag rest = some c → receiveAll (inboundFrame kind tag rest) s = exec c s) ∧
    (frameCommand kind tag rest = none → s.answers →
      let misshapen := (kind = 0x14 ∧ rest.length < 3) ∨ (kind = 0x15 ∧ rest.length ≠ 3) ∨ (kind = 0x16 ∧ rest.length ≠ 1)
      ∃ t, receiveAll (inboundFrame kind tag rest) s = .next t ∧
        (misshapen → s.answered (.refuse kind tag .badLength) t) ∧ (¬ misshapen → s.answered (.refuse kind tag .fieldRange) t))

/-- What discards a frame (R166): a length of 0 or above 60, a wrong check, or a low stop bit, and the passing of 5 ms; the receiver hunts
again, LINK FRAME is handed to the Notice Unit with the error kind LENGTH, CHECK or TIMEOUT, latched, gated, and parked or queued (R157 to
R160), and nothing but the reports changes. A byte other than 0xA5 in HUNT has no effect.
The model's choices in it: log entries 3 and 6. -/
def Obligations.FrameErrorsReturnTheReceiverToHunt : Prop :=
  ∀ (s : State) (b : Byte) (low : Bool), s.live →
    let hunts := fun (kind : Nat) (t : State) => t = { s with now := t.now, report := t.report, run := { s.run with idle := t.run.idle } } ∧
      t.report.link.receiver = .hunt ∧ t.report.link.byteTimer = none ∧ t.report.link.sending = s.report.link.sending ∧
      s.handed ⟨.linkFrame, some kind, none, none, none⟩ none t
    (s.report.link.receiver ≠ .hunt → ∃ t, exec (.badFrame b true) s = .next t ∧ hunts 2 t ∧ t.now = s.now) ∧
    (s.report.link.receiver = .length → b = 0 ∨ 60 < b.toNat →
      ∃ t, exec (.badFrame b low) s = .next t ∧ hunts (if low then 2 else 1) t ∧ t.now = s.now) ∧
    (∀ len kind got, s.report.link.receiver = .check len kind got → b ≠ frameCheck len kind got →
      ∃ t, exec (.badFrame b low) s = .next t ∧ hunts 2 t ∧ t.now = s.now) ∧
    (s.report.link.receiver = .hunt → b ≠ 0xA5 → exec (.receivedByte b) s = .next s.syncIdle) ∧
    (s.report.link.receiver = .hunt → ∃ t, exec (.receivedByte 0xA5) s = .next t ∧
      t = { s with
        report := { s.report with link := { s.report.link with receiver := .length, byteTimer := some s.now } }
        run := { s.run with idle := t.run.idle } }) ∧
    (∀ start, s.report.link.byteTimer = some start → ∃ t, exec .interByteTimeout s = .next t ∧ hunts 0 t ∧
      t.now = max s.now (start + 6))

/-- TRANSMIT_BEGIN and TRANSMIT_DONE (R143, R160, R173, R175): the FEED slot goes first and empties; else the queue head leaves; a HELLO
whose towers are not known waits; and a frame that completes leaves the transmitter idle. As the occupancy falls from 16 to 15 the notice
parked in the lowest eligible class joins the queue's tail and leaves its slot, and every other slot and the summary stay.
The model's choices in it: log entries 3 and 26. -/
def Obligations.TransmitterSendsTheFeedSlotFirst : Prop :=
  ∀ s : State, s.live →
    (s.report.link.sending = none →
      (∀ f, s.report.feed.slot = some f → ∃ t, exec .transmitBegin s = .next t ∧
        t = { s with
          report := { s.report with
            feed := { s.report.feed with slot := none }, link := { s.report.link with sending := some ⟨.feed f, s.now⟩ } }
          run := { s.run with idle := t.run.idle } }) ∧
      (∀ r rest, s.report.feed.slot = none → s.report.link.queue = r :: rest → r.waits = false →
        (rest.length ≠ 15 → ∃ t, exec .transmitBegin s = .next t ∧
          t = { s with
            report := { s.report with
              feed := t.report.feed, link := { s.report.link with queue := rest, sending := some ⟨r, s.now⟩ } }
            run := { s.run with idle := t.run.idle } } ∧
          (t.stands .backlog ↔ 16 ≤ rest.length) ∧ ∀ x, x ≠ .backlog → (t.stands x ↔ s.stands x)) ∧
        (rest.length = 15 → ∃ t, exec .transmitBegin s = .next t ∧ ∃ (sent : List Notice), t = { s with
            report := { s.report with
              feed := t.report.feed, notice := { s.report.notice with slots := t.report.notice.slots }
              link := { s.report.link with queue := rest ++ sent.map OutRec.notice, sending := some ⟨r, s.now⟩ } }
            run := { s.run with idle := t.run.idle } } ∧
          (t.stands .backlog ↔ sent ≠ []) ∧
          let eligible := fun (k : Fin 8) (x : Parked) => s.report.notice.slots[k] = some x ∧ s.report.notice.masks[k] = false ∧
            s.report.notice.globalMask = false
          ((∀ k x, ¬ eligible k x) → sent = [] ∧ t.report.notice = s.report.notice) ∧
          ∀ k x, eligible k x → (∀ j y, j < k → ¬ eligible j y) → sent = [x.notice] ∧
            t.report.notice.slots = s.report.notice.slots.set k none)) ∧
      (∀ cause rest, s.report.feed.slot = none → s.report.link.queue = .hello cause none :: rest →
        exec .transmitBegin s = .next s.syncIdle)) ∧
    (∀ x, s.report.link.sending = some x → exec .transmitBegin s = .next s.syncIdle ∧
      ∃ t, exec .transmitDone s = .next t ∧
        t = { s with
          now := t.now, report := { s.report with link := { s.report.link with sending := none } }
          run := { s.run with idle := t.run.idle } } ∧ x.start * 23040 + x.record.frame.length * 1000 ≤ t.now * 23040)

/-! ## Sheets at S1 -/

/-- An S1 leading edge that finds the queue empty (R33): the sheet becomes an orphan NO DESCRIPTOR with seq E, or none while E is unset; a
set E becomes E + 1; G1 rests on the reject path, and no job, no set and not the forming set is touched. -/
def Obligations.EmptyQueueSheetIsOrphan : Prop :=
  ∀ s : State, s.live → s.working = true → s.path.list.length < 6 → s.queue.entries = [] →
    ∃ e : PathEntry, e.seq = s.queue.expected ∧ e.slotOrd = none ∧ e.sheetOrd = none ∧
      e.enters s.now s.path (.orphan .noDescriptor) ∧
      exec .s1LeadingEdge s = .next { s with
        pins := { s.pins with s1 := true }
        queue := { s.queue with expected := s.queue.expected.map fun x => x + 1 }
        path := s.path.entered s.now e s.media[0].length
        binder := { s.binder with g1 := .reject }
        run := { s.run with idle := none } }

/-- An S1 leading edge that takes a gap marker or a void entry (R29, R34): an orphan LOST or BAD DESCRIPTOR with the entry's seq; a forming
set is marked SHEET MISSING unless it has a reason, and stays; one owed position is repaid with a gap marker. -/
def Obligations.MarkersAndVoidEntriesBreakTheFormingSet : Prop :=
  ∀ (s : State) (head : Entry) (rest : List Entry) (q : Option Seq) (reason : OrphanReason), s.live → s.working = true →
    s.path.list.length < 6 → s.queue.entries = head :: rest →
    (head = .gap q ∧ reason = .lostDescriptor ∨ (∃ n, head = .void n ∧ q = some n) ∧ reason = .badDescriptor) →
    ∃ t, ∃ e : PathEntry, exec .s1LeadingEdge s = .next t ∧ e.seq = q ∧ e.slotOrd = none ∧ e.sheetOrd = none ∧
      e.enters s.now s.path (.orphan reason) ∧
      t = { s with
        pins := { s.pins with s1 := true }
        report := { s.report with feed := t.report.feed }
        queue := t.queue
        sets := t.sets
        path := s.path.entered s.now e s.media[0].length
        binder := { s.binder with g1 := .reject }
        run := { s.run with idle := none } } ∧
      (s.queue.debt = 0 → t.queue = { s.queue with entries := rest }) ∧
      (0 < s.queue.debt → t.queue.entries = rest ++ [.gap s.queue.nextOwed] ∧ t.queue.debt = s.queue.debt - 1 ∧
        t.queue.nextOwed = (if s.queue.debt = 1 then none else s.queue.nextOwed.map fun x => x + 1)) ∧
      (s.binder.forming = none → t.sets = s.sets) ∧
      (∀ r x, s.binder.forming = some r → s.getRec r = some x →
        t.getRec r = some { x with broken := some (x.broken.getD .sheetMissing) } ∧ ∀ k : Fin 8, k ≠ r → t.getRec k = s.getRec k)

/-- A FIRST sheet of an OPEN slot with a FREE record and no set forming (R12, R36, R38, R39, R88, R89): a record is allocated with the
values of R12, its route resolved, and the sheet bound to it; with LAST too it leaves FORMING at once, broken COUNT SHORT where its
declared count is not the sheet's ordinal; the job has one set opened more. -/
def Obligations.FirstSheetOpensItsSet : Prop :=
  ∀ (s : State) (d : Descriptor) (rest : List Entry), s.live → s.working = true → s.path.list.length < 6 →
    s.queue.entries = .descriptor d :: rest → s.queue.debt = 0 → s.jobs[d.slot].state = .opened → d.first = true →
    s.binder.forming = none → (∃ r : Fin 8, s.getRec r = none) →
    ∃ t, ∃ r : Fin 8, ∃ y e, exec .s1LeadingEdge s = .next t ∧ s.getRec r = none ∧ t.getRec r = some y ∧
      (∀ k : Fin 8, k ≠ r → t.getRec k = s.getRec k) ∧ t.sets.order = s.sets.order ++ [r] ∧
      y = { y with
        slot := d.slot, jobNumber := s.jobs[d.slot].number, setOrdinal := d.setOrdinal, part := 0, key := d.key, count := d.count
        pattern := d.finish.getD s.jobs[d.slot].pattern, policy := s.jobs[d.slot].policy, offset := s.jobs[d.slot].offset
        bound := 1, lastOrdinal := 1, compiled := 0, thickness := 0, allEligible := s.media[d.media].eligible
        broken := if d.last = true ∧ d.count.isSome = true ∧ d.count ≠ some d.sheetOrdinal then some .countShort else none
        decision := none, result := .notRequested, skip := none, height := none, chosen := none, partBin := none
        nextPart := none, side := .none, divert := none, place := .path
        state := if d.last then .gathering else .forming } ∧
      (let fits := fun i : Fin 32 =>
        s.routes.entries[i].valid = true ∧
          (s.routes.entries[i].job = none ∨ s.routes.entries[i].job = some s.jobs[d.slot].number) ∧
          (∀ k, d.key = some k → s.routes.entries[i].keyBase ≤ k ∧ k ≤ s.routes.entries[i].keyLimit) ∧
          (d.key = none → s.routes.entries[i].keyBase = 0 ∧ s.routes.entries[i].keyLimit = 65535)
      (∀ i : Fin 32, fits i → (∀ k : Fin 32, k < i → ¬ fits k) → y.route = .entry i s.routes.entries[i].first
        s.routes.entries[i].last s.routes.entries[i].policy s.routes.entries[i].generation) ∧
      ((∀ i : Fin 32, ¬ fits i) →
        y.route = if s.routes.unmatched = .quiet then .default s.routes.defaultBin else .none)) ∧
      e.seq = some d.seq ∧ e.slotOrd = some (d.slot, d.setOrdinal) ∧ e.sheetOrd = some d.sheetOrdinal ∧
      e.enters s.now s.path (.bound r d.media s.media[d.media]) ∧
      t.jobs[d.slot] = { s.jobs[d.slot] with
        counters := { s.jobs[d.slot].counters with opened := min 65535 (s.jobs[d.slot].counters.opened + 1) } } ∧
      (∀ k : Fin 16, k ≠ d.slot → t.jobs[k] = s.jobs[k]) ∧
      t = { s with
        pins := { s.pins with s1 := true }
        report := { s.report with feed := t.report.feed }
        queue := { s.queue with entries := rest }
        jobs := t.jobs
        sets := t.sets
        path := s.path.entered s.now e s.media[d.media].length
        binder := ⟨if d.last then none else some r, .main⟩
        run := { s.run with idle := none } }

/-- A sheet without FIRST that joins its forming set (R13, R37 to R39), the set's landed sheets being no more than its bound ones: it is
counted, its ordinal checked, and with LAST the set leaves FORMING; a broken reason already held is kept. -/
def Obligations.JoiningSheetIsCountedAndChecked : Prop :=
  ∀ (s : State) (d : Descriptor) (rest : List Entry) (r : Fin 8) (x : SetRec), s.live → s.working = true →
    s.path.list.length < 6 → s.queue.entries = .descriptor d :: rest → s.queue.debt = 0 → s.jobs[d.slot].state = .opened →
    d.first = false → s.binder.forming = some r → s.getRec r = some x → x.slot = d.slot → x.setOrdinal = d.setOrdinal →
    x.bound < 255 → x.compiled ≤ x.bound →
    ∃ t e, exec .s1LeadingEdge s = .next t ∧
      t.getRec r = some { x with
        bound := x.bound + 1, lastOrdinal := d.sheetOrdinal, allEligible := x.allEligible && s.media[d.media].eligible
        broken :=
          if x.broken.isSome = true then x.broken
          else if d.sheetOrdinal ≠ x.lastOrdinal + 1 then some .ordinalSkip
          else if ∃ n, x.count = some n ∧ n < d.sheetOrdinal then some .countExceeded
          else if d.last = true ∧ x.count.isSome = true ∧ x.count ≠ some d.sheetOrdinal then some .countShort
          else none
        state := if d.last then .gathering else x.state } ∧
      (∀ k : Fin 8, k ≠ r → t.getRec k = s.getRec k) ∧ t.sets.order = s.sets.order ∧
      e.seq = some d.seq ∧ e.slotOrd = some (d.slot, d.setOrdinal) ∧ e.sheetOrd = some d.sheetOrdinal ∧
      e.enters s.now s.path (.bound r d.media s.media[d.media]) ∧
      t = { s with
        pins := { s.pins with s1 := true }
        report := { s.report with feed := t.report.feed }
        queue := { s.queue with entries := rest }
        sets := t.sets
        path := s.path.entered s.now e s.media[d.media].length
        binder := ⟨if d.last then none else some r, .main⟩
        run := { s.run with idle := none } }

/-- A sheet with a readable descriptor that no set takes, or that ends the forming set (R6, R29, R35 to R38, R40, R41): its orphan reason,
the loose count of its slot, and the forming set's treatment are those of R35 to R37; a set closed with all its sheets landed is COMPILING
at once; and a job whose last descriptor this was becomes FREE with its notice. The forming set is none that a purge has marked: R5 closes
that. -/
def Obligations.UnmatchedSheetsAreOrphans : Prop :=
  ∀ (s : State) (d : Descriptor) (rest : List Entry), s.live → s.working = true → s.path.list.length < 6 →
    s.queue.entries = .descriptor d :: rest → s.queue.debt = 0 →
    let job := s.jobs[d.slot]
    let completes := (job.state = .closed ∨ (job.state = .purging ∧ job.closeSeen = true)) ∧
      rest.any (Entry.names d.slot) = false ∧ s.sets.names d.slot = false
    let untouched := fun (t : State) => t.sets = s.sets ∧ t.binder.forming = s.binder.forming ∧ t.compiler = s.compiler
    let ended := fun (r : Fin 8) (x : SetRec) (b : BrokenReason) (t : State) =>
      let y := { x with broken := some (x.broken.getD b), state := .gathering }
      (x.compiled ≠ x.bound → t.getRec r = some y ∧ t.compiler = s.compiler) ∧
      (x.compiled = x.bound → t.getRec r = some { y with state := .compiling } ∧
        t.compiler = { s.compiler with state := .finishing, jog := some s.now })
    let closes := fun (r : Fin 8) (x : SetRec) (b : BrokenReason) (t : State) =>
      ended r x b t ∧ t.binder.forming = none ∧ t.sets.order = s.sets.order ∧ ∀ k : Fin 8, k ≠ r → t.getRec k = s.getRec k
    let orphan := fun (reason : OrphanReason) (loose : Bool) (forming : State → Prop) =>
      ∃ t, ∃ e : PathEntry, exec .s1LeadingEdge s = .next t ∧ forming t ∧
        e.seq = some d.seq ∧ e.slotOrd = some (d.slot, d.setOrdinal) ∧ e.sheetOrd = some d.sheetOrdinal ∧
        e.enters s.now s.path (.orphan reason) ∧
        t = { s with
          pins := { s.pins with s1 := true }
          report := t.report
          queue := { s.queue with entries := rest }
          jobs := s.jobs.set d.slot { job with
            state := t.jobs[d.slot].state
            counters := { job.counters with loose := if loose then min 65535 (job.counters.loose + 1) else job.counters.loose } }
          sets := t.sets
          path := s.path.entered s.now e s.media[0].length
          compiler := t.compiler
          binder := ⟨t.binder.forming, .reject⟩
          run := { s.run with idle := none } } ∧
        (∀ r ∈ t.report.link.queue, r ∈ s.report.link.queue ∨ ∃ n, r = .notice n) ∧
        (completes → t.jobs[d.slot].state = .free ∧ t.latched (if job.state = .closed then .jobComplete else .jobPurged)) ∧
        (¬ completes → t.jobs[d.slot].state = job.state ∧ t.report.notice = s.report.notice)
    (job.state = .free → orphan .jobNotOpen false untouched) ∧
    (job.state = .purging → orphan .jobPurging true untouched) ∧
    (job.state = .opened → d.first = true → (∀ r : Fin 8, s.getRec r ≠ none) → s.binder.forming = none →
      orphan .noSetRecord true untouched) ∧
    (job.state = .opened → d.first = false → s.binder.forming = none → orphan .noSet true untouched) ∧
    (job.state = .closed → s.binder.forming = none → orphan .jobNotOpen true untouched) ∧
    ∀ r x, s.binder.forming = some r → s.getRec r = some x → x.divert ≠ some .purged →
      let own := x.slot = d.slot ∧ x.setOrdinal = d.setOrdinal
      (job.state = .closed → ¬ own → orphan .jobNotOpen true untouched) ∧
      (job.state = .closed → own → orphan .jobNotOpen true (closes r x .sheetMissing)) ∧
      (job.state = .opened → d.first = false → ¬ own → orphan .noSet true (closes r x .jobChange)) ∧
      (job.state = .opened → d.first = false → own → 255 ≤ x.bound → orphan .noSet true (closes r x .countExceeded)) ∧
      (job.state = .opened → d.first = true → (∀ k : Fin 8, s.getRec k ≠ none) →
        orphan .noSetRecord true (closes r x .missingEnd)) ∧
      (job.state = .opened → d.first = true → (∃ k : Fin 8, s.getRec k = none) → ∃ t, ∃ c : Fin 8, ∃ y,
        exec .s1LeadingEdge s = .next t ∧ ended r x .missingEnd t ∧ s.getRec c = none ∧ t.getRec c = some y ∧
        y.slot = d.slot ∧ y.setOrdinal = d.setOrdinal ∧ y.bound = 1 ∧ t.binder = ⟨if d.last then none else some c, .main⟩ ∧
        t.sets.order = s.sets.order ++ [c] ∧ ∀ k : Fin 8, k ≠ r → k ≠ c → t.getRec k = s.getRec k)

/-- An S1 leading edge outside RUNNING and PAUSED (R57, R63): in STARTING it has no effect but on the pin; in READY, STANDBY and WAKING it
declares UNEXPECTED SHEET; in JAM it is a second jam, which is latched and changes nothing else. A seventh sheet in RUNNING or PAUSED
declares BUFFER OVERFLOW (R50). -/
def Obligations.S1EdgesThatClassifyNothing : Prop :=
  ∀ s : State, s.live → ∃ t, exec .s1LeadingEdge s = .next t ∧ t.pins = { s.pins with s1 := true } ∧
    (s.run.op = .starting → t = { s with pins := t.pins, run := { s.run with idle := none } }) ∧
    (s.run.op = .ready ∨ s.run.op = .standby ∨ s.run.op = .waking → t.jams (.unexpectedSheet)) ∧
    (s.run.op = .jam → t.latched (.jam .unexpectedSheet) ∧
      t = { s with
        pins := t.pins
        report := { s.report with notice := { s.report.notice with flags := t.report.notice.flags } }
        run := { s.run with idle := none } } ∧
      ∀ c, t.latched c ↔ c = .jam .unexpectedSheet ∨ s.latched c) ∧
    (s.working = true → 6 ≤ s.path.list.length → t.jams .bufferOverflow)

/-- The S1 trailing edge of the sheet at S1 (R46, R49, R51): the sheet's length is measured; a difference above the length tolerance sets
its MISMATCH flag and breaks its set with LENGTH unless it is broken already; S1 is clear. A sheet that had not arrived stays on the path
list; one that had leaves it, an orphan giving its LOOSE disposition (R55), a bound sheet being credited to its set (R14). With no sheet at
S1 nothing changes. -/
def Obligations.S1TrailingEdgeChecksTheLength : Prop :=
  (∀ s : State, s.live → s.path.s1 = none → ∃ t, exec .s1TrailingEdge s = .next t ∧
    t = { s with pins := { s.pins with s1 := false }, run := { s.run with idle := t.run.idle } }) ∧
  ∀ (s : State) (a : AtS1) (e : PathEntry), s.live → s.path.s1 = some a → s.path.entry a.id = some e →
    let measured := (s.now - a.edge) * s.path.timing[0] / 1000
    let differs := s.path.timing[3] + a.len < measured ∨ s.path.timing[3] + measured < a.len
    ∃ t, exec .s1TrailingEdge s = .next t ∧ t.path.s1 = none ∧ t.pins = { s.pins with s1 := false } ∧
      (e.stage ≠ .arrived →
        (∀ k : Fin 8, (e.boundTo.map Prod.fst ≠ some k ∨ ¬ differs → t.getRec k = s.getRec k)) ∧
        (∀ r snap x, e.boundTo = some (r, snap) → differs → s.getRec r = some x →
          t.getRec r = some { x with broken := some (x.broken.getD .length) }) ∧
        t = { s with
          pins := t.pins
          sets := { s.sets with recs := t.sets.recs }
          path := { s.path with
            s1 := none
            list := s.path.list.map fun x =>
              if x.id = a.id then { x with s1Clear := true, mismatch := x.mismatch || decide differs } else x }
          run := { s.run with idle := t.run.idle } }) ∧
      (e.stage = .arrived → t.path.list.map PathEntry.id = (s.path.list.map PathEntry.id).filter (fun i => i ≠ a.id)) ∧
      (∀ reason, e.stage = .arrived → e.body = .orphan reason → t.sets = s.sets ∧
        s.disposed (.looseDisp ⟨true, e.seq, reason, e.slotOrd⟩)
          ⟨.dispositionLost, some 1, e.slotOrd.map fun x => x.1.val, e.slotOrd.map Prod.snd, e.seq.map BitVec.toNat⟩ t) ∧
      (∀ r snap x, e.stage = .arrived → e.boundTo = some (r, snap) → s.getRec r = some x → ∃ y, t.getRec r = some y ∧
        y.compiled = x.compiled + 1 ∧ y.thickness = x.thickness + snap.thickness ∧ y.bound = x.bound ∧
        y.broken = if differs then some (x.broken.getD .length) else x.broken)

/-! ## Sheets at S2, SC and SR -/

/-- A bound sheet at S2 (R44, R45, R52, R66, R67, R70), the trailing edge there (R52, R57), and a release from the entry buffer (R53). The
sheet goes straight on where the buffer is empty, nothing of another set is in flight, and the compiler is ready: EMPTY with no set at SE,
or COLLECTING the sheet's set with room for it; else it joins the buffer, with BUFFER, one that finds it empty and fails on the capacity
alone becoming the split sheet; and a fifth buffered sheet is a jam. The head of the buffer is released, whatever the compiler was EMPTY or
COLLECTING with, on the same test once no released sheet is on its way to SC. -/
def Obligations.SheetsGoStraightOnOrOntoTheBuffer : Prop :=
  ∀ s : State, s.live →
    let sum := fun (snap : Media) => s.compiler.contents + s.compiler.inFlight + snap.thickness
    let collects := fun (r : Fin 8) => s.compiler.state = .collecting ∧ s.compiler.current = some r ∧ s.compiler.splitSheet = none
    let ready := fun (r : Fin 8) (snap : Media) =>
      (s.compiler.state = .empty ∧ s.path.se = none) ∨ (collects r ∧ sum snap ≤ 1000)
    let alone := fun (r : Fin 8) =>
      ∀ x ∈ s.path.list, x.stage = .toSC → ∃ q m, x.boundTo = some (q, m) ∧ s.sets.continues q r = true
    let sent := fun (id : EntryName) (released : Bool) => s.path.list.map fun x =>
      if x.id = id then
        { x with stage := .toSC, window := some ⟨s.now, s.path.lateLimit s.path.timing[5]⟩, released := released }
      else x
    (∀ (e : PathEntry) (r : Fin 8) (snap : Media), s.working = true → s.path.oldest .toS2 = some e → s.path.entry e.id = some e →
      e.boundTo = some (r, snap) →
      let straight := s.path.buffer = [] ∧ ready r snap ∧ alone r
      let atS2 : Option AtS2 := some ⟨e.id, some ⟨s.now, s.path.stallLimit snap.length⟩⟩
      ∃ t, exec .s2LeadingEdge s = .next t ∧ t.pins = { s.pins with s2 := true } ∧
        (straight → t = { s with
          pins := t.pins
          path := { s.path with s2 := atS2, list := sent e.id false }
          compiler := { s.compiler with inFlight := s.compiler.inFlight + snap.thickness }
          run := { s.run with idle := t.run.idle } }) ∧
        (¬ straight → s.path.buffer.length < 4 → t = { s with
          pins := t.pins
          report := { s.report with feed := t.report.feed }
          path := { s.path with
            s2 := atS2
            buffer := s.path.buffer ++ [e.id]
            list := s.path.list.map fun x => if x.id = e.id then { x with stage := .onBuffer, window := none } else x }
          compiler := { s.compiler with splitSheet := t.compiler.splitSheet }
          run := { s.run with idle := t.run.idle } } ∧
          (s.path.buffer = [] → collects r → 1000 < sum snap → t.compiler.splitSheet = some e.id) ∧
          (s.path.buffer ≠ [] ∨ ¬ (collects r ∧ 1000 < sum snap) → t.compiler.splitSheet = s.compiler.splitSheet) ∧
          t.stands .buffer ∧ ∀ x, x ≠ .buffer → (t.stands x ↔ s.stands x)) ∧
        (4 ≤ s.path.buffer.length → t.jams .bufferOverflow)) ∧
    (∃ t, exec .s2TrailingEdge s = .next t ∧ t = { s with
      pins := { s.pins with s2 := false }
      path := if s.working then { s.path with s2 := none } else s.path
      run := { s.run with idle := t.run.idle } }) ∧
    (s.path.buffer = [] → exec .bufferRelease s = .next s.syncIdle) ∧
    ∀ (e : PathEntry) (id : EntryName) (rest : List EntryName) (r : Fin 8) (snap : Media), s.path.buffer = id :: rest →
      s.path.entry id = some e → e.boundTo = some (r, snap) →
      let goes := ready r snap ∧ alone r ∧ ∀ x ∈ s.path.list, x.released = true → x.stage ≠ .toSC
      (¬ goes → exec .bufferRelease s = .next s.syncIdle) ∧
      (goes → ∃ t, exec .bufferRelease s = .next t ∧
        t = { s with
          report := { s.report with feed := t.report.feed }
          path := { s.path with buffer := rest, list := sent id true }
          compiler := { s.compiler with inFlight := s.compiler.inFlight + snap.thickness }
          run := { s.run with idle := t.run.idle } } ∧
        (t.stands .buffer ↔ rest ≠ []) ∧ ∀ x, x ≠ .buffer → (t.stands x ↔ s.stands x))

/-- A bound sheet reaches SC with S1 clear, the compiler EMPTY or COLLECTING its set (R14, R49, R53, R54, R67 to R70, R83): it leaves the
path list and is credited to its set, whose thickness the contents become; an EMPTY compiler is COLLECTING it; a set not purged that has all
its sheets is COMPILING, and its jog starts; a purged one leaves for bin 0 unstapled. The head of the entry buffer is then tested, and
becomes the split sheet where it fails on the capacity alone. With S1 still covered the sheet is only ARRIVED, and is in flight as before.
The model's choices in it: log entries 49 and 54. -/
def Obligations.LandingsAreCreditedToTheirSet : Prop :=
  ∀ (s : State) (e : PathEntry) (r : Fin 8) (snap : Media) (x : SetRec), s.live → s.working = true →
    s.path.oldest .toSC = some e → s.path.entry e.id = some e → e.boundTo = some (r, snap) → s.getRec r = some x →
    s.compiler.state = .empty ∨ (s.compiler.state = .collecting ∧ s.compiler.current = some r) →
    let whole := x.state = .gathering ∧ x.compiled + 1 = x.bound
    let credited := { x with compiled := x.compiled + 1, thickness := x.thickness + snap.thickness, place := .compiler }
    ∃ t, exec .scLeadingEdge s = .next t ∧ t.pins = { s.pins with sc := true } ∧
      (e.s1Clear = false → t = { s with
        pins := t.pins
        path := { s.path with
          list := s.path.list.map fun y => if y.id = e.id then { y with stage := .arrived, window := none } else y }
        run := { s.run with idle := t.run.idle } }) ∧
      (e.s1Clear = true → t.path = { s.path with
        list := s.path.list.filter fun y => y.id ≠ e.id
        firstLen := if x.compiled = 0 then some snap.length else s.path.firstLen }) ∧
      (e.s1Clear = true → whole → x.divert = some .purged → ∃ y, t.getRec r = some y ∧ t.compiler.state = .ejecting ∧
        y = { credited with
          state := .readyToEject, chosen := some 0, side := y.side, height := some (x.height.getD credited.thickness)
          result := if x.pattern = .none then .notRequested else .skipped, partBin := y.partBin }) ∧
      (e.s1Clear = true → ¬ (whole ∧ x.divert = some .purged) →
        t.getRec r = some { credited with state := if x.state = .gathering ∧ x.compiled + 1 = x.bound then .compiling else x.state } ∧
        (∀ k : Fin 8, k ≠ r → t.getRec k = s.getRec k) ∧
        t.compiler = { s.compiler with
          inFlight := s.compiler.inFlight - snap.thickness
          contents := x.thickness + snap.thickness
          current := some r
          state := if x.state = .gathering ∧ x.compiled + 1 = x.bound then .finishing else .collecting
          jog := if x.state = .gathering ∧ x.compiled + 1 = x.bound then some s.now else s.compiler.jog
          splitSheet := t.compiler.splitSheet } ∧
        (s.path.buffer = [] → t.compiler.splitSheet = s.compiler.splitSheet) ∧
        (∀ id rest h q m, s.path.buffer = id :: rest → id ≠ e.id → s.path.entry id = some h → h.boundTo = some (q, m) →
          let tooMuch := ¬ whole ∧ q = r ∧ s.compiler.splitSheet = none ∧
            1000 < t.compiler.contents + t.compiler.inFlight + m.thickness
          (tooMuch → t.compiler.splitSheet = some id) ∧ (¬ tooMuch → t.compiler.splitSheet = s.compiler.splitSheet)) ∧
        t = { s with
          pins := t.pins
          sets := { s.sets with recs := t.sets.recs }
          path := t.path
          compiler := t.compiler
          run := { s.run with idle := t.run.idle } })

/-- An orphan reaches SR with S1 clear (R21, R49, R55, R157 to R161, R174): it leaves the path list, and its LOOSE disposition, REJECTED,
joins the outbound queue; at 48 records the NOTICE nearest the head makes room for it and is handed back to its class's slot, and with no
NOTICE there it is dropped, DISPOSITION LOST being latched, gated, and parked or queued. An arrival at S2, SC or SR that no entry expects
declares UNEXPECTED SHEET; outside RUNNING and PAUSED these three, the trailing edge at S2, SE's edges and S0's arrival have no effect but
on the pins (R57). -/
def Obligations.OrphansAreRejectedAtSR : Prop :=
  (∀ (s : State) (e : PathEntry) (reason : OrphanReason), s.live → s.working = true → s.path.oldest .toSR = some e →
    s.path.entry e.id = some e → e.body = .orphan reason → e.s1Clear = true →
    ∃ t, exec .srLeadingEdge s = .next t ∧
      s.disposed (.looseDisp ⟨true, e.seq, reason, e.slotOrd⟩)
        ⟨.dispositionLost, some 1, e.slotOrd.map fun x => x.1.val, e.slotOrd.map Prod.snd, e.seq.map BitVec.toNat⟩ t ∧
      t = { s with
        pins := { s.pins with sr := true }
        report := { s.report with
          feed := t.report.feed, notice := t.report.notice, link := { s.report.link with queue := t.report.link.queue } }
        path := { s.path with list := s.path.list.filter fun y => y.id ≠ e.id }
        run := { s.run with idle := t.run.idle } }) ∧
  ∀ s : State, s.live →
    (s.working = true →
      (s.path.oldest .toS2 = none → ∃ t, exec .s2LeadingEdge s = .next t ∧ t.jams .unexpectedSheet) ∧
      (s.path.oldest .toSC = none → ∃ t, exec .scLeadingEdge s = .next t ∧ t.jams .unexpectedSheet) ∧
      (s.path.oldest .toSR = none → ∃ t, exec .srLeadingEdge s = .next t ∧ t.jams .unexpectedSheet)) ∧
    (s.working = false →
      let quiet := fun (c : Instr) (pins : Pins) => exec c s = .next { s with pins := pins, run := { s.run with idle := none } }
      quiet .s2LeadingEdge { s.pins with s2 := true } ∧ quiet .s2TrailingEdge { s.pins with s2 := false } ∧
      quiet .scLeadingEdge { s.pins with sc := true } ∧ quiet .srLeadingEdge { s.pins with sr := true } ∧
      quiet .seLeadingEdge { s.pins with se := true } ∧ quiet .seTrailingEdge { s.pins with se := false } ∧
      quiet .s0Arrival { s.pins with s0 := true })

/-! ## SE and arrivals -/

/-- A set at SE whose edge is awaited (R56, R82, R128, R129, R152, R153): the compiler is EMPTY; a set with a place on the list is ON BELT,
TRAVELLING to its chosen bin with G0 set and its window open; one on the shelf is HELD with its hold timer running, or READY TO EJECT where
it has a bin, and the governor follows the shelf; SE is stall-checked with the set's first-sheet length. The trailing edge empties the
watch, stops the drive and lets the entry buffer make its test; a set nothing announced declares UNEXPECTED SET. -/
def Obligations.SetsPassSE : Prop :=
  (∀ (s : State) (w : SEWatch) (x : SetRec), s.live → s.working = true → s.path.se = some w → w.edgeTaken = false →
    s.getRec w.set = some x → ∃ t, exec .seLeadingEdge s = .next t ∧
      (∀ k : Fin 8, k ≠ w.set → t.getRec k = s.getRec k) ∧ t.sets.order = s.sets.order ∧
      t.path = { s.path with
        firstLen := none
        se := some { w with edgeTaken := true, window := none, stall := some ⟨s.now, s.path.stallLimit w.len⟩ } } ∧
      t.compiler = { s.compiler with state := .empty, current := none, contents := 0 } ∧
      t = { s with
        pins := { s.pins with se := true }, report := t.report, sets := t.sets, path := t.path, compiler := t.compiler
        delivery := t.delivery, run := { s.run with idle := t.run.idle } } ∧
      (∀ b, x.chosen = some b → ⟨w.set, none⟩ ∈ s.delivery.list →
        t.getRec w.set = some { x with state := .onBelt, place := .list } ∧ (s.compiler.state ≠ .stapleWait → t.report = s.report) ∧
        t.delivery = { s.delivery with
          g0 := if b = 0 then .bin0 else .belt
          g0Busy := some s.now
          list := s.delivery.list.map fun y =>
            if y = ⟨w.set, none⟩ then ⟨w.set, some ⟨targetOf b, ⟨s.now, s.path.deliveryLimit (targetOf b)⟩⟩⟩ else y }) ∧
      (⟨w.set, none⟩ ∉ s.delivery.list →
        t.getRec w.set = some { x with state := if x.chosen = none then .held else .readyToEject, place := .shelf } ∧
        t.delivery = { s.delivery with
          shelf := .occupied
          holdTimer := if x.chosen = none then some s.now else none
          compilerHold := if s.delivery.compilerHold = some w.set then none else s.delivery.compilerHold } ∧
        s.governed t ∧
        (x.chosen = none →
          s.handed ⟨.held, some x.slot.val, some x.jobNumber, some x.setOrdinal, some x.part⟩ none t))) ∧
  (∀ s : State, s.live → s.working = true → (s.path.se = none ∨ ∃ w, s.path.se = some w ∧ w.edgeTaken = true) →
    ∃ t, exec .seLeadingEdge s = .next t ∧ t.jams .unexpectedSet) ∧
  ∀ s : State, s.live → s.working = true → ∃ t, exec .seTrailingEdge s = .next t ∧
    t = { s with
      pins := { s.pins with se := false }
      path := { s.path with se := none }
      compiler := { s.compiler with ejectDrive := false, splitSheet := t.compiler.splitSheet }
      run := { s.run with idle := t.run.idle } } ∧
    (s.compiler.state ≠ .collecting ∨ s.compiler.splitSheet ≠ none ∨ s.path.buffer = [] →
      t.compiler.splitSheet = s.compiler.splitSheet)

/-- An arrival at S0 (R17, R20, R107, R108, R135, R136, R152, R153, R174): the oldest set travelling there leaves the list; its bin's jogger
is driven to its offset side, the bin's fill grows by its height, its reservation goes, and the bin counts it; its one DISPOSITION, and no
other, joins the outbound queue, in the place of a NOTICE at 48 records; the governor follows the bin; its job counts the outcome, and its
record is FREE. An arrival nothing matches declares UNEXPECTED SET.
The model's choices in it: log entries 17 and 49. -/
def Obligations.ArrivalsAreConfirmed : Prop :=
  (∀ (s : State) (e : ListEntry) (x : SetRec) (b : Fin 41), s.live → s.working = true → s.delivery.expecting .s0 = some e →
    s.getRec e.set = some x → x.chosen = some b →
    ∃ t, exec .s0Arrival s = .next t ∧
      t.bins[b] = { s.bins[b] with
        fill := min 9999 (s.bins[b].fill + x.height.getD 0)
        reserved := s.bins[b].reserved - x.height.getD 0
        count := min 65535 (s.bins[b].count + 1) } ∧
      (∀ k : Fin 41, k ≠ b → t.bins[k] = s.bins[k]) ∧
      t.delivery = { s.delivery with
        list := s.delivery.list.filter fun y => y.set ≠ e.set, jogger := if x.side = .none then none else some (b, x.side) } ∧
      s.dispositionJoins (.setDisp ⟨x.outcome, some b, x.slot, x.jobNumber, x.setOrdinal, x.part, x.compiled, x.height.getD 0, x.result,
        x.skip, x.side, x.broken, x.divert, s.binState b = .full⟩) t ∧ s.governed t ∧
      x.outcome = (if x.divert = some .purged then .purged else if x.divert = none then .delivered else .diverted) ∧
      t.getRec e.set = none ∧ t.sets.order = s.sets.order.filter (fun k => k ≠ e.set) ∧
      (∀ (k : Fin 8) (y : SetRec), k ≠ e.set → s.getRec k = some y → y.nextPart ≠ some e.set → t.getRec k = some y) ∧
      (s.jobs[x.slot].state ≠ .free → t.jobs[x.slot].counters = s.jobs[x.slot].counters.addOutcome x.outcome) ∧
      (∀ k : Fin 16, k ≠ x.slot → t.jobs[k] = s.jobs[k]) ∧
      t = { s with
        pins := { s.pins with s0 := true }, report := t.report, jobs := t.jobs, sets := t.sets, routes := t.routes, bins := t.bins
        delivery := t.delivery, run := { s.run with idle := t.run.idle } }) ∧
  ∀ s : State, s.live → s.working = true → s.delivery.expecting .s0 = none →
    ∃ t, exec .s0Arrival s = .next t ∧ t.jams .unexpectedSet

/-- The expiry of a late window, or of a stall timer with its sensor still covered, outside JAM (R44, R45, R59 to R62, R84, R137, R149): a
jam is declared at its sensor with everything a jam ends and everything it loses, in a sound part. A stall timer whose sensor is clear only
stops.
The model's choices in it: log entries 3, 44 and 46. -/
def Obligations.ExpiriesDeclareAJam : Prop :=
  ∀ s : State, s.live → s.run.op ≠ .jam → s.sets.sound → s.placesSound →
    let jams := fun (c : Instr) (kind : JamKind) (at_ : Sensor) (tick : Nat) =>
      ∃ t, exec c s = .next t ∧ s.jamDeclared kind tick t ∧ s.jamLosses kind at_ t
    let pathSensor : PathWindow → Sensor := fun w => match w with | .s2 => .s2 | .sc => .sc | .sr => .sr | .se => .se
    let deliverySensor : Target → Sensor := fun g => match g with | .s0 => .s0 | .te k => .te k
    (∀ w x, s.path.lateWindow w = some x → jams (.pathLateWindowExpiry w) .late (pathSensor w) (x.start + x.limit)) ∧
    (∀ g x, s.delivery.lateWindow g = some x → jams (.deliveryWindowExpiry g) .late (deliverySensor g) (x.start + x.limit)) ∧
    ∀ g x, s.path.stall g = some x →
      let covered := match g with | .s1 => s.pins.s1 | .s2 => s.pins.s2 | .se => s.pins.se
      let sensor : Sensor := match g with | .s1 => .s1 | .s2 => .s2 | .se => .se
      (covered = true → jams (.stallTimerExpiry g) .stall sensor (x.start + x.limit)) ∧
      (covered = false → ∃ t, exec (.stallTimerExpiry g) s = .next t ∧ t.path.stall g = none ∧
        t = { s with
          now := max s.now (x.start + x.limit)
          path := { s.path with s1 := t.path.s1, s2 := t.path.s2, se := t.path.se }
          run := { s.run with idle := t.run.idle } } ∧
        t.path.s1.map AtS1.id = s.path.s1.map AtS1.id ∧ t.path.s1.map AtS1.edge = s.path.s1.map AtS1.edge ∧
        t.path.s2.map AtS2.id = s.path.s2.map AtS2.id ∧ t.path.se.map SEWatch.set = s.path.se.map SEWatch.set)

/-! ## Finishing -/

/-- The start of a split eject (R18, R19, R70, R71): the part in the compiler is ejected with what has landed, unstapled; a FREE record
becomes its continuing part, with the sheets still to come, and with part 1's bin as its part bin, or that of the part it continues; the
path list and the forming set name the continuing part.
The model's choices in it: log entries 23 and 55. -/
def Obligations.SplitEjectDividesTheSet : Prop :=
  ∀ (s : State) (id : EntryName) (r : Fin 8) (x : SetRec), s.live → s.compiler.splitSheet = some id → s.compiler.state = .collecting →
    s.compiler.inFlight = 0 → s.compiler.current = some r → s.getRec r = some x → x.state = .forming ∨ x.state = .gathering →
    (∃ c : Fin 8, s.getRec c = none) →
    ∃ t, ∃ c : Fin 8, ∃ y z, exec .splitEjectStart s = .next t ∧ s.getRec c = none ∧ t.getRec r = some y ∧
      t.getRec c = some z ∧ (∀ k : Fin 8, k ≠ r → k ≠ c → t.getRec k = s.getRec k) ∧ t.sets.order = s.sets.order ++ [c] ∧
      y = { x with
        part := if x.part = 0 then 1 else x.part
        bound := x.compiled
        nextPart := some c
        decision := some (if x.pattern = .none then .notRequested else .skip)
        result := if x.pattern = .none then .notRequested else .skipped
        skip := if x.pattern = .none then none else some (if x.broken.isSome then .broken else .overLimit)
        height := some x.thickness
        chosen := y.chosen, divert := y.divert, side := y.side
        state := if y.chosen.isSome then .readyToEject else .held } ∧
      z = { x with
        part := (if x.part = 0 then 1 else x.part) + 1
        bound := x.bound - x.compiled
        compiled := 0, thickness := 0, allEligible := true, decision := none, result := .notRequested, skip := none
        height := none, chosen := none, nextPart := none, side := .none, place := .path
        partBin := z.partBin, divert := z.divert } ∧
      (x.part = 0 → y.chosen.isSome = true → z.partBin = y.chosen ∧ z.divert = y.divert) ∧
      (2 ≤ x.part ∨ y.chosen = none → z.partBin = x.partBin ∧ z.divert = x.divert) ∧
      t.compiler = { s.compiler with state := .splitEject, splitSheet := none } ∧
      t.path = { s.path with
        list := s.path.list.map fun e =>
          match e.body with
          | .bound q m snap => if q = r then { e with body := .bound c m snap } else e
          | .orphan _ => e } ∧
      t.binder = { s.binder with forming := if s.binder.forming = some r then some c else s.binder.forming } ∧
      t.stapler = s.stapler ∧ t.queue = s.queue ∧ t.jobs = s.jobs ∧
      (∀ b : Fin 41, t.bins[b].fill = s.bins[b].fill ∧ t.bins[b].count = s.bins[b].count)

/-- The end of the jog (R15, R69, R73, R80, R83). A set decided STAPLE or WAIT has the height T + 12, any other T; STAPLE begins the first
operation, and the governor follows the count; WAIT waits with the hold reason STAPLES and no bin choice, and any other decision leads to
EJECTING; a purged set leaves undecided for bin 0.
The model's choices in it: log entries 3 and 33. -/
def Obligations.JogEndDecidesTheSet : Prop :=
  ∀ (s : State) (start : Nat) (r : Fin 8) (x : SetRec), s.live → s.compiler.jog = some start → s.compiler.current = some r →
    s.getRec r = some x → x.chosen = none → ∃ t y, exec .jogEnd s = .next t ∧ t.now = max s.now (start + 150) ∧ t.compiler.jog = none ∧
      t.getRec r = some y ∧ t.path = s.path ∧ t.queue = s.queue ∧ t.jobs = s.jobs ∧ t.sets.order = s.sets.order ∧
      y.bound = x.bound ∧ y.compiled = x.compiled ∧ y.thickness = x.thickness ∧ y.broken = x.broken ∧
      (x.divert ≠ some .purged →
        y.decision = some (x.decide s.stapler).1 ∧ y.skip = (x.decide s.stapler).2 ∧
        y.result = (if (x.decide s.stapler).1 = .skip then .skipped else .notRequested) ∧
        ((x.decide s.stapler).1 = .staple → y.height = some (x.thickness + 12) ∧ y.state = .stapling ∧
          t.compiler = { s.compiler with jog := none, state := .stapling } ∧
          t.stapler = { s.stapler with
            state := .stapling, count := s.stapler.count - 1, drive := true, homeTimer := some t.now } ∧ s.governed t) ∧
        ((x.decide s.stapler).1 = .wait → y.height = some (x.thickness + 12) ∧ y.state = .stapleWait ∧ y.chosen = x.chosen ∧
          t.compiler = { s.compiler with jog := none, state := .stapleWait } ∧ t.stapler = s.stapler ∧ t.stands .staples ∧
          t.bins = s.bins) ∧
        ((x.decide s.stapler).1 ≠ .staple → (x.decide s.stapler).1 ≠ .wait → y.height = some x.thickness ∧
          y.state = (if y.chosen.isSome then .readyToEject else .held) ∧
          (y.chosen = none → t.delivery.compilerHold = some r) ∧
          t.compiler = { s.compiler with jog := none, state := .ejecting } ∧ t.stapler = s.stapler)) ∧
      (x.divert = some .purged → y.divert = some .purged ∧ y.chosen = some 0 ∧ y.state = .readyToEject ∧
        y.decision = x.decision ∧ y.height = some (x.height.getD x.thickness) ∧
        t.compiler = { s.compiler with jog := none, state := .ejecting } ∧ t.stapler = s.stapler)

/-- The staple decision (R72): STAPLE exactly for a set with a pattern that is whole, unsplit, at most 500 tu thick, eligible throughout,
and whose staples the stapler can give; WAIT exactly where the policy is WAIT and only the stapler stands against it; and the first reason
of R72's order is the one recorded, a set that waits recording none.
The model's choices in it: log entry 33. -/
def Obligations.StapleDecisionFollowsTheOrderOfItsConditions : Prop :=
  ∀ (p : Stapler) (x : SetRec),
    let able := p.state ≠ .fault ∧ p.state ≠ .empty ∧ p.state ≠ .noCartridge ∧ ¬ (p.state = .ready ∧ p.count < x.pattern.staples)
    let whole := x.broken = none ∧ x.part = 0 ∧ x.thickness ≤ 500 ∧ x.allEligible = true
    ((x.decide p).1 = .notRequested ↔ x.pattern = .none) ∧
    ((x.decide p).1 = .staple ↔ x.pattern ≠ .none ∧ whole ∧ able) ∧
    ((x.decide p).1 = .wait ↔ x.pattern ≠ .none ∧ whole ∧ ¬ able ∧ x.policy = .wait) ∧
    ((x.decide p).1 = .skip ↔ (x.decide p).2.isSome = true) ∧
    ((x.decide p).2 = some .broken ↔ x.pattern ≠ .none ∧ x.broken ≠ none) ∧
    ((x.decide p).2 = some .overLimit ↔ x.pattern ≠ .none ∧ x.broken = none ∧ (x.part ≠ 0 ∨ 500 < x.thickness)) ∧
    ((x.decide p).2 = some .media ↔
      x.pattern ≠ .none ∧ x.broken = none ∧ x.part = 0 ∧ x.thickness ≤ 500 ∧ x.allEligible = false) ∧
    ((x.decide p).2 = some .staplerFault ↔ x.pattern ≠ .none ∧ whole ∧ p.state = .fault ∧ x.policy = .degrade) ∧
    ((x.decide p).2 = some .noStaples ↔ x.pattern ≠ .none ∧ whole ∧ p.state ≠ .fault ∧ ¬ able ∧ x.policy = .degrade)

/-- The end of a staple operation of a set not purged (R76, R77, R80). The head home within 600 ms is a good staple: the second operation
begins where one is needed and nothing stands against it, LOW being given as the count falls below the threshold, and otherwise stapling
ends. A timeout makes the stapler FAULT with its notice and ends stapling. The result follows R77's table, and the set goes on to its eject.
The model's choices in it: log entries 3 and 9. -/
def Obligations.StapleOperationsEndInTheirResult : Prop :=
  ∀ (s : State) (start : Nat) (r : Fin 8) (x : SetRec), s.live → s.stapler.homeTimer = some start → s.compiler.current = some r →
    s.getRec r = some x → x.divert ≠ some .purged →
    let needed := if x.pattern = .edge2 then 2 else if x.pattern = .corner then 1 else 0
    let more := s.stapler.made + 1 < needed ∧ s.stapler.stopPending = false ∧ s.stapler.cartridge.state = some true ∧
      1 ≤ s.stapler.count
    let ended := fun (made : Nat) (t : State) =>
      t.compiler = { s.compiler with state := .ejecting } ∧ t.stapler.made = 0 ∧ t.stapler.stopPending = false ∧
        t.stapler.drive = false ∧ t.stapler.homeTimer = none ∧ t.stapler.count = s.stapler.count ∧
        t.getRec r = some { x with
          result := if needed ≤ made then .stapled else if made = 0 then .failed else .partly
          state := if x.chosen.isSome then .readyToEject else .held } ∧
        (∀ k : Fin 8, k ≠ r → t.getRec k = s.getRec k) ∧ t.bins = s.bins ∧ t.path = s.path
    (∃ t, exec .stapleHomeReturn s = .next t ∧ t.pins = { s.pins with home := t.pins.home } ∧
      (600 < s.now - start → t = { s with pins := { s.pins with home := true }, run := { s.run with idle := t.run.idle } }) ∧
      (s.now - start ≤ 600 → more → t.compiler = s.compiler ∧ t.sets = s.sets ∧
        t.stapler = { s.stapler with
          state := .stapling, count := s.stapler.count - 1, made := s.stapler.made + 1, homeTimer := some s.now, drive := true } ∧
        s.governed t ∧ (s.stapler.low ≤ s.stapler.count → s.stapler.count - 1 < s.stapler.low →
          s.handed ⟨.stapleLow, some (s.stapler.count - 1), some s.stapler.low, none, none⟩ none t) ∧
        (s.stapler.count < s.stapler.low ∨ s.stapler.low ≤ s.stapler.count - 1 → t.report.notice = s.report.notice)) ∧
      (s.now - start ≤ 600 → ¬ more → ended (s.stapler.made + 1) t ∧
        t.stapler.state = (if s.stapler.cartridge.state = some false then .noCartridge
          else if s.stapler.emptySensor.state = some true then .empty else .ready))) ∧
    ∃ t, exec .stapleHomeTimeout s = .next t ∧ t.now = max s.now (start + 600) ∧ ended s.stapler.made t ∧
      t.stapler.state = .fault ∧ t.latched .stapleFault

/-- Ejects, releases from the shelf and G0 (R44, R81, R125 to R127, R130): with no set at SE, in RUNNING or PAUSED, a set whose eject has
not started leaves, with a bin as the list, G0 and its tower take it and no shelf set goes first, without one as the shelf does; the SE
watch takes it with its 1000 ms window; a set whose eject has started makes no further test. A releasable shelf set goes onto the list
TRAVELLING, and the governor follows the shelf. G0 is free again when its gate time ends.
The model's choices in it: log entries 3 and 48. -/
def Obligations.SetsDepartWhenTheirPlaceIsFree : Prop :=
  let takes := fun (s : State) (b : Fin 41) => s.delivery.list.length < 3 ∧ s.delivery.g0Busy = none ∧
    ∀ k, towerOf b = some k → s.chain.towers[k].state = .ready
  (∀ (s : State) (r : Fin 8) (x : SetRec), s.live → s.working = true →
    s.compiler.state = .ejecting ∨ s.compiler.state = .splitEject → s.compiler.current = some r → s.getRec r = some x →
    s.path.se = none →
    let started := s.delivery.shelfSet = some r ∨ ∃ e ∈ s.delivery.list, e.set = r
    let goes := ¬ started ∧ ((x.chosen = none ∧ s.delivery.shelf = .free) ∨
      (s.shelfReady = none ∧ ∃ b, x.chosen = some b ∧ takes s b))
    (¬ goes → exec .ejectStart s = .next s.syncIdle) ∧
    (goes → ∃ t, exec .ejectStart s = .next t ∧
      t = { s with
        path := { s.path with se := some ⟨r, s.path.firstLen.getD 0, false, some ⟨s.now, 1000⟩, none⟩ }
        compiler := { s.compiler with ejectDrive := true }
        delivery :=
          if x.chosen = none then { s.delivery with shelf := .incoming, shelfSet := some r }
          else { s.delivery with list := s.delivery.list ++ [⟨r, none⟩] }
        run := { s.run with idle := t.run.idle } })) ∧
  (∀ (s : State) (r : Fin 8) (x : SetRec) (b : Fin 41), s.live → s.working = true → s.delivery.shelf = .occupied →
    s.delivery.shelfSet = some r → s.getRec r = some x → x.state = .readyToEject → x.chosen = some b → s.path.se = none →
    takes s b →
    ∃ t, exec .shelfRelease s = .next t ∧ t.getRec r = some { x with state := .onBelt, place := .list } ∧
      (∀ k : Fin 8, k ≠ r → t.getRec k = s.getRec k) ∧ t.sets.order = s.sets.order ∧ s.governed t ∧
      t = { s with
        report := { s.report with feed := t.report.feed, gov := t.report.gov }
        sets := t.sets
        delivery := { s.delivery with
          list := s.delivery.list ++ [⟨r, some ⟨targetOf b, ⟨s.now, s.path.deliveryLimit (targetOf b)⟩⟩⟩]
          shelf := .free, shelfSet := none, g0 := if b = 0 then .bin0 else .belt, g0Busy := some s.now }
        run := { s.run with idle := t.run.idle } }) ∧
  ∀ (s : State) (start : Nat), s.live → s.delivery.g0Busy = some start → ∃ t, exec .g0GateFree s = .next t ∧
    t = { s with
      now := max s.now (start + s.path.stallLimit 450), delivery := { s.delivery with g0Busy := none }
      run := { s.run with idle := t.run.idle } }

/-- Which bin a completed set is given at the end of its jog (R18, R19, R91 to R96, R105, R106, R108): bin 0, by the reason it carries,
BROKEN or NO ROUTE, without an admission test; a later part its part bin, a DEFAULT route its bin, FILL the first bin of the group, SEQUENCE
the first from the cursor, or from the group's first bin where the entry has been rewritten, each only where the bin admits the set; the bin
reserves its height and gives its offset side, SEQUENCE moves its cursor, and a set no bin admits has none.
The model's choices in it: log entry 57, for an equal generation after 256 writes. -/
def Obligations.BinChoiceTakesTheFirstAdmissibleBin : Prop :=
  ∀ (s : State) (start : Nat) (r : Fin 8) (x : SetRec), s.live → s.compiler.jog = some start → s.compiler.current = some r →
    s.getRec r = some x → x.chosen = none → x.part ≠ 1 → x.divert ≠ some .purged → (x.decide s.stapler).1 ≠ .wait →
    let h := if (x.decide s.stapler).1 = .staple then x.thickness + 12 else x.thickness
    let admits := fun b : Fin 41 =>
      let y := s.bins[b]
      ((s.binState b = .available ∨ s.binState b = .nearFull) ∧ y.fill + y.reserved + h ≤ y.capacity) ∨
        (y.capacity < h ∧ y.fill = 0 ∧ y.reserved = 0 ∧ y.present.state = some false ∧ s.binState b = .available)
    ∃ t y, exec .jogEnd s = .next t ∧ t.getRec r = some y ∧ y.height = some h ∧
      (let given := fun (b : Fin 41) (divert : Option DivertReason) => y.chosen = some b ∧ y.divert = divert ∧
        (∀ k : Fin 41, k ≠ b → t.bins[k] = s.bins[k]) ∧
        t.bins[b] = { s.bins[b] with
          reserved := s.bins[b].reserved + h
          nextSide := if x.offset = false then s.bins[b].nextSide else if s.bins[b].nextSide = .left then .right else .left } ∧
        y.side = if x.offset = false then .none else if s.bins[b].nextSide = .left then .left else .right
      let scans := fun (group : Fin 41 → Prop) (moves : Option (Fin 32)) =>
        (∀ b, group b → admits b → (∀ k, group k → k < b → ¬ admits k) → given b x.divert ∧
          t.routes = match moves with
            | some i => { s.routes with entries := s.routes.entries.set i { s.routes.entries[i] with cursor := b } }
            | none => s.routes) ∧
        ((∀ b, group b → ¬ admits b) → y.chosen = none ∧ y.divert = x.divert ∧ t.bins = s.bins ∧ t.routes = s.routes)
      if x.divert ≠ none then given 0 x.divert
      else if x.broken ≠ none then given 0 (some .broken)
      else if 2 ≤ x.part then scans (fun b => x.partBin = some b) none
      else
        match x.route with
        | .none => given 0 (some .noRoute) ∧ t.latched .noRoute
        | .default d => scans (fun b => b = d) none
        | .entry _ first last .fill _ => scans (fun b => first ≤ b ∧ b ≤ last) none
        | .entry i first last .sequence generation =>
          let e := s.routes.entries[i]
          if e.generation = generation ∧ first ≤ e.cursor ∧ e.cursor ≤ last then scans (fun b => e.cursor ≤ b ∧ b ≤ last) (some i)
          else scans (fun b => first ≤ b ∧ b ≤ last) none)

/-! ## Sensors and towers -/

/-- The five changes of a bin's sensors, with no set held (R109 to R112, R117, R122): an empty clears the fill and the count and gives
EMPTIED; the present sensor covered changes neither; the full sensor covered raises the fill to the capacity; clear, it is only recorded;
and with the present sensor covered it is a re-reference to C − M − 1, or 0. Reservations stay; OVERFLOW FULL and the governor follow a
changed fill; and a wake-enabled tower wakes the part from STANDBY. While an enumeration runs a tower's bin has no qualified change.
The model's choices in it: log entries 4, 14 and 20. -/
def Obligations.BinSensorsCorrectTheFill : Prop :=
  ∀ (s : State) (b : Fin 41), s.live →
    (s.noneHeld →
    (∀ k, towerOf b = some k → s.chain.towers[k].present = true ∧ s.chain.enum = none ∧
      s.chain.towers[k].power.state = some true) →
    let becomes := fun (c : Instr) (x : Bin) => ∃ t, exec c s = .next t ∧ t.bins[b] = x ∧
      (∀ k : Fin 41, k ≠ b → t.bins[k] = s.bins[k]) ∧
      t = { s with
        pins := if b = 0 then
            { s.pins with
              bin0Present := if x.present = s.bins[b].present then s.pins.bin0Present else decide (x.present.state = some true)
              bin0Full := if x.full = s.bins[b].full then s.pins.bin0Full else decide (x.full.state = some true) }
          else s.pins
        report := t.report, routes := t.routes, bins := t.bins, run := t.run } ∧
      (x.fill ≠ s.bins[b].fill ∨ x.full ≠ s.bins[b].full → s.governed t ∧ (t.stands .overflowFull ↔ t.binState 0 = .full)) ∧
      (s.run.op ≠ .standby → t.run = { s.run with idle := t.run.idle }) ∧
      (∀ k, towerOf b = some k → s.run.op = .standby →
        t.run.op = if s.chain.towers[k].wakeEnable then .waking else .standby) ∧
      (c = .binEmpty b → s.bins[b].present.state = some true → t.latched .binEmptied ∧
        ∀ k, towerOf b = some k → t.report.notice.towerFlags[k] = true)
    (s.bins[b].present.state = some true ∨ (s.bins[b].present.state = none ∧ 0 < s.bins[b].fill) →
      becomes (.binEmpty b) { s.bins[b] with present := ⟨some false, some false, 0⟩, fill := 0, count := 0, nextSide := .left }) ∧
    (s.bins[b].present.state = none → s.bins[b].fill = 0 →
      becomes (.binEmpty b) { s.bins[b] with present := ⟨some false, some false, 0⟩ }) ∧
    (s.bins[b].present.state ≠ some true →
      becomes (.binPresentCovered b) { s.bins[b] with present := ⟨some true, some true, 0⟩ }) ∧
    (s.bins[b].full.state ≠ some true →
      becomes (.binFullSensorCovered b)
        { s.bins[b] with full := ⟨some true, some true, 0⟩, fill := max s.bins[b].fill s.bins[b].capacity }) ∧
    (s.bins[b].full.state = none ∨ (s.bins[b].full.state = some true ∧ s.bins[b].present.state ≠ some true) →
      becomes (.binFullSensorClear b) { s.bins[b] with full := ⟨some false, some false, 0⟩ }) ∧
    (s.bins[b].full.state = some true → s.bins[b].present.state = some true →
      becomes (.reReference b)
        { s.bins[b] with full := ⟨some false, some false, 0⟩, fill := s.bins[b].capacity - s.bins[b].margin - 1 })) ∧
    (b ≠ 0 → s.chain.enum ≠ none → ∀ c ∈ [Instr.binEmpty b, .binPresentCovered b, .binFullSensorCovered b, .binFullSensorClear b,
      .reReference b], exec c s = .next s.syncIdle)

/-- The bin events with sets HELD (R97, R113, R114, R119, R131, R132): an empty, a re-reference, a write of the bin that enables it, raises
its C or lowers its M, and its tower becoming READY. The shelf set, a candidate of the bin, takes the first bin of its FILL group that
admits it as the bins now stand, is READY TO EJECT, and its hold timer stops; where none admits it, it stays HELD with its timer. Of two
sets whose DEFAULT route names the bin, the one on the shelf is served before the one in the compiler, which finds the reservation made. A
write that makes no bin roomier leaves every set as it was.
The model's choices in it: log entry 35. -/
def Obligations.BinEventsReevaluateTheHeldSets : Prop :=
  ∀ (s : State) (b : Fin 41) (r : Fin 8) (x : SetRec), s.live → s.delivery.shelf = .occupied → s.delivery.shelfSet = some r →
    s.getRec r = some x → x.state = .held → x.chosen = none → x.divert = none → x.broken = none → x.part = 0 →
    let reevaluates := fun (c : Instr) (u : State) =>
      let admits := fun (h reserved : Nat) (k : Fin 41) =>
        let y := u.bins[k]
        ((u.binState k = .available ∨ u.binState k = .nearFull) ∧ y.fill + reserved + h ≤ y.capacity) ∨
          (y.capacity < h ∧ y.fill = 0 ∧ reserved = 0 ∧ y.present.state = some false ∧ u.binState k = .available)
      let given := fun (q : Fin 8) (z : SetRec) (k : Fin 41) (t : State) => ∃ y, t.getRec q = some y ∧
        y = { z with state := .readyToEject, chosen := some k, side := y.side }
      (∀ i first last generation, x.route = .entry i first last .fill generation → first ≤ b → b ≤ last →
        s.delivery.compilerHold = none → ∃ t, exec c s = .next t ∧
          (∀ q : Fin 8, q ≠ r → t.getRec q = s.getRec q) ∧
          (∀ k, first ≤ k → k ≤ last → admits (x.height.getD 0) u.bins[k].reserved k →
            (∀ j, first ≤ j → j < k → ¬ admits (x.height.getD 0) u.bins[j].reserved j) →
            given r x k t ∧ t.delivery = { s.delivery with holdTimer := none } ∧
            t.bins[k].reserved = s.bins[k].reserved + x.height.getD 0 ∧ ∀ j : Fin 41, j ≠ k → t.bins[j] = u.bins[j]) ∧
          ((∀ k, first ≤ k → k ≤ last → ¬ admits (x.height.getD 0) u.bins[k].reserved k) →
            t.getRec r = some x ∧ t.delivery = s.delivery ∧ t.bins = u.bins)) ∧
      ∀ q z, x.route = .default b → s.delivery.compilerHold = some q → q ≠ r → s.getRec q = some z → z.state = .held →
        z.chosen = none → z.divert = none → z.broken = none → z.part = 0 → z.route = .default b →
        let first := admits (x.height.getD 0) s.bins[b].reserved b
        ∃ t, ∃ standing : Nat, exec c s = .next t ∧
          (first → standing = s.bins[b].reserved + x.height.getD 0) ∧ (¬ first → standing = s.bins[b].reserved) ∧
          (first → given r x b t ∧ t.delivery.holdTimer = none) ∧ (¬ first → t.getRec r = some x) ∧
          (admits (z.height.getD 0) standing b → given q z b t ∧ t.delivery.compilerHold = none ∧
            t.bins[b].reserved = standing + z.height.getD 0) ∧
          (¬ admits (z.height.getD 0) standing b → t.getRec q = some z ∧ t.delivery.compilerHold = some q ∧
            t.bins[b].reserved = standing)
    let binNow := fun (y : Bin) => { s with bins := s.bins.set b y }
    let clear : Qual := ⟨some false, some false, 0⟩
    let sampled := ∀ k, towerOf b = some k → s.chain.towers[k].state = .ready ∧ s.chain.enum = none
    (sampled → s.bins[b].present.state = some true →
      reevaluates (.binEmpty b) (binNow { s.bins[b] with present := clear, fill := 0, count := 0, nextSide := .left })) ∧
    (sampled → s.bins[b].present.state = some true → s.bins[b].full.state = some true →
      reevaluates (.reReference b) (binNow { s.bins[b] with full := clear, fill := s.bins[b].capacity - s.bins[b].margin - 1 })) ∧
    (∀ tag rest y, s.run.op ≠ .starting → tableBody binEntries rest = some (b.val, [y]) → y.enabled.toNat ≤ 1 →
      let written := { s.bins[b] with capacity := min 9999 y.capacity, margin := min 9999 y.margin, enabled := y.enabled = 1 }
      let roomier := (s.bins[b].enabled = false ∧ written.enabled = true) ∨ s.bins[b].capacity < written.capacity ∨
        written.margin < s.bins[b].margin
      (roomier → reevaluates (.binWrite tag rest) (binNow written)) ∧
      (¬ roomier → ∃ t, exec (.binWrite tag rest) s = .next t ∧ t.sets = s.sets ∧ t.delivery = s.delivery ∧
        t.bins = (binNow written).bins)) ∧
    ∀ k i, towerOf b = some k → s.chain.towers[k].present = true → s.chain.enum = none →
      (s.chain.towers[k].input i).state ≠ some true → (s.chain.towers[k].setInput i ⟨some true, some true, 0⟩).state = .ready →
      reevaluates (.towerInputChange k i true)
        { s with chain := { s.chain with
          towers := s.chain.towers.set k (s.chain.towers[k].setInput i ⟨some true, some true, 0⟩) } }

/-- The cartridge and the reject tray (R74, R75, R78, R79, R150, R152, R153, R157 to R160): an insertion fills the stapler, or leaves it
EMPTY under a covered empty sensor, clears a FAULT, and starts the stapling of a waiting set; a removal and an empty cartridge set the count
to 0, and while STAPLING only mark it to stop; the first qualification as absent changes nothing else; each cause is latched, gated, and
parked or queued; the governor follows the count and the near-full sensor; REJECT FULL stands while its sensor is covered.
The model's choices in it: log entries 4, 9 and 20. -/
def Obligations.CartridgeAndRejectSensorsAct : Prop :=
  ∀ s : State, s.live →
    let q := fun (v : Bool) => (⟨some v, some v, 0⟩ : Qual)
    let covered := s.stapler.emptySensor.state = some true
    let busy := s.stapler.state = .stapling
    let changes := fun (c : Instr) (p : Stapler) (pins : Pins) (notice : Option Notice) => ∃ t, exec c s = .next t ∧
      (∀ n, notice = some n → s.handed n none t ∧ s.governed t) ∧ (notice = none → t.report = s.report) ∧
      t = { s with pins := pins, report := t.report, stapler := p, run := { s.run with idle := t.run.idle } }
    let fitted := fun (v : Bool) => { s.pins with cartridge := v }
    let emptied := fun (v : Bool) => { s.pins with emptySensor := v }
    (s.stapler.cartridge.state ≠ some true → s.compiler.state ≠ .stapleWait →
      changes .cartridgeInsertion { s.stapler with
        cartridge := q true, count := if covered then 0 else 5000
        state := if busy then .stapling else if covered then .empty else .ready } (fitted true)
        (some ⟨.stapleInserted, some (if covered then 0 else 5000), some 0, none, none⟩)) ∧
    (∀ r x, s.stapler.cartridge.state ≠ some true → s.compiler.state = .stapleWait → s.compiler.current = some r →
      s.getRec r = some x → ¬ covered → ¬ busy → ∃ t y, exec .cartridgeInsertion s = .next t ∧ t.latched .stapleInserted ∧
        ¬ t.stands .staples ∧ t.compiler = { s.compiler with state := .stapling } ∧ t.getRec r = some y ∧
        y.decision = some .staple ∧ y.state = .stapling ∧ y.height = x.height ∧
        t.stapler = { s.stapler with
          cartridge := q true, count := 4999, state := .stapling, drive := true, homeTimer := some s.now }) ∧
    (s.stapler.cartridge.state = some true →
      changes .cartridgeRemoval { s.stapler with
        cartridge := q false, count := 0, state := if busy then .stapling else .noCartridge
        stopPending := if busy then true else s.stapler.stopPending } (fitted false)
        (some ⟨.stapleRemoved, some s.stapler.count, none, none, none⟩)) ∧
    (s.stapler.cartridge.state = none →
      changes .cartridgeRemoval { s.stapler with cartridge := q false } (fitted false) none) ∧
    (¬ covered → changes .cartridgeEmptyCovered { s.stapler with
      emptySensor := q true, count := 0, state := if s.stapler.state = .ready then .empty else s.stapler.state
      stopPending := if busy then true else s.stapler.stopPending } (emptied true)
      (some ⟨.stapleEmpty, some s.stapler.count, none, none, none⟩)) ∧
    (s.stapler.emptySensor.state ≠ some false →
      changes .cartridgeEmptyClear { s.stapler with emptySensor := q false } (emptied false) none) ∧
    (∀ v, s.rejectNear.state ≠ some v → ∃ t, exec (.rejectNearFullChange v) s = .next t ∧ s.governed t ∧
      t = { s with
        pins := { s.pins with rejectNear := v }
        rejectNear := q v, report := { s.report with feed := t.report.feed, gov := t.report.gov }
        run := { s.run with idle := t.run.idle } }) ∧
    (∀ v, s.rejectFull.state ≠ some v → ∃ t, exec (.rejectFullChange v) s = .next t ∧
      t = { s with
        pins := { s.pins with rejectFull := v }
        rejectFull := q v, report := { s.report with feed := t.report.feed }, run := { s.run with idle := t.run.idle } } ∧
      (t.stands .rejectFull ↔ v = true))

/-- Polls and inputs of a present tower with no enumeration running (R107, R109 to R112, R117 to R122, R135, R152, R153): a good reply
clears the missed polls, keeps its TEt level, and gives each input of the tower, and of its bins unless the tower is UNPOWERED, one sample.
With no arrival and no set held or on its way there, each bin follows its samples, a first or renewed clear present sensor being an empty
and a clear full sensor after a covered one a re-reference; a change wakes a wake-enabled tower's part from STANDBY, and nothing else
changes but reports and cursors. Each cause of a change is latched, and a supply or a door lost with a set on its way is a jam. Where the
samples change nothing, an arrival confirms the set travelling there with its fill and its DISPOSITION, and one that nothing matches is a
jam. A missed poll counts, and the third loses the tower. A qualified change of an input is recorded, its cause latched, gated, and parked
or queued where the tower's state changes, and the governor follows it; a door opened on a set on its way is a jam; while an enumeration
runs no poll and no input does anything.
The model's choices in it: log entries 4, 13, 14, 15, 51, and 49 for the jogger at a confirmed arrival. -/
def Obligations.TowerPollsAndInputsAct : Prop :=
  ∀ (s : State) (k : Fin 4), s.live → s.chain.towers[k].present = true →
    let tower := s.chain.towers[k]
    let wakes := s.run.op = .standby ∧ tower.wakeEnable = true
    let woken := fun (t : State) =>
      t.run = { s.run with op := .waking, wake := some s.now, standby := none, idle := none } ∧ t.stands .wake
    (s.chain.enum ≠ none → (∀ reply, exec (.towerPollReply k reply) s = .next s.syncIdle) ∧
      exec (.towerPollMissed k) s = .next s.syncIdle ∧ ∀ i v, exec (.towerInputChange k i v) s = .next s.syncIdle) ∧
    (s.chain.enum = none →
    (∀ reply : PollReply,
      let sampled := fun (q : Qual) (v : Bool) =>
        if q.state = some v then (⟨some v, some v, 0⟩ : Qual)
        else
          let run := if q.last = some v then min 127 (q.run + 1) else 1
          if s.qualCount ≤ run then ⟨some v, some v, 0⟩ else ⟨q.state, some v, run⟩
      let power := sampled tower.power reply.powerOn
      let door := sampled tower.door reply.doorClosed
      let between := if reply.doorFirst then { tower with door := door } else { tower with power := power }
      let ofPower := inputCause .power reply.powerOn
      let ofDoor := inputCause .door reply.doorClosed
      let presentSampled := fun (v : Bool) (x : Bin) =>
        let q := sampled x.present v
        if q.state = some false ∧ (x.present.state = some true ∨ (x.present.state = none ∧ 0 < x.fill)) then
          { x with present := q, fill := 0, count := 0, nextSide := .left }
        else { x with present := q }
      let fullSampled := fun (v : Bool) (x : Bin) =>
        let q := sampled x.full v
        { x with
          full := q
          fill :=
            if q.state = x.full.state then x.fill
            else if v then max x.fill x.capacity
            else if x.full.state = some true ∧ x.present.state = some true then x.capacity - x.margin - 1
            else x.fill }
      let binSampled := fun (i : Fin 10) =>
        let x := s.bins[binAt k i]
        let p := reply.presentCovered.getLsbD i.val
        let f := reply.fullCovered.getLsbD i.val
        if tower.state = .unpowered then x
        else if reply.fullFirst then presentSampled p (fullSampled f x) else fullSampled f (presentSampled p x)
      let binChanges := fun (i : Fin 10) => (binSampled i).present.state ≠ s.bins[binAt k i].present.state ∨
        (binSampled i).full.state ≠ s.bins[binAt k i].full.state
      let changes := power.state ≠ tower.power.state ∨ door.state ≠ tower.door.state ∨ ∃ i, binChanges i
      let cut := (power.state = some false ∧ tower.power.state ≠ some false) ∨
        (door.state = some false ∧ tower.door.state ≠ some false)
      ∃ t, exec (.towerPollReply k reply) s = .next t ∧
        t.chain = { s.chain with towers := s.chain.towers.set k { tower with
          missed := 0, lastGood := true, answered := true, teCovered := reply.teCovered, power := power, door := door } } ∧
        (between.state ≠ tower.state → t.latched (if reply.doorFirst then ofDoor else ofPower)) ∧
        ({ tower with power := power, door := door }.state ≠ between.state →
          t.latched (if reply.doorFirst then ofPower else ofDoor)) ∧
        (reply.arrivals = 0 → s.noneHeld →
          (s.listHolds k = true → cut → s.run.op ≠ .jam → t.jams .towerDoor) ∧
          (s.listHolds k = false ∨ ¬ cut →
            t = { s with report := t.report, chain := t.chain, routes := t.routes, bins := t.bins, run := t.run } ∧
            (∀ i : Fin 10, t.bins[binAt k i] = binSampled i) ∧
            (∀ b : Fin 41, towerOf b ≠ some k → t.bins[b] = s.bins[b]) ∧
            (wakes → changes → woken t) ∧ (¬ (wakes ∧ changes) → t.run = { s.run with idle := t.run.idle }) ∧
            (¬ changes → t.report = s.report ∧ t.routes = s.routes) ∧
            ∀ i : Fin 10, (binSampled i).present.state = some false → s.bins[binAt k i].present.state = some true →
              t.latched .binEmptied ∧ t.report.notice.towerFlags[k] = true)) ∧
        (¬ changes → reply.arrivals = 1 → s.working = true →
          (s.delivery.expecting (.te k) = none → t.jams .unexpectedSet) ∧
          ∀ e x b, s.delivery.expecting (.te k) = some e → s.getRec e.set = some x → x.chosen = some b →
            t.getRec e.set = none ∧ t.run.op = s.run.op ∧
            t.delivery = { s.delivery with
              list := s.delivery.list.filter fun y => y.set ≠ e.set, jogger := if x.side = .none then none else some (b, x.side) } ∧
            t.bins[b].fill = min 9999 (s.bins[b].fill + x.height.getD 0) ∧
            t.bins[b].reserved = s.bins[b].reserved - x.height.getD 0 ∧ t.bins[b].count = min 65535 (s.bins[b].count + 1) ∧
            s.governed t ∧
            s.dispositionJoins (.setDisp ⟨x.outcome, some b, x.slot, x.jobNumber, x.setOrdinal, x.part, x.compiled, x.height.getD 0,
              x.result, x.skip, x.side, x.broken, x.divert, s.binState b = .full⟩) t)) ∧
    (∃ t, exec (.towerPollMissed k) s = .next t ∧
      t.chain.towers[k].missed = min 3 (tower.missed + 1) ∧ t.chain.towers[k].lastGood = false ∧
      (∀ j : Fin 4, j ≠ k → t.chain.towers[j] = s.chain.towers[j]) ∧
      (tower.missed < 2 → t = { s with chain := t.chain, run := { s.run with idle := t.run.idle } } ∧
        t.chain.towers[k].present = true) ∧
      (2 ≤ tower.missed → t.chain.towers[k].state = .absent ∧ t.latched .towerLost ∧
        (∀ b : Fin 41, t.bins[b].fill = s.bins[b].fill ∧ (towerOf b = some k → t.bins[b].present.state = none ∧
          t.bins[b].full.state = none)) ∧
        (s.run.op ≠ .jam → s.listHolds k = true → t.jams .towerLost) ∧
        (s.listHolds k = false → t.run.op = s.run.op ∧ t.sets = s.sets ∧ t.delivery = s.delivery ∧ s.governed t ∧
          s.handed ⟨.towerLost, some (k.val + 1), some TowerState.absent.code, none, none⟩ (some k) t))) ∧
    ∀ (i : TowerInput) (v : Bool), (tower.input i).state ≠ some v →
      let after := tower.setInput i ⟨some v, some v, 0⟩
      let stops := v = false ∧ s.listHolds k = true
      ∃ t, exec (.towerInputChange k i v) s = .next t ∧ t.chain = { s.chain with towers := s.chain.towers.set k after } ∧
        (after.state ≠ tower.state → t.latched (inputCause i v)) ∧
        (stops → s.run.op ≠ .jam → t.jams .towerDoor) ∧
        (¬ stops → s.governed t ∧ (wakes → woken t) ∧ (¬ wakes → t.run = { s.run with idle := t.run.idle }) ∧
          (after.state ≠ tower.state → after.state ≠ .ready →
            s.handed ⟨inputCause i v, some (k.val + 1), some after.state.code, none, none⟩ (some k) t)) ∧
        ∀ b : Fin 41, t.bins[b].fill = s.bins[b].fill ∧ t.bins[b].full = s.bins[b].full ∧ t.bins[b].present = s.bins[b].present)

/-! ## Timers of the Run Controller and the governor -/

/-- The Run Controller's and the governor's timers at their limits (R144 to R147, R153): the spin-up ends; 2 s of idleness lead to READY;
the standby delay, unless it is 0, to STANDBY; the wake time to RUNNING with spin-up or to READY; and the governor's raised flips, GOVERNOR
following it. Whatever the command, the idle timer of RUNNING starts as the part becomes idle, runs on from there, and stops as it no longer
is, or as the state is left.
The model's choices in it: log entries 3, 50, and 53 for the SE watch and the eject drive as the part enters READY. -/
def Obligations.TimersChangeTheOperatingState : Prop :=
  ∀ (s : State) (start : Nat), s.live →
    (s.run.spinUp = some start → ∃ t, exec .spinUpEnd s = .next t ∧
      t = { s with
        now := max s.now (start + 400), report := { s.report with feed := t.report.feed }
        run := { s.run with spinUp := none, idle := t.run.idle } } ∧
      ¬ t.stands .spinUp ∧ ∀ r, r ≠ .spinUp → (t.stands r ↔ s.stands r)) ∧
    (s.run.idle = some start → ∃ t, exec .idleTimerExpiry s = .next t ∧
      t = { s with
        now := max s.now (start + 2000)
        run := { s.run with op := .ready, standby := some (max s.now (start + 2000)), idle := none } }) ∧
    (s.run.standby = some start → ∃ t, exec .standbyTimerExpiry s = .next t ∧
      (s.run.standbyDelay = 0 → t = { s with run := { s.run with idle := t.run.idle } }) ∧
      (s.run.standbyDelay ≠ 0 → t = { s with
        now := max s.now (start + s.run.standbyDelay * 60000)
        run := { s.run with op := .standby, standby := none, idle := none } })) ∧
    (s.run.wake = some start → ∃ t, exec .wakeTimerEnd s = .next t ∧
      t = { s with
        now := max s.now (start + 500), report := { s.report with feed := t.report.feed }
        run := { s.run with
          op := t.run.op, wake := none, spinUp := t.run.spinUp, standby := t.run.standby, idle := t.run.idle } } ∧
      ¬ t.stands .wake ∧
      ((∃ i : Fin 16, s.jobs[i].state ≠ .free) → t.run.op = .running ∧ t.run.spinUp = some t.now ∧ t.run.standby = none ∧
        t.stands .spinUp) ∧
      ((∀ i : Fin 16, s.jobs[i].state = .free) → t.run.op = .ready ∧ t.run.standby = some t.now ∧
        t.run.spinUp = s.run.spinUp)) ∧
    (s.report.gov.timer = some start → ∃ t, exec .governorTimerExpiry s = .next t ∧
      t = { s with
        now := max s.now (start + s.report.gov.d * 100)
        report := { s.report with
          feed := t.report.feed, gov := { s.report.gov with raised := !s.report.gov.raised, timer := none } }
        run := { s.run with idle := t.run.idle } } ∧
      (t.stands .governor ↔ s.report.gov.raised = false) ∧ ∀ r, r ≠ .governor → (t.stands r ↔ s.stands r)) ∧
    ∀ (c : Instr) (t : State), s.runSound → exec c s = .next t →
      (t.run.op = .running → t.standsIdle → t.run.idle = some (s.run.idle.getD t.now)) ∧
      (t.run.op ≠ .running ∨ ¬ t.standsIdle → t.run.idle = none)

/-! ## Invariants that every step keeps -/

/-- Every step keeps the Descriptor Queue sound: at most 16 positions, debt only while it is full, an owed seq only with debt, the
watermark in its range (R22, R28, R29, R31). -/
def Obligations.StepKeepsTheDescriptorQueueSound : Prop := ∀ s t : State, s.queue.sound → step s = .next t → t.queue.sound

/-- Every step keeps the outbound side sound: at most 48 records, BACKLOG exactly from 16 on, and the FEED last placed in agreement with
the hold reasons that stand (R150, R151, R173, R174). -/
def Obligations.StepKeepsTheReportsSound : Prop := ∀ s t : State, s.report.sound → step s = .next t → t.report.sound

/-- Every step keeps the path list, the entry buffer and the delivery list within their bounds, with the path list's entries told apart
(R48, R50, R52, R125, R126), fills, capacities, staples and job counters within their ranges (R6, R80, R102, R106, R107, R111), and the
inputs of a tower that is not present unqualified (R116 to R118). -/
def Obligations.StepKeepsThePlacesAndAmountsSound : Prop :=
  ∀ s t : State, step s = .next t → (s.placesSound → t.placesSound) ∧ (s.amountsSound → t.amountsSound) ∧ (s.chainSound → t.chainSound)

/-- Every step keeps the Set Table sound: the allocation order lists exactly the records in use, each once (R11, R20, R62), and no record
names a FREE slot (R7). -/
def Obligations.StepKeepsTheSetTableSound : Prop :=
  ∀ s t : State, step s = .next t → (s.sets.sound → t.sets.sound) ∧ (s.slotsHeld → t.slotsHeld)

/-- Every step keeps each bin's reserved height the sum of the heights of the unconfirmed sets whose chosen bin it is (R106). -/
def Obligations.StepKeepsTheReservationsExact : Prop := ∀ s t : State, s.reservedExactly → step s = .next t → t.reservedExactly

/-- Every step keeps each of the thirteen hold reasons standing exactly with its condition (R150), and with them the Run Controller's timers
in their own states, the idle timer in RUNNING exactly while the part is idle (R145 to R147), in a part whose Set Table and Descriptor Queue
are sound; and it keeps the governor's combination that of its conditions, with its timer running exactly while raised differs from it
(R152 to R154), in a part whose absent towers' inputs are unqualified. -/
def Obligations.StepKeepsTheHoldReasonsAndTheGovernorExact : Prop :=
  ∀ s t : State, step s = .next t →
    (s.sets.sound → s.queue.sound → s.runSound → s.reasonsExact → t.runSound ∧ t.reasonsExact) ∧
    (s.chainSound → s.governorSound → t.governorSound)

/-- The state after reset meets every one of these invariants. -/
def Obligations.ResetMeetsTheInvariants : Prop :=
  let s := State.reset
  s.queue.sound ∧ s.report.sound ∧ s.placesSound ∧ s.amountsSound ∧ s.chainSound ∧ s.sets.sound ∧ s.slotsHeld ∧ s.reservedExactly ∧
    s.runSound ∧ s.reasonsExact ∧ s.governorSound
end

