-- ==== Sys2Proof/Laws/Clock.lean ====
section
/-! SUPPORT. What a sample, a tick's polls and the tick itself can do, and what stopping a stall timer does. -/

namespace Sys2Proof.Machine

/-! ## The clock -/

/-- A sample touches the qualified inputs of the main unit and the tick of the last sample, and nothing else. -/
theorem State.takeSample_frame (s : State) : s.takeSample = { s with
    bins := s.takeSample.bins, rejectNear := s.takeSample.rejectNear, rejectFull := s.takeSample.rejectFull
    stapler := { s.stapler with cartridge := s.takeSample.stapler.cartridge, emptySensor := s.takeSample.stapler.emptySensor }
    lastSample := s.takeSample.lastSample } := by
  unfold State.takeSample; split <;> rfl

/-- A sample changes no bin but the qualifiers of bin 0. -/
theorem State.takeSample_bins (b : Fin 41) (s : State) : s.takeSample.bins[b] = { s.bins[b] with
    present := s.takeSample.bins[b].present, full := s.takeSample.bins[b].full } ∧ (b ≠ 0 → s.takeSample.bins[b] = s.bins[b]) := by
  unfold State.takeSample
  split
  · by_cases h : b = 0
    · subst h; simp
    · have : (0 : Nat) ≠ b.val := fun k => h (Fin.ext k.symm)
      simp [this]
  · simp

/-- A tick's polls set the poll timers and the marks of an answer, and nothing else. -/
theorem State.makePolls_tower (t : Fin 4) (s : State) : s.makePolls.chain.towers[t] = { s.chain.towers[t] with
    poll := s.makePolls.chain.towers[t].poll, answered := s.makePolls.chain.towers[t].answered } := by
  have : s.makePolls.chain.towers[t] = s.pollTower t := by simp [State.makePolls]
  rw [this]; unfold State.pollTower
  simp only; split <;> rfl

theorem State.makePolls_frame (s : State) :
    s.makePolls = { s with chain := { s.chain with towers := s.makePolls.chain.towers } } := rfl

@[simp] theorem State.tick_now (s : State) : s.tick.now = s.now + 1 := by
  unfold State.tick State.advance
  split
  · rfl
  · show s.takeSample.makePolls.now + 1 = _
    rw [State.makePolls_frame, State.takeSample_frame]

@[simp] theorem State.tick_pending (s : State) : s.tick.pending = s.pending := by
  unfold State.tick State.advance
  split
  · rfl
  · show s.takeSample.makePolls.pending = _
    rw [State.makePolls_frame, State.takeSample_frame]

/-! ## Stall timers -/

@[simp] theorem PathMonitor.stopStall_stall (w k : StallSensor) (p : PathMonitor) :
    (p.stopStall w).stall k = if k = w then none else p.stall k := by
  cases w <;> cases k <;> simp [PathMonitor.stopStall, PathMonitor.stall]

@[simp] theorem PathMonitor.stopStall_lists (w : StallSensor) (p : PathMonitor) :
    (p.stopStall w).list = p.list ∧ (p.stopStall w).buffer = p.buffer ∧ (p.stopStall w).timing = p.timing ∧
      (p.stopStall w).firstLen = p.firstLen := by
  cases w <;> exact ⟨rfl, rfl, rfl, rfl⟩

end Sys2Proof.Machine
end

