-- ==== Sys2Proof/Laws/Frames.lean ====
section
/-! SUPPORT. What each shared operation of Machine/Ops.lean leaves alone: one theorem per operation, each of its clauses a simp rule. -/

namespace Sys2Proof.Machine

/-- What every step of a fold leaves alone, the fold leaves alone. -/
theorem foldl_keeps {α β γ : Type} (g : β → γ) (f : β → α → β) (h : ∀ b a, g (f b a) = g b) (l : List α) (b : β) :
    g (l.foldl f b) = g b := by
  induction l generalizing b with
  | nil => rfl
  | cons a l ih => rw [List.foldl_cons, ih, h]

/-- What a choice and the cursor's move leave alone, a scan leaves alone. -/
theorem State.scan_keeps {γ : Type} (g : State → γ) (r : Fin 8) (h : Nat) (bins : List (Fin 41)) (m : Fin 41 → State → State)
    (hm : ∀ b s, g (m b s) = g s) (hc : ∀ b s, g (State.choose r b s) = g s) (s : State) : g (s.scan r h bins m) = g s := by
  unfold State.scan
  split
  · rw [hm, hc]
  · rfl

@[simp] theorem State.raise_frame (r : Reason) (s : State) :
    (s.raise r).now = s.now ∧ (s.raise r).pending = s.pending ∧ (s.raise r).draws = s.draws ∧ (s.raise r).pins = s.pins ∧
    (s.raise r).run = s.run ∧ (s.raise r).jobs = s.jobs ∧ (s.raise r).media = s.media ∧ (s.raise r).queue = s.queue ∧
    (s.raise r).binder = s.binder ∧ (s.raise r).sets = s.sets ∧ (s.raise r).path = s.path ∧ (s.raise r).compiler = s.compiler ∧
    (s.raise r).stapler = s.stapler ∧ (s.raise r).routes = s.routes ∧ (s.raise r).bins = s.bins ∧ (s.raise r).chain = s.chain ∧
    (s.raise r).delivery = s.delivery ∧ (s.raise r).qualCount = s.qualCount ∧ (s.raise r).rejectNear = s.rejectNear ∧
    (s.raise r).rejectFull = s.rejectFull ∧
    (s.raise r).lastSample = s.lastSample := by
  and_intros <;> rfl

@[simp] theorem State.drop_frame (r : Reason) (s : State) :
    (s.drop r).now = s.now ∧ (s.drop r).pending = s.pending ∧ (s.drop r).draws = s.draws ∧ (s.drop r).pins = s.pins ∧
    (s.drop r).run = s.run ∧ (s.drop r).jobs = s.jobs ∧ (s.drop r).media = s.media ∧ (s.drop r).queue = s.queue ∧
    (s.drop r).binder = s.binder ∧ (s.drop r).sets = s.sets ∧ (s.drop r).path = s.path ∧ (s.drop r).compiler = s.compiler ∧
    (s.drop r).stapler = s.stapler ∧ (s.drop r).routes = s.routes ∧ (s.drop r).bins = s.bins ∧ (s.drop r).chain = s.chain ∧
    (s.drop r).delivery = s.delivery ∧ (s.drop r).qualCount = s.qualCount ∧ (s.drop r).rejectNear = s.rejectNear ∧
    (s.drop r).rejectFull = s.rejectFull ∧
    (s.drop r).lastSample = s.lastSample := by
  and_intros <;> rfl

@[simp] theorem State.setReason_frame (r : Reason) (c : Bool) (s : State) :
    (s.setReason r c).now = s.now ∧ (s.setReason r c).pending = s.pending ∧ (s.setReason r c).draws = s.draws ∧
    (s.setReason r c).pins = s.pins ∧ (s.setReason r c).run = s.run ∧ (s.setReason r c).jobs = s.jobs ∧
    (s.setReason r c).media = s.media ∧ (s.setReason r c).queue = s.queue ∧ (s.setReason r c).binder = s.binder ∧
    (s.setReason r c).sets = s.sets ∧ (s.setReason r c).path = s.path ∧ (s.setReason r c).compiler = s.compiler ∧
    (s.setReason r c).stapler = s.stapler ∧ (s.setReason r c).routes = s.routes ∧ (s.setReason r c).bins = s.bins ∧
    (s.setReason r c).chain = s.chain ∧ (s.setReason r c).delivery = s.delivery ∧ (s.setReason r c).qualCount = s.qualCount ∧
    (s.setReason r c).rejectNear = s.rejectNear ∧ (s.setReason r c).rejectFull = s.rejectFull ∧
    (s.setReason r c).lastSample = s.lastSample := by
  and_intros <;> rfl

@[simp] theorem State.notify_frame (n : Notice) (o : Option (Fin 4)) (s : State) :
    (s.notify n o).now = s.now ∧ (s.notify n o).pending = s.pending ∧ (s.notify n o).draws = s.draws ∧
    (s.notify n o).pins = s.pins ∧ (s.notify n o).run = s.run ∧ (s.notify n o).jobs = s.jobs ∧ (s.notify n o).media = s.media ∧
    (s.notify n o).queue = s.queue ∧ (s.notify n o).binder = s.binder ∧ (s.notify n o).sets = s.sets ∧
    (s.notify n o).path = s.path ∧ (s.notify n o).compiler = s.compiler ∧ (s.notify n o).stapler = s.stapler ∧
    (s.notify n o).routes = s.routes ∧ (s.notify n o).bins = s.bins ∧ (s.notify n o).chain = s.chain ∧
    (s.notify n o).delivery = s.delivery ∧ (s.notify n o).qualCount = s.qualCount ∧ (s.notify n o).rejectNear = s.rejectNear ∧
    (s.notify n o).rejectFull = s.rejectFull ∧
    (s.notify n o).lastSample = s.lastSample := by
  and_intros <;> rfl

@[simp] theorem State.recombine_frame (s : State) :
    (s.recombine).now = s.now ∧ (s.recombine).pending = s.pending ∧ (s.recombine).draws = s.draws ∧
    (s.recombine).pins = s.pins ∧ (s.recombine).run = s.run ∧ (s.recombine).jobs = s.jobs ∧ (s.recombine).media = s.media ∧
    (s.recombine).queue = s.queue ∧ (s.recombine).binder = s.binder ∧ (s.recombine).sets = s.sets ∧
    (s.recombine).path = s.path ∧ (s.recombine).compiler = s.compiler ∧ (s.recombine).stapler = s.stapler ∧
    (s.recombine).routes = s.routes ∧ (s.recombine).bins = s.bins ∧ (s.recombine).chain = s.chain ∧
    (s.recombine).delivery = s.delivery ∧ (s.recombine).qualCount = s.qualCount ∧ (s.recombine).rejectNear = s.rejectNear ∧
    (s.recombine).rejectFull = s.rejectFull ∧
    (s.recombine).lastSample = s.lastSample := by
  and_intros <;> rfl

@[simp] theorem State.refuse_frame (k t : Byte) (e : RefuseReason) (s : State) :
    (s.refuse k t e).now = s.now ∧ (s.refuse k t e).pending = s.pending ∧ (s.refuse k t e).draws = s.draws ∧
    (s.refuse k t e).pins = s.pins ∧ (s.refuse k t e).run = s.run ∧ (s.refuse k t e).jobs = s.jobs ∧
    (s.refuse k t e).media = s.media ∧ (s.refuse k t e).queue = s.queue ∧ (s.refuse k t e).binder = s.binder ∧
    (s.refuse k t e).sets = s.sets ∧ (s.refuse k t e).path = s.path ∧ (s.refuse k t e).compiler = s.compiler ∧
    (s.refuse k t e).stapler = s.stapler ∧ (s.refuse k t e).routes = s.routes ∧ (s.refuse k t e).bins = s.bins ∧
    (s.refuse k t e).chain = s.chain ∧ (s.refuse k t e).delivery = s.delivery ∧ (s.refuse k t e).qualCount = s.qualCount ∧
    (s.refuse k t e).rejectNear = s.rejectNear ∧ (s.refuse k t e).rejectFull = s.rejectFull ∧
    (s.refuse k t e).lastSample = s.lastSample := by
  and_intros <;> rfl

@[simp] theorem State.reach_frame (t : Nat) (s : State) :
    (s.reach t).pending = s.pending ∧ (s.reach t).draws = s.draws ∧ (s.reach t).pins = s.pins ∧ (s.reach t).report = s.report ∧
    (s.reach t).run = s.run ∧ (s.reach t).jobs = s.jobs ∧ (s.reach t).media = s.media ∧ (s.reach t).queue = s.queue ∧
    (s.reach t).binder = s.binder ∧ (s.reach t).sets = s.sets ∧ (s.reach t).path = s.path ∧ (s.reach t).compiler = s.compiler ∧
    (s.reach t).stapler = s.stapler ∧ (s.reach t).routes = s.routes ∧ (s.reach t).bins = s.bins ∧ (s.reach t).chain = s.chain ∧
    (s.reach t).delivery = s.delivery ∧ (s.reach t).qualCount = s.qualCount ∧ (s.reach t).rejectNear = s.rejectNear ∧
    (s.reach t).rejectFull = s.rejectFull ∧
    (s.reach t).lastSample = s.lastSample := by
  and_intros <;> rfl

@[simp] theorem State.frameTaken_frame (s : State) :
    (s.frameTaken).now = s.now ∧ (s.frameTaken).pending = s.pending ∧ (s.frameTaken).draws = s.draws ∧
    (s.frameTaken).pins = s.pins ∧ (s.frameTaken).jobs = s.jobs ∧ (s.frameTaken).media = s.media ∧
    (s.frameTaken).queue = s.queue ∧ (s.frameTaken).binder = s.binder ∧ (s.frameTaken).sets = s.sets ∧
    (s.frameTaken).path = s.path ∧ (s.frameTaken).compiler = s.compiler ∧ (s.frameTaken).stapler = s.stapler ∧
    (s.frameTaken).routes = s.routes ∧ (s.frameTaken).bins = s.bins ∧ (s.frameTaken).chain = s.chain ∧
    (s.frameTaken).delivery = s.delivery ∧ (s.frameTaken).qualCount = s.qualCount ∧ (s.frameTaken).rejectNear = s.rejectNear ∧
    (s.frameTaken).rejectFull = s.rejectFull ∧
    (s.frameTaken).lastSample = s.lastSample := by
  and_intros <;> rfl

@[simp] theorem State.enterReady_frame (s : State) :
    (s.enterReady).now = s.now ∧ (s.enterReady).pending = s.pending ∧ (s.enterReady).draws = s.draws ∧
    (s.enterReady).pins = s.pins ∧ (s.enterReady).report = s.report ∧ (s.enterReady).jobs = s.jobs ∧
    (s.enterReady).media = s.media ∧ (s.enterReady).queue = s.queue ∧ (s.enterReady).binder = s.binder ∧
    (s.enterReady).sets = s.sets ∧ (s.enterReady).path = s.path ∧ (s.enterReady).compiler = s.compiler ∧
    (s.enterReady).stapler = s.stapler ∧ (s.enterReady).routes = s.routes ∧ (s.enterReady).bins = s.bins ∧
    (s.enterReady).chain = s.chain ∧ (s.enterReady).delivery = s.delivery ∧ (s.enterReady).qualCount = s.qualCount ∧
    (s.enterReady).rejectNear = s.rejectNear ∧ (s.enterReady).rejectFull = s.rejectFull ∧
    (s.enterReady).lastSample = s.lastSample := by
  and_intros <;> rfl

@[simp] theorem State.enterRunning_frame (s : State) :
    (s.enterRunning).now = s.now ∧ (s.enterRunning).pending = s.pending ∧ (s.enterRunning).draws = s.draws ∧
    (s.enterRunning).pins = s.pins ∧ (s.enterRunning).jobs = s.jobs ∧ (s.enterRunning).media = s.media ∧
    (s.enterRunning).queue = s.queue ∧ (s.enterRunning).binder = s.binder ∧ (s.enterRunning).sets = s.sets ∧
    (s.enterRunning).path = s.path ∧ (s.enterRunning).compiler = s.compiler ∧ (s.enterRunning).stapler = s.stapler ∧
    (s.enterRunning).routes = s.routes ∧ (s.enterRunning).bins = s.bins ∧ (s.enterRunning).chain = s.chain ∧
    (s.enterRunning).delivery = s.delivery ∧ (s.enterRunning).qualCount = s.qualCount ∧
    (s.enterRunning).rejectNear = s.rejectNear ∧ (s.enterRunning).rejectFull = s.rejectFull ∧
    (s.enterRunning).lastSample = s.lastSample := by
  and_intros <;> rfl

@[simp] theorem State.enterWaking_frame (s : State) :
    (s.enterWaking).now = s.now ∧ (s.enterWaking).pending = s.pending ∧ (s.enterWaking).draws = s.draws ∧
    (s.enterWaking).pins = s.pins ∧ (s.enterWaking).jobs = s.jobs ∧ (s.enterWaking).media = s.media ∧
    (s.enterWaking).queue = s.queue ∧ (s.enterWaking).binder = s.binder ∧ (s.enterWaking).sets = s.sets ∧
    (s.enterWaking).path = s.path ∧ (s.enterWaking).compiler = s.compiler ∧ (s.enterWaking).stapler = s.stapler ∧
    (s.enterWaking).routes = s.routes ∧ (s.enterWaking).bins = s.bins ∧ (s.enterWaking).chain = s.chain ∧
    (s.enterWaking).delivery = s.delivery ∧ (s.enterWaking).qualCount = s.qualCount ∧
    (s.enterWaking).rejectNear = s.rejectNear ∧ (s.enterWaking).rejectFull = s.rejectFull ∧
    (s.enterWaking).lastSample = s.lastSample := by
  and_intros <;> rfl

@[simp] theorem State.enterStandby_frame (s : State) :
    (s.enterStandby).now = s.now ∧ (s.enterStandby).pending = s.pending ∧ (s.enterStandby).draws = s.draws ∧
    (s.enterStandby).pins = s.pins ∧ (s.enterStandby).report = s.report ∧ (s.enterStandby).jobs = s.jobs ∧
    (s.enterStandby).media = s.media ∧ (s.enterStandby).queue = s.queue ∧ (s.enterStandby).binder = s.binder ∧
    (s.enterStandby).sets = s.sets ∧ (s.enterStandby).path = s.path ∧ (s.enterStandby).compiler = s.compiler ∧
    (s.enterStandby).stapler = s.stapler ∧ (s.enterStandby).routes = s.routes ∧ (s.enterStandby).bins = s.bins ∧
    (s.enterStandby).chain = s.chain ∧ (s.enterStandby).delivery = s.delivery ∧ (s.enterStandby).qualCount = s.qualCount ∧
    (s.enterStandby).rejectNear = s.rejectNear ∧ (s.enterStandby).rejectFull = s.rejectFull ∧
    (s.enterStandby).lastSample = s.lastSample := by
  and_intros <;> rfl

@[simp] theorem State.syncIdle_frame (s : State) :
    (s.syncIdle).now = s.now ∧ (s.syncIdle).pending = s.pending ∧ (s.syncIdle).draws = s.draws ∧ (s.syncIdle).pins = s.pins ∧
    (s.syncIdle).report = s.report ∧ (s.syncIdle).jobs = s.jobs ∧ (s.syncIdle).media = s.media ∧ (s.syncIdle).queue = s.queue ∧
    (s.syncIdle).binder = s.binder ∧ (s.syncIdle).sets = s.sets ∧ (s.syncIdle).path = s.path ∧
    (s.syncIdle).compiler = s.compiler ∧ (s.syncIdle).stapler = s.stapler ∧ (s.syncIdle).routes = s.routes ∧
    (s.syncIdle).bins = s.bins ∧ (s.syncIdle).chain = s.chain ∧ (s.syncIdle).delivery = s.delivery ∧
    (s.syncIdle).qualCount = s.qualCount ∧ (s.syncIdle).rejectNear = s.rejectNear ∧ (s.syncIdle).rejectFull = s.rejectFull ∧
    (s.syncIdle).lastSample = s.lastSample := by
  and_intros <;> rfl

@[simp] theorem State.setJob_frame (i : Fin 16) (j : JobSlot) (s : State) :
    (s.setJob i j).now = s.now ∧ (s.setJob i j).pending = s.pending ∧ (s.setJob i j).draws = s.draws ∧
    (s.setJob i j).pins = s.pins ∧ (s.setJob i j).report = s.report ∧ (s.setJob i j).run = s.run ∧
    (s.setJob i j).media = s.media ∧ (s.setJob i j).queue = s.queue ∧ (s.setJob i j).binder = s.binder ∧
    (s.setJob i j).sets = s.sets ∧ (s.setJob i j).path = s.path ∧ (s.setJob i j).compiler = s.compiler ∧
    (s.setJob i j).stapler = s.stapler ∧ (s.setJob i j).routes = s.routes ∧ (s.setJob i j).bins = s.bins ∧
    (s.setJob i j).chain = s.chain ∧ (s.setJob i j).delivery = s.delivery ∧ (s.setJob i j).qualCount = s.qualCount ∧
    (s.setJob i j).rejectNear = s.rejectNear ∧ (s.setJob i j).rejectFull = s.rejectFull ∧
    (s.setJob i j).lastSample = s.lastSample := by
  and_intros <;> rfl

@[simp] theorem State.bump_frame (i : Fin 16) (f : Counters → Counters) (s : State) :
    (s.bump i f).now = s.now ∧ (s.bump i f).pending = s.pending ∧ (s.bump i f).draws = s.draws ∧ (s.bump i f).pins = s.pins ∧
    (s.bump i f).report = s.report ∧ (s.bump i f).run = s.run ∧ (s.bump i f).media = s.media ∧ (s.bump i f).queue = s.queue ∧
    (s.bump i f).binder = s.binder ∧ (s.bump i f).sets = s.sets ∧ (s.bump i f).path = s.path ∧
    (s.bump i f).compiler = s.compiler ∧ (s.bump i f).stapler = s.stapler ∧ (s.bump i f).routes = s.routes ∧
    (s.bump i f).bins = s.bins ∧ (s.bump i f).chain = s.chain ∧ (s.bump i f).delivery = s.delivery ∧
    (s.bump i f).qualCount = s.qualCount ∧ (s.bump i f).rejectNear = s.rejectNear ∧ (s.bump i f).rejectFull = s.rejectFull ∧
    (s.bump i f).lastSample = s.lastSample := by
  simp only [State.bump]; split <;> simp

@[simp] theorem State.completionTest_frame (i : Fin 16) (s : State) :
    (s.completionTest i).now = s.now ∧ (s.completionTest i).pending = s.pending ∧ (s.completionTest i).draws = s.draws ∧
    (s.completionTest i).pins = s.pins ∧ (s.completionTest i).run = s.run ∧ (s.completionTest i).media = s.media ∧
    (s.completionTest i).queue = s.queue ∧ (s.completionTest i).binder = s.binder ∧ (s.completionTest i).sets = s.sets ∧
    (s.completionTest i).path = s.path ∧ (s.completionTest i).compiler = s.compiler ∧
    (s.completionTest i).stapler = s.stapler ∧ (s.completionTest i).routes = s.routes ∧ (s.completionTest i).bins = s.bins ∧
    (s.completionTest i).chain = s.chain ∧ (s.completionTest i).delivery = s.delivery ∧
    (s.completionTest i).qualCount = s.qualCount ∧ (s.completionTest i).rejectNear = s.rejectNear ∧
    (s.completionTest i).rejectFull = s.rejectFull ∧
    (s.completionTest i).lastSample = s.lastSample := by
  unfold State.completionTest; split <;> simp

@[simp] theorem State.setRec_frame (r : Fin 8) (x : SetRec) (s : State) :
    (s.setRec r x).now = s.now ∧ (s.setRec r x).pending = s.pending ∧ (s.setRec r x).draws = s.draws ∧
    (s.setRec r x).pins = s.pins ∧ (s.setRec r x).report = s.report ∧ (s.setRec r x).run = s.run ∧
    (s.setRec r x).jobs = s.jobs ∧ (s.setRec r x).media = s.media ∧ (s.setRec r x).queue = s.queue ∧
    (s.setRec r x).binder = s.binder ∧ (s.setRec r x).path = s.path ∧ (s.setRec r x).compiler = s.compiler ∧
    (s.setRec r x).stapler = s.stapler ∧ (s.setRec r x).routes = s.routes ∧ (s.setRec r x).bins = s.bins ∧
    (s.setRec r x).chain = s.chain ∧ (s.setRec r x).delivery = s.delivery ∧ (s.setRec r x).qualCount = s.qualCount ∧
    (s.setRec r x).rejectNear = s.rejectNear ∧ (s.setRec r x).rejectFull = s.rejectFull ∧
    (s.setRec r x).lastSample = s.lastSample := by
  and_intros <;> rfl

@[simp] theorem State.modRec_frame (r : Fin 8) (f : SetRec → SetRec) (s : State) :
    (s.modRec r f).now = s.now ∧ (s.modRec r f).pending = s.pending ∧ (s.modRec r f).draws = s.draws ∧
    (s.modRec r f).pins = s.pins ∧ (s.modRec r f).report = s.report ∧ (s.modRec r f).run = s.run ∧
    (s.modRec r f).jobs = s.jobs ∧ (s.modRec r f).media = s.media ∧ (s.modRec r f).queue = s.queue ∧
    (s.modRec r f).binder = s.binder ∧ (s.modRec r f).path = s.path ∧ (s.modRec r f).compiler = s.compiler ∧
    (s.modRec r f).stapler = s.stapler ∧ (s.modRec r f).routes = s.routes ∧ (s.modRec r f).bins = s.bins ∧
    (s.modRec r f).chain = s.chain ∧ (s.modRec r f).delivery = s.delivery ∧ (s.modRec r f).qualCount = s.qualCount ∧
    (s.modRec r f).rejectNear = s.rejectNear ∧ (s.modRec r f).rejectFull = s.rejectFull ∧
    (s.modRec r f).lastSample = s.lastSample := by
  unfold State.modRec; split <;> simp

@[simp] theorem State.syncSets_frame (s : State) :
    (s.syncSets).now = s.now ∧ (s.syncSets).pending = s.pending ∧ (s.syncSets).draws = s.draws ∧ (s.syncSets).pins = s.pins ∧
    (s.syncSets).run = s.run ∧ (s.syncSets).jobs = s.jobs ∧ (s.syncSets).media = s.media ∧ (s.syncSets).queue = s.queue ∧
    (s.syncSets).binder = s.binder ∧ (s.syncSets).sets = s.sets ∧ (s.syncSets).path = s.path ∧
    (s.syncSets).compiler = s.compiler ∧ (s.syncSets).stapler = s.stapler ∧ (s.syncSets).routes = s.routes ∧
    (s.syncSets).bins = s.bins ∧ (s.syncSets).chain = s.chain ∧ (s.syncSets).delivery = s.delivery ∧
    (s.syncSets).qualCount = s.qualCount ∧ (s.syncSets).rejectNear = s.rejectNear ∧ (s.syncSets).rejectFull = s.rejectFull ∧
    (s.syncSets).lastSample = s.lastSample := by
  and_intros <;> rfl

@[simp] theorem State.allocate_frame (r : Fin 8) (x : SetRec) (s : State) :
    (s.allocate r x).now = s.now ∧ (s.allocate r x).pending = s.pending ∧ (s.allocate r x).draws = s.draws ∧
    (s.allocate r x).pins = s.pins ∧ (s.allocate r x).run = s.run ∧ (s.allocate r x).jobs = s.jobs ∧
    (s.allocate r x).media = s.media ∧ (s.allocate r x).queue = s.queue ∧ (s.allocate r x).binder = s.binder ∧
    (s.allocate r x).path = s.path ∧ (s.allocate r x).compiler = s.compiler ∧ (s.allocate r x).stapler = s.stapler ∧
    (s.allocate r x).routes = s.routes ∧ (s.allocate r x).bins = s.bins ∧ (s.allocate r x).chain = s.chain ∧
    (s.allocate r x).delivery = s.delivery ∧ (s.allocate r x).qualCount = s.qualCount ∧
    (s.allocate r x).rejectNear = s.rejectNear ∧ (s.allocate r x).rejectFull = s.rejectFull ∧
    (s.allocate r x).lastSample = s.lastSample := by
  and_intros <;> rfl

@[simp] theorem State.release_frame (r : Fin 8) (i : Fin 16) (s : State) :
    (s.release r i).now = s.now ∧ (s.release r i).pending = s.pending ∧ (s.release r i).draws = s.draws ∧
    (s.release r i).pins = s.pins ∧ (s.release r i).run = s.run ∧ (s.release r i).media = s.media ∧
    (s.release r i).queue = s.queue ∧ (s.release r i).binder = s.binder ∧ (s.release r i).path = s.path ∧
    (s.release r i).compiler = s.compiler ∧ (s.release r i).stapler = s.stapler ∧ (s.release r i).routes = s.routes ∧
    (s.release r i).bins = s.bins ∧ (s.release r i).chain = s.chain ∧ (s.release r i).delivery = s.delivery ∧
    (s.release r i).qualCount = s.qualCount ∧ (s.release r i).rejectNear = s.rejectNear ∧
    (s.release r i).rejectFull = s.rejectFull ∧
    (s.release r i).lastSample = s.lastSample := by
  unfold State.release; simp

@[simp] theorem State.produce_frame (r : Fin 8) (x : SetRec) (o : SetOutcome) (d : Option (Fin 41)) (n : Nat) (f : Bool) (s : State) :
    (s.produce r x o d n f).now = s.now ∧ (s.produce r x o d n f).pending = s.pending ∧
    (s.produce r x o d n f).draws = s.draws ∧ (s.produce r x o d n f).pins = s.pins ∧ (s.produce r x o d n f).run = s.run ∧
    (s.produce r x o d n f).media = s.media ∧ (s.produce r x o d n f).queue = s.queue ∧
    (s.produce r x o d n f).binder = s.binder ∧ (s.produce r x o d n f).path = s.path ∧
    (s.produce r x o d n f).compiler = s.compiler ∧ (s.produce r x o d n f).stapler = s.stapler ∧
    (s.produce r x o d n f).routes = s.routes ∧ (s.produce r x o d n f).bins = s.bins ∧
    (s.produce r x o d n f).chain = s.chain ∧ (s.produce r x o d n f).delivery = s.delivery ∧
    (s.produce r x o d n f).qualCount = s.qualCount ∧ (s.produce r x o d n f).rejectNear = s.rejectNear ∧
    (s.produce r x o d n f).rejectFull = s.rejectFull ∧
    (s.produce r x o d n f).lastSample = s.lastSample := by
  unfold State.produce; simp

@[simp] theorem State.produceLoose_frame (b : Bool) (q : Option Seq) (e : OrphanReason) (x : Option (Fin 16 × Nat)) (s : State) :
    (s.produceLoose b q e x).now = s.now ∧ (s.produceLoose b q e x).pending = s.pending ∧
    (s.produceLoose b q e x).draws = s.draws ∧ (s.produceLoose b q e x).pins = s.pins ∧ (s.produceLoose b q e x).run = s.run ∧
    (s.produceLoose b q e x).jobs = s.jobs ∧ (s.produceLoose b q e x).media = s.media ∧
    (s.produceLoose b q e x).queue = s.queue ∧ (s.produceLoose b q e x).binder = s.binder ∧
    (s.produceLoose b q e x).sets = s.sets ∧ (s.produceLoose b q e x).path = s.path ∧
    (s.produceLoose b q e x).compiler = s.compiler ∧ (s.produceLoose b q e x).stapler = s.stapler ∧
    (s.produceLoose b q e x).routes = s.routes ∧ (s.produceLoose b q e x).bins = s.bins ∧
    (s.produceLoose b q e x).chain = s.chain ∧ (s.produceLoose b q e x).delivery = s.delivery ∧
    (s.produceLoose b q e x).qualCount = s.qualCount ∧ (s.produceLoose b q e x).rejectNear = s.rejectNear ∧
    (s.produceLoose b q e x).rejectFull = s.rejectFull ∧
    (s.produceLoose b q e x).lastSample = s.lastSample := by
  and_intros <;> rfl

@[simp] theorem State.modBin_frame (b : Fin 41) (f : Bin → Bin) (s : State) :
    (s.modBin b f).now = s.now ∧ (s.modBin b f).pending = s.pending ∧ (s.modBin b f).draws = s.draws ∧
    (s.modBin b f).pins = s.pins ∧ (s.modBin b f).report = s.report ∧ (s.modBin b f).run = s.run ∧
    (s.modBin b f).jobs = s.jobs ∧ (s.modBin b f).media = s.media ∧ (s.modBin b f).queue = s.queue ∧
    (s.modBin b f).binder = s.binder ∧ (s.modBin b f).sets = s.sets ∧ (s.modBin b f).path = s.path ∧
    (s.modBin b f).compiler = s.compiler ∧ (s.modBin b f).stapler = s.stapler ∧ (s.modBin b f).routes = s.routes ∧
    (s.modBin b f).chain = s.chain ∧ (s.modBin b f).delivery = s.delivery ∧ (s.modBin b f).qualCount = s.qualCount ∧
    (s.modBin b f).rejectNear = s.rejectNear ∧ (s.modBin b f).rejectFull = s.rejectFull ∧
    (s.modBin b f).lastSample = s.lastSample := by
  and_intros <;> rfl

@[simp] theorem State.binNotice_frame (w : BinState) (b : Fin 41) (s : State) :
    (s.binNotice w b).now = s.now ∧ (s.binNotice w b).pending = s.pending ∧ (s.binNotice w b).draws = s.draws ∧
    (s.binNotice w b).pins = s.pins ∧ (s.binNotice w b).run = s.run ∧ (s.binNotice w b).jobs = s.jobs ∧
    (s.binNotice w b).media = s.media ∧ (s.binNotice w b).queue = s.queue ∧ (s.binNotice w b).binder = s.binder ∧
    (s.binNotice w b).sets = s.sets ∧ (s.binNotice w b).path = s.path ∧ (s.binNotice w b).compiler = s.compiler ∧
    (s.binNotice w b).stapler = s.stapler ∧ (s.binNotice w b).routes = s.routes ∧ (s.binNotice w b).bins = s.bins ∧
    (s.binNotice w b).chain = s.chain ∧ (s.binNotice w b).delivery = s.delivery ∧ (s.binNotice w b).qualCount = s.qualCount ∧
    (s.binNotice w b).rejectNear = s.rejectNear ∧ (s.binNotice w b).rejectFull = s.rejectFull ∧
    (s.binNotice w b).lastSample = s.lastSample := by
  simp only [State.binNotice]; (repeat' split) <;> simp

@[simp] theorem State.binsChanged_frame (was : State) (bs : List (Fin 41)) (s : State) :
    (s.binsChanged was bs).now = s.now ∧ (s.binsChanged was bs).pending = s.pending ∧ (s.binsChanged was bs).draws = s.draws ∧
    (s.binsChanged was bs).pins = s.pins ∧ (s.binsChanged was bs).run = s.run ∧ (s.binsChanged was bs).jobs = s.jobs ∧
    (s.binsChanged was bs).media = s.media ∧ (s.binsChanged was bs).queue = s.queue ∧
    (s.binsChanged was bs).binder = s.binder ∧ (s.binsChanged was bs).sets = s.sets ∧ (s.binsChanged was bs).path = s.path ∧
    (s.binsChanged was bs).compiler = s.compiler ∧ (s.binsChanged was bs).stapler = s.stapler ∧
    (s.binsChanged was bs).routes = s.routes ∧ (s.binsChanged was bs).bins = s.bins ∧ (s.binsChanged was bs).chain = s.chain ∧
    (s.binsChanged was bs).delivery = s.delivery ∧ (s.binsChanged was bs).qualCount = s.qualCount ∧
    (s.binsChanged was bs).rejectNear = s.rejectNear ∧ (s.binsChanged was bs).rejectFull = s.rejectFull ∧
    (s.binsChanged was bs).lastSample = s.lastSample := by
  simp only [State.binsChanged, State.setReason_frame, State.recombine_frame]
  and_intros <;> exact foldl_keeps _ _ (by simp) _ _

@[simp] theorem State.updateBin_frame (b : Fin 41) (f : Bin → Bin) (s : State) :
    (s.updateBin b f).now = s.now ∧ (s.updateBin b f).pending = s.pending ∧ (s.updateBin b f).draws = s.draws ∧
    (s.updateBin b f).pins = s.pins ∧ (s.updateBin b f).run = s.run ∧ (s.updateBin b f).jobs = s.jobs ∧
    (s.updateBin b f).media = s.media ∧ (s.updateBin b f).queue = s.queue ∧ (s.updateBin b f).binder = s.binder ∧
    (s.updateBin b f).sets = s.sets ∧ (s.updateBin b f).path = s.path ∧ (s.updateBin b f).compiler = s.compiler ∧
    (s.updateBin b f).stapler = s.stapler ∧ (s.updateBin b f).routes = s.routes ∧ (s.updateBin b f).chain = s.chain ∧
    (s.updateBin b f).delivery = s.delivery ∧ (s.updateBin b f).qualCount = s.qualCount ∧
    (s.updateBin b f).rejectNear = s.rejectNear ∧ (s.updateBin b f).rejectFull = s.rejectFull ∧
    (s.updateBin b f).lastSample = s.lastSample := by
  unfold State.updateBin; simp

@[simp] theorem State.cursorReturn_frame (b : Fin 41) (s : State) :
    (s.cursorReturn b).now = s.now ∧ (s.cursorReturn b).pending = s.pending ∧ (s.cursorReturn b).draws = s.draws ∧
    (s.cursorReturn b).pins = s.pins ∧ (s.cursorReturn b).report = s.report ∧ (s.cursorReturn b).run = s.run ∧
    (s.cursorReturn b).jobs = s.jobs ∧ (s.cursorReturn b).media = s.media ∧ (s.cursorReturn b).queue = s.queue ∧
    (s.cursorReturn b).binder = s.binder ∧ (s.cursorReturn b).sets = s.sets ∧ (s.cursorReturn b).path = s.path ∧
    (s.cursorReturn b).compiler = s.compiler ∧ (s.cursorReturn b).stapler = s.stapler ∧ (s.cursorReturn b).bins = s.bins ∧
    (s.cursorReturn b).chain = s.chain ∧ (s.cursorReturn b).delivery = s.delivery ∧
    (s.cursorReturn b).qualCount = s.qualCount ∧ (s.cursorReturn b).rejectNear = s.rejectNear ∧
    (s.cursorReturn b).rejectFull = s.rejectFull ∧
    (s.cursorReturn b).lastSample = s.lastSample := by
  and_intros <;> rfl

@[simp] theorem State.reserve_frame (b : Fin 41) (h : Nat) (s : State) :
    (s.reserve b h).now = s.now ∧ (s.reserve b h).pending = s.pending ∧ (s.reserve b h).draws = s.draws ∧
    (s.reserve b h).pins = s.pins ∧ (s.reserve b h).report = s.report ∧ (s.reserve b h).run = s.run ∧
    (s.reserve b h).jobs = s.jobs ∧ (s.reserve b h).media = s.media ∧ (s.reserve b h).queue = s.queue ∧
    (s.reserve b h).binder = s.binder ∧ (s.reserve b h).sets = s.sets ∧ (s.reserve b h).path = s.path ∧
    (s.reserve b h).compiler = s.compiler ∧ (s.reserve b h).stapler = s.stapler ∧ (s.reserve b h).routes = s.routes ∧
    (s.reserve b h).chain = s.chain ∧ (s.reserve b h).delivery = s.delivery ∧ (s.reserve b h).qualCount = s.qualCount ∧
    (s.reserve b h).rejectNear = s.rejectNear ∧ (s.reserve b h).rejectFull = s.rejectFull ∧
    (s.reserve b h).lastSample = s.lastSample := by
  and_intros <;> rfl

@[simp] theorem State.unreserve_frame (b : Fin 41) (h : Nat) (s : State) :
    (s.unreserve b h).now = s.now ∧ (s.unreserve b h).pending = s.pending ∧ (s.unreserve b h).draws = s.draws ∧
    (s.unreserve b h).pins = s.pins ∧ (s.unreserve b h).report = s.report ∧ (s.unreserve b h).run = s.run ∧
    (s.unreserve b h).jobs = s.jobs ∧ (s.unreserve b h).media = s.media ∧ (s.unreserve b h).queue = s.queue ∧
    (s.unreserve b h).binder = s.binder ∧ (s.unreserve b h).sets = s.sets ∧ (s.unreserve b h).path = s.path ∧
    (s.unreserve b h).compiler = s.compiler ∧ (s.unreserve b h).stapler = s.stapler ∧ (s.unreserve b h).chain = s.chain ∧
    (s.unreserve b h).delivery = s.delivery ∧ (s.unreserve b h).qualCount = s.qualCount ∧
    (s.unreserve b h).rejectNear = s.rejectNear ∧ (s.unreserve b h).rejectFull = s.rejectFull ∧
    (s.unreserve b h).lastSample = s.lastSample := by
  and_intros <;> rfl

@[simp] theorem State.takeSide_frame (r : Fin 8) (b : Fin 41) (s : State) :
    (s.takeSide r b).now = s.now ∧ (s.takeSide r b).pending = s.pending ∧ (s.takeSide r b).draws = s.draws ∧
    (s.takeSide r b).pins = s.pins ∧ (s.takeSide r b).report = s.report ∧ (s.takeSide r b).run = s.run ∧
    (s.takeSide r b).jobs = s.jobs ∧ (s.takeSide r b).media = s.media ∧ (s.takeSide r b).queue = s.queue ∧
    (s.takeSide r b).binder = s.binder ∧ (s.takeSide r b).path = s.path ∧ (s.takeSide r b).compiler = s.compiler ∧
    (s.takeSide r b).stapler = s.stapler ∧ (s.takeSide r b).routes = s.routes ∧ (s.takeSide r b).chain = s.chain ∧
    (s.takeSide r b).delivery = s.delivery ∧ (s.takeSide r b).qualCount = s.qualCount ∧
    (s.takeSide r b).rejectNear = s.rejectNear ∧ (s.takeSide r b).rejectFull = s.rejectFull ∧
    (s.takeSide r b).lastSample = s.lastSample := by
  unfold State.takeSide; (repeat' split) <;> simp

@[simp] theorem State.dropReservation_frame (r : Fin 8) (s : State) :
    (s.dropReservation r).now = s.now ∧ (s.dropReservation r).pending = s.pending ∧ (s.dropReservation r).draws = s.draws ∧
    (s.dropReservation r).pins = s.pins ∧ (s.dropReservation r).report = s.report ∧ (s.dropReservation r).run = s.run ∧
    (s.dropReservation r).jobs = s.jobs ∧ (s.dropReservation r).media = s.media ∧ (s.dropReservation r).queue = s.queue ∧
    (s.dropReservation r).binder = s.binder ∧ (s.dropReservation r).path = s.path ∧
    (s.dropReservation r).compiler = s.compiler ∧ (s.dropReservation r).stapler = s.stapler ∧
    (s.dropReservation r).chain = s.chain ∧ (s.dropReservation r).delivery = s.delivery ∧
    (s.dropReservation r).qualCount = s.qualCount ∧ (s.dropReservation r).rejectNear = s.rejectNear ∧
    (s.dropReservation r).rejectFull = s.rejectFull ∧
    (s.dropReservation r).lastSample = s.lastSample := by
  unfold State.dropReservation; (repeat' split) <;> simp

@[simp] theorem State.choose_frame (r : Fin 8) (b : Fin 41) (s : State) :
    (s.choose r b).now = s.now ∧ (s.choose r b).pending = s.pending ∧ (s.choose r b).draws = s.draws ∧
    (s.choose r b).pins = s.pins ∧ (s.choose r b).report = s.report ∧ (s.choose r b).run = s.run ∧
    (s.choose r b).jobs = s.jobs ∧ (s.choose r b).media = s.media ∧ (s.choose r b).queue = s.queue ∧
    (s.choose r b).binder = s.binder ∧ (s.choose r b).path = s.path ∧ (s.choose r b).compiler = s.compiler ∧
    (s.choose r b).stapler = s.stapler ∧ (s.choose r b).chain = s.chain ∧
    (s.choose r b).delivery = s.delivery ∧ (s.choose r b).qualCount = s.qualCount ∧ (s.choose r b).rejectNear = s.rejectNear ∧
    (s.choose r b).rejectFull = s.rejectFull ∧
    (s.choose r b).lastSample = s.lastSample := by
  simp only [State.choose]; split <;> simp

@[simp] theorem State.retarget_frame (r : Fin 8) (d : DivertReason) (s : State) :
    (s.retarget r d).now = s.now ∧ (s.retarget r d).pending = s.pending ∧ (s.retarget r d).draws = s.draws ∧
    (s.retarget r d).pins = s.pins ∧ (s.retarget r d).report = s.report ∧ (s.retarget r d).run = s.run ∧
    (s.retarget r d).jobs = s.jobs ∧ (s.retarget r d).media = s.media ∧ (s.retarget r d).queue = s.queue ∧
    (s.retarget r d).binder = s.binder ∧ (s.retarget r d).path = s.path ∧ (s.retarget r d).compiler = s.compiler ∧
    (s.retarget r d).stapler = s.stapler ∧ (s.retarget r d).chain = s.chain ∧
    (s.retarget r d).delivery = s.delivery ∧ (s.retarget r d).qualCount = s.qualCount ∧
    (s.retarget r d).rejectNear = s.rejectNear ∧ (s.retarget r d).rejectFull = s.rejectFull ∧
    (s.retarget r d).lastSample = s.lastSample := by
  simp only [State.retarget]; split <;> simp

@[simp] theorem State.moveCursor_frame (i : Fin 32) (b : Fin 41) (s : State) :
    (s.moveCursor i b).now = s.now ∧ (s.moveCursor i b).pending = s.pending ∧ (s.moveCursor i b).draws = s.draws ∧
    (s.moveCursor i b).pins = s.pins ∧ (s.moveCursor i b).report = s.report ∧ (s.moveCursor i b).run = s.run ∧
    (s.moveCursor i b).jobs = s.jobs ∧ (s.moveCursor i b).media = s.media ∧ (s.moveCursor i b).queue = s.queue ∧
    (s.moveCursor i b).binder = s.binder ∧ (s.moveCursor i b).sets = s.sets ∧ (s.moveCursor i b).path = s.path ∧
    (s.moveCursor i b).compiler = s.compiler ∧ (s.moveCursor i b).stapler = s.stapler ∧ (s.moveCursor i b).bins = s.bins ∧
    (s.moveCursor i b).chain = s.chain ∧ (s.moveCursor i b).delivery = s.delivery ∧
    (s.moveCursor i b).qualCount = s.qualCount ∧ (s.moveCursor i b).rejectNear = s.rejectNear ∧
    (s.moveCursor i b).rejectFull = s.rejectFull ∧
    (s.moveCursor i b).lastSample = s.lastSample := by
  and_intros <;> rfl

@[simp] theorem State.scanSequence_frame (r : Fin 8) (h : Nat) (i : Fin 32) (x y : Fin 41) (g : BitVec 8) (s : State) :
    (s.scanSequence r h i x y g).now = s.now ∧ (s.scanSequence r h i x y g).pending = s.pending ∧
    (s.scanSequence r h i x y g).draws = s.draws ∧ (s.scanSequence r h i x y g).pins = s.pins ∧
    (s.scanSequence r h i x y g).report = s.report ∧ (s.scanSequence r h i x y g).run = s.run ∧
    (s.scanSequence r h i x y g).jobs = s.jobs ∧ (s.scanSequence r h i x y g).media = s.media ∧
    (s.scanSequence r h i x y g).queue = s.queue ∧ (s.scanSequence r h i x y g).binder = s.binder ∧
    (s.scanSequence r h i x y g).path = s.path ∧ (s.scanSequence r h i x y g).compiler = s.compiler ∧
    (s.scanSequence r h i x y g).stapler = s.stapler ∧ (s.scanSequence r h i x y g).chain = s.chain ∧
    (s.scanSequence r h i x y g).delivery = s.delivery ∧ (s.scanSequence r h i x y g).qualCount = s.qualCount ∧
    (s.scanSequence r h i x y g).rejectNear = s.rejectNear ∧ (s.scanSequence r h i x y g).rejectFull = s.rejectFull ∧
    (s.scanSequence r h i x y g).lastSample = s.lastSample := by
  unfold State.scanSequence
  simp only []
  split <;> and_intros <;> exact State.scan_keeps _ _ _ _ _ (by simp) (by simp) _

@[simp] theorem State.selectBin_frame (r : Fin 8) (s : State) :
    (s.selectBin r).now = s.now ∧ (s.selectBin r).pending = s.pending ∧ (s.selectBin r).draws = s.draws ∧
    (s.selectBin r).pins = s.pins ∧ (s.selectBin r).run = s.run ∧ (s.selectBin r).jobs = s.jobs ∧
    (s.selectBin r).media = s.media ∧ (s.selectBin r).queue = s.queue ∧ (s.selectBin r).binder = s.binder ∧
    (s.selectBin r).path = s.path ∧ (s.selectBin r).compiler = s.compiler ∧ (s.selectBin r).stapler = s.stapler ∧
    (s.selectBin r).chain = s.chain ∧ (s.selectBin r).delivery = s.delivery ∧ (s.selectBin r).qualCount = s.qualCount ∧
    (s.selectBin r).rejectNear = s.rejectNear ∧ (s.selectBin r).rejectFull = s.rejectFull ∧
    (s.selectBin r).lastSample = s.lastSample := by
  unfold State.selectBin
  simp only []
  (repeat' split) <;> and_intros <;> first | exact State.scan_keeps _ _ _ _ _ (by simp) (by simp) _ | simp

@[simp] theorem State.foundBin_frame (r : Fin 8) (s : State) :
    (s.foundBin r).now = s.now ∧ (s.foundBin r).pending = s.pending ∧ (s.foundBin r).draws = s.draws ∧
    (s.foundBin r).pins = s.pins ∧ (s.foundBin r).report = s.report ∧ (s.foundBin r).run = s.run ∧
    (s.foundBin r).jobs = s.jobs ∧ (s.foundBin r).media = s.media ∧ (s.foundBin r).queue = s.queue ∧
    (s.foundBin r).binder = s.binder ∧ (s.foundBin r).path = s.path ∧ (s.foundBin r).compiler = s.compiler ∧
    (s.foundBin r).stapler = s.stapler ∧ (s.foundBin r).routes = s.routes ∧ (s.foundBin r).bins = s.bins ∧
    (s.foundBin r).chain = s.chain ∧ (s.foundBin r).qualCount = s.qualCount ∧ (s.foundBin r).rejectNear = s.rejectNear ∧
    (s.foundBin r).rejectFull = s.rejectFull ∧
    (s.foundBin r).lastSample = s.lastSample := by
  unfold State.foundBin; simp

@[simp] theorem State.reevaluatePart_frame (r : Fin 8) (s : State) :
    (s.reevaluatePart r).now = s.now ∧ (s.reevaluatePart r).pending = s.pending ∧ (s.reevaluatePart r).draws = s.draws ∧
    (s.reevaluatePart r).pins = s.pins ∧ (s.reevaluatePart r).run = s.run ∧ (s.reevaluatePart r).jobs = s.jobs ∧
    (s.reevaluatePart r).media = s.media ∧ (s.reevaluatePart r).queue = s.queue ∧ (s.reevaluatePart r).binder = s.binder ∧
    (s.reevaluatePart r).path = s.path ∧ (s.reevaluatePart r).compiler = s.compiler ∧
    (s.reevaluatePart r).stapler = s.stapler ∧ (s.reevaluatePart r).chain = s.chain ∧
    (s.reevaluatePart r).qualCount = s.qualCount ∧ (s.reevaluatePart r).rejectNear = s.rejectNear ∧
    (s.reevaluatePart r).rejectFull = s.rejectFull ∧
    (s.reevaluatePart r).lastSample = s.lastSample := by
  simp only [State.reevaluatePart]; split <;> simp

@[simp] theorem State.passTo_frame (b : Fin 41) (d : Option DivertReason) (s : State) (k : Fin 8) :
    (s.passTo b d k).now = s.now ∧ (s.passTo b d k).pending = s.pending ∧ (s.passTo b d k).draws = s.draws ∧
    (s.passTo b d k).pins = s.pins ∧ (s.passTo b d k).run = s.run ∧ (s.passTo b d k).jobs = s.jobs ∧
    (s.passTo b d k).media = s.media ∧ (s.passTo b d k).queue = s.queue ∧ (s.passTo b d k).binder = s.binder ∧
    (s.passTo b d k).path = s.path ∧ (s.passTo b d k).compiler = s.compiler ∧ (s.passTo b d k).stapler = s.stapler ∧
    (s.passTo b d k).chain = s.chain ∧ (s.passTo b d k).qualCount = s.qualCount ∧ (s.passTo b d k).rejectNear = s.rejectNear ∧
    (s.passTo b d k).rejectFull = s.rejectFull ∧
    (s.passTo b d k).lastSample = s.lastSample := by
  unfold State.passTo; (repeat' split) <;> simp

@[simp] theorem State.passPartBin_frame (r : Fin 8) (s : State) :
    (s.passPartBin r).now = s.now ∧ (s.passPartBin r).pending = s.pending ∧ (s.passPartBin r).draws = s.draws ∧
    (s.passPartBin r).pins = s.pins ∧ (s.passPartBin r).run = s.run ∧ (s.passPartBin r).jobs = s.jobs ∧
    (s.passPartBin r).media = s.media ∧ (s.passPartBin r).queue = s.queue ∧ (s.passPartBin r).binder = s.binder ∧
    (s.passPartBin r).path = s.path ∧ (s.passPartBin r).compiler = s.compiler ∧ (s.passPartBin r).stapler = s.stapler ∧
    (s.passPartBin r).chain = s.chain ∧ (s.passPartBin r).qualCount = s.qualCount ∧
    (s.passPartBin r).rejectNear = s.rejectNear ∧ (s.passPartBin r).rejectFull = s.rejectFull ∧
    (s.passPartBin r).lastSample = s.lastSample := by
  unfold State.passPartBin
  (repeat' split) <;> and_intros <;> first | exact foldl_keeps _ _ (by simp) _ _ | simp

@[simp] theorem State.binChoice_frame (r : Fin 8) (s : State) :
    (s.binChoice r).now = s.now ∧ (s.binChoice r).pending = s.pending ∧ (s.binChoice r).draws = s.draws ∧
    (s.binChoice r).pins = s.pins ∧ (s.binChoice r).run = s.run ∧ (s.binChoice r).jobs = s.jobs ∧
    (s.binChoice r).media = s.media ∧ (s.binChoice r).queue = s.queue ∧ (s.binChoice r).binder = s.binder ∧
    (s.binChoice r).path = s.path ∧ (s.binChoice r).compiler = s.compiler ∧ (s.binChoice r).stapler = s.stapler ∧
    (s.binChoice r).chain = s.chain ∧ (s.binChoice r).qualCount = s.qualCount ∧ (s.binChoice r).rejectNear = s.rejectNear ∧
    (s.binChoice r).rejectFull = s.rejectFull ∧
    (s.binChoice r).lastSample = s.lastSample := by
  unfold State.binChoice; simp

@[simp] theorem State.reevaluate_frame (r : Fin 8) (s : State) :
    (s.reevaluate r).now = s.now ∧ (s.reevaluate r).pending = s.pending ∧ (s.reevaluate r).draws = s.draws ∧
    (s.reevaluate r).pins = s.pins ∧ (s.reevaluate r).run = s.run ∧ (s.reevaluate r).jobs = s.jobs ∧
    (s.reevaluate r).media = s.media ∧ (s.reevaluate r).queue = s.queue ∧ (s.reevaluate r).binder = s.binder ∧
    (s.reevaluate r).path = s.path ∧ (s.reevaluate r).compiler = s.compiler ∧ (s.reevaluate r).stapler = s.stapler ∧
    (s.reevaluate r).chain = s.chain ∧ (s.reevaluate r).qualCount = s.qualCount ∧ (s.reevaluate r).rejectNear = s.rejectNear ∧
    (s.reevaluate r).rejectFull = s.rejectFull ∧
    (s.reevaluate r).lastSample = s.lastSample := by
  simp only [State.reevaluate]; split <;> simp

@[simp] theorem State.reevaluateFor_frame (b : Fin 41) (r : Option (Fin 8)) (s : State) :
    (s.reevaluateFor b r).now = s.now ∧ (s.reevaluateFor b r).pending = s.pending ∧ (s.reevaluateFor b r).draws = s.draws ∧
    (s.reevaluateFor b r).pins = s.pins ∧ (s.reevaluateFor b r).run = s.run ∧ (s.reevaluateFor b r).jobs = s.jobs ∧
    (s.reevaluateFor b r).media = s.media ∧ (s.reevaluateFor b r).queue = s.queue ∧ (s.reevaluateFor b r).binder = s.binder ∧
    (s.reevaluateFor b r).path = s.path ∧ (s.reevaluateFor b r).compiler = s.compiler ∧
    (s.reevaluateFor b r).stapler = s.stapler ∧ (s.reevaluateFor b r).chain = s.chain ∧
    (s.reevaluateFor b r).qualCount = s.qualCount ∧ (s.reevaluateFor b r).rejectNear = s.rejectNear ∧
    (s.reevaluateFor b r).rejectFull = s.rejectFull ∧
    (s.reevaluateFor b r).lastSample = s.lastSample := by
  unfold State.reevaluateFor; (repeat' split) <;> simp

@[simp] theorem State.binEvent_frame (s : State) (b : Fin 41) :
    (s.binEvent b).now = s.now ∧ (s.binEvent b).pending = s.pending ∧ (s.binEvent b).draws = s.draws ∧
    (s.binEvent b).pins = s.pins ∧ (s.binEvent b).run = s.run ∧ (s.binEvent b).jobs = s.jobs ∧ (s.binEvent b).media = s.media ∧
    (s.binEvent b).queue = s.queue ∧ (s.binEvent b).binder = s.binder ∧ (s.binEvent b).path = s.path ∧
    (s.binEvent b).compiler = s.compiler ∧ (s.binEvent b).stapler = s.stapler ∧ (s.binEvent b).chain = s.chain ∧
    (s.binEvent b).qualCount = s.qualCount ∧ (s.binEvent b).rejectNear = s.rejectNear ∧
    (s.binEvent b).rejectFull = s.rejectFull ∧
    (s.binEvent b).lastSample = s.lastSample := by
  unfold State.binEvent; simp

@[simp] theorem State.foldl_binEvent_frame (l : List (Fin 41)) (s : State) :
    (l.foldl State.binEvent s).now = s.now ∧ (l.foldl State.binEvent s).pending = s.pending ∧
    (l.foldl State.binEvent s).draws = s.draws ∧ (l.foldl State.binEvent s).pins = s.pins ∧
    (l.foldl State.binEvent s).run = s.run ∧ (l.foldl State.binEvent s).jobs = s.jobs ∧
    (l.foldl State.binEvent s).media = s.media ∧ (l.foldl State.binEvent s).queue = s.queue ∧
    (l.foldl State.binEvent s).binder = s.binder ∧ (l.foldl State.binEvent s).path = s.path ∧
    (l.foldl State.binEvent s).compiler = s.compiler ∧ (l.foldl State.binEvent s).stapler = s.stapler ∧
    (l.foldl State.binEvent s).chain = s.chain ∧ (l.foldl State.binEvent s).qualCount = s.qualCount ∧
    (l.foldl State.binEvent s).rejectNear = s.rejectNear ∧ (l.foldl State.binEvent s).rejectFull = s.rejectFull ∧
    (l.foldl State.binEvent s).lastSample = s.lastSample := by
  and_intros <;> exact foldl_keeps _ _ (by simp) _ _

@[simp] theorem State.divertHeld_frame (r : Fin 8) (d : DivertReason) (s : State) :
    (s.divertHeld r d).now = s.now ∧ (s.divertHeld r d).pending = s.pending ∧ (s.divertHeld r d).draws = s.draws ∧
    (s.divertHeld r d).pins = s.pins ∧ (s.divertHeld r d).run = s.run ∧ (s.divertHeld r d).jobs = s.jobs ∧
    (s.divertHeld r d).media = s.media ∧ (s.divertHeld r d).queue = s.queue ∧ (s.divertHeld r d).binder = s.binder ∧
    (s.divertHeld r d).path = s.path ∧ (s.divertHeld r d).compiler = s.compiler ∧ (s.divertHeld r d).stapler = s.stapler ∧
    (s.divertHeld r d).chain = s.chain ∧ (s.divertHeld r d).qualCount = s.qualCount ∧
    (s.divertHeld r d).rejectNear = s.rejectNear ∧ (s.divertHeld r d).rejectFull = s.rejectFull ∧
    (s.divertHeld r d).lastSample = s.lastSample := by
  unfold State.divertHeld; simp

@[simp] theorem State.holdExpires_frame (s : State) :
    (s.holdExpires).now = s.now ∧ (s.holdExpires).pending = s.pending ∧ (s.holdExpires).draws = s.draws ∧
    (s.holdExpires).pins = s.pins ∧ (s.holdExpires).run = s.run ∧ (s.holdExpires).jobs = s.jobs ∧
    (s.holdExpires).media = s.media ∧ (s.holdExpires).queue = s.queue ∧ (s.holdExpires).binder = s.binder ∧
    (s.holdExpires).path = s.path ∧ (s.holdExpires).compiler = s.compiler ∧ (s.holdExpires).stapler = s.stapler ∧
    (s.holdExpires).chain = s.chain ∧ (s.holdExpires).qualCount = s.qualCount ∧ (s.holdExpires).rejectNear = s.rejectNear ∧
    (s.holdExpires).rejectFull = s.rejectFull ∧
    (s.holdExpires).lastSample = s.lastSample := by
  unfold State.holdExpires; (repeat' split) <;> simp

@[simp] theorem State.setCompiler_frame (c : CompilerState) (s : State) :
    (s.setCompiler c).now = s.now ∧ (s.setCompiler c).pending = s.pending ∧ (s.setCompiler c).draws = s.draws ∧
    (s.setCompiler c).pins = s.pins ∧ (s.setCompiler c).run = s.run ∧ (s.setCompiler c).jobs = s.jobs ∧
    (s.setCompiler c).media = s.media ∧ (s.setCompiler c).queue = s.queue ∧ (s.setCompiler c).binder = s.binder ∧
    (s.setCompiler c).sets = s.sets ∧ (s.setCompiler c).path = s.path ∧ (s.setCompiler c).stapler = s.stapler ∧
    (s.setCompiler c).routes = s.routes ∧ (s.setCompiler c).bins = s.bins ∧ (s.setCompiler c).chain = s.chain ∧
    (s.setCompiler c).delivery = s.delivery ∧ (s.setCompiler c).qualCount = s.qualCount ∧
    (s.setCompiler c).rejectNear = s.rejectNear ∧ (s.setCompiler c).rejectFull = s.rejectFull ∧
    (s.setCompiler c).lastSample = s.lastSample := by
  simp only [State.setCompiler]; split <;> simp

@[simp] theorem State.awaitEject_frame (r : Fin 8) (c : CompilerState) (s : State) :
    (s.awaitEject r c).now = s.now ∧ (s.awaitEject r c).pending = s.pending ∧ (s.awaitEject r c).draws = s.draws ∧
    (s.awaitEject r c).pins = s.pins ∧ (s.awaitEject r c).run = s.run ∧
    (s.awaitEject r c).jobs = s.jobs ∧ (s.awaitEject r c).media = s.media ∧ (s.awaitEject r c).queue = s.queue ∧
    (s.awaitEject r c).binder = s.binder ∧ (s.awaitEject r c).path = s.path ∧ (s.awaitEject r c).stapler = s.stapler ∧
    (s.awaitEject r c).routes = s.routes ∧ (s.awaitEject r c).bins = s.bins ∧ (s.awaitEject r c).chain = s.chain ∧
    (s.awaitEject r c).qualCount = s.qualCount ∧ (s.awaitEject r c).rejectNear = s.rejectNear ∧
    (s.awaitEject r c).rejectFull = s.rejectFull ∧
    (s.awaitEject r c).lastSample = s.lastSample := by
  unfold State.awaitEject; simp

@[simp] theorem State.startStaple_frame (s : State) :
    (s.startStaple).now = s.now ∧ (s.startStaple).pending = s.pending ∧ (s.startStaple).run = s.run ∧
    (s.startStaple).jobs = s.jobs ∧ (s.startStaple).media = s.media ∧ (s.startStaple).queue = s.queue ∧
    (s.startStaple).binder = s.binder ∧ (s.startStaple).sets = s.sets ∧ (s.startStaple).path = s.path ∧
    (s.startStaple).compiler = s.compiler ∧ (s.startStaple).routes = s.routes ∧ (s.startStaple).bins = s.bins ∧
    (s.startStaple).chain = s.chain ∧ (s.startStaple).delivery = s.delivery ∧ (s.startStaple).qualCount = s.qualCount ∧
    (s.startStaple).rejectNear = s.rejectNear ∧ (s.startStaple).rejectFull = s.rejectFull ∧
    (s.startStaple).lastSample = s.lastSample := by
  simp only [State.startStaple]; split <;> simp

@[simp] theorem State.purgedEject_frame (r : Fin 8) (s : State) :
    (s.purgedEject r).now = s.now ∧ (s.purgedEject r).pending = s.pending ∧ (s.purgedEject r).draws = s.draws ∧
    (s.purgedEject r).pins = s.pins ∧ (s.purgedEject r).run = s.run ∧ (s.purgedEject r).jobs = s.jobs ∧
    (s.purgedEject r).media = s.media ∧ (s.purgedEject r).queue = s.queue ∧ (s.purgedEject r).binder = s.binder ∧
    (s.purgedEject r).path = s.path ∧ (s.purgedEject r).stapler = s.stapler ∧ (s.purgedEject r).chain = s.chain ∧
    (s.purgedEject r).qualCount = s.qualCount ∧ (s.purgedEject r).rejectNear = s.rejectNear ∧
    (s.purgedEject r).rejectFull = s.rejectFull ∧
    (s.purgedEject r).lastSample = s.lastSample := by
  unfold State.purgedEject; (repeat' split) <;> simp

@[simp] theorem State.partComplete_frame (r : Fin 8) (s : State) :
    (s.partComplete r).now = s.now ∧ (s.partComplete r).pending = s.pending ∧ (s.partComplete r).draws = s.draws ∧
    (s.partComplete r).pins = s.pins ∧ (s.partComplete r).run = s.run ∧ (s.partComplete r).jobs = s.jobs ∧
    (s.partComplete r).media = s.media ∧ (s.partComplete r).queue = s.queue ∧ (s.partComplete r).binder = s.binder ∧
    (s.partComplete r).path = s.path ∧ (s.partComplete r).stapler = s.stapler ∧ (s.partComplete r).chain = s.chain ∧
    (s.partComplete r).qualCount = s.qualCount ∧ (s.partComplete r).rejectNear = s.rejectNear ∧
    (s.partComplete r).rejectFull = s.rejectFull ∧
    (s.partComplete r).lastSample = s.lastSample := by
  unfold State.partComplete; (repeat' split) <;> simp

@[simp] theorem State.closeForming_frame (r : Fin 8) (s : State) :
    (s.closeForming r).now = s.now ∧ (s.closeForming r).pending = s.pending ∧ (s.closeForming r).draws = s.draws ∧
    (s.closeForming r).pins = s.pins ∧ (s.closeForming r).run = s.run ∧ (s.closeForming r).jobs = s.jobs ∧
    (s.closeForming r).media = s.media ∧ (s.closeForming r).queue = s.queue ∧ (s.closeForming r).path = s.path ∧
    (s.closeForming r).stapler = s.stapler ∧ (s.closeForming r).chain = s.chain ∧ (s.closeForming r).qualCount = s.qualCount ∧
    (s.closeForming r).rejectNear = s.rejectNear ∧ (s.closeForming r).rejectFull = s.rejectFull ∧
    (s.closeForming r).lastSample = s.lastSample := by
  unfold State.closeForming; (repeat' split) <;> simp

@[simp] theorem State.notifyFault_frame (x : Option SetRec) (n : Nat) (s : State) :
    (s.notifyFault x n).now = s.now ∧ (s.notifyFault x n).pending = s.pending ∧ (s.notifyFault x n).draws = s.draws ∧
    (s.notifyFault x n).pins = s.pins ∧ (s.notifyFault x n).run = s.run ∧ (s.notifyFault x n).jobs = s.jobs ∧
    (s.notifyFault x n).media = s.media ∧ (s.notifyFault x n).queue = s.queue ∧ (s.notifyFault x n).binder = s.binder ∧
    (s.notifyFault x n).sets = s.sets ∧ (s.notifyFault x n).path = s.path ∧ (s.notifyFault x n).compiler = s.compiler ∧
    (s.notifyFault x n).stapler = s.stapler ∧ (s.notifyFault x n).routes = s.routes ∧ (s.notifyFault x n).bins = s.bins ∧
    (s.notifyFault x n).chain = s.chain ∧ (s.notifyFault x n).delivery = s.delivery ∧
    (s.notifyFault x n).qualCount = s.qualCount ∧ (s.notifyFault x n).rejectNear = s.rejectNear ∧
    (s.notifyFault x n).rejectFull = s.rejectFull ∧
    (s.notifyFault x n).lastSample = s.lastSample := by
  and_intros <;> rfl

@[simp] theorem State.staplingEnds_frame (t : Bool) (s : State) :
    (s.staplingEnds t).now = s.now ∧ (s.staplingEnds t).pending = s.pending ∧ (s.staplingEnds t).draws = s.draws ∧
    (s.staplingEnds t).pins = s.pins ∧ (s.staplingEnds t).run = s.run ∧ (s.staplingEnds t).jobs = s.jobs ∧
    (s.staplingEnds t).media = s.media ∧ (s.staplingEnds t).queue = s.queue ∧ (s.staplingEnds t).binder = s.binder ∧
    (s.staplingEnds t).path = s.path ∧ (s.staplingEnds t).chain = s.chain ∧ (s.staplingEnds t).qualCount = s.qualCount ∧
    (s.staplingEnds t).rejectNear = s.rejectNear ∧ (s.staplingEnds t).rejectFull = s.rejectFull ∧
    (s.staplingEnds t).lastSample = s.lastSample := by
  unfold State.staplingEnds; (repeat' split) <;> simp

@[simp] theorem State.bufferTest_frame (s : State) :
    (s.bufferTest).now = s.now ∧ (s.bufferTest).pending = s.pending ∧ (s.bufferTest).draws = s.draws ∧
    (s.bufferTest).pins = s.pins ∧ (s.bufferTest).report = s.report ∧ (s.bufferTest).run = s.run ∧
    (s.bufferTest).jobs = s.jobs ∧ (s.bufferTest).media = s.media ∧ (s.bufferTest).queue = s.queue ∧
    (s.bufferTest).binder = s.binder ∧ (s.bufferTest).sets = s.sets ∧ (s.bufferTest).path = s.path ∧
    (s.bufferTest).stapler = s.stapler ∧ (s.bufferTest).routes = s.routes ∧ (s.bufferTest).bins = s.bins ∧
    (s.bufferTest).chain = s.chain ∧ (s.bufferTest).delivery = s.delivery ∧ (s.bufferTest).qualCount = s.qualCount ∧
    (s.bufferTest).rejectNear = s.rejectNear ∧ (s.bufferTest).rejectFull = s.rejectFull ∧
    (s.bufferTest).lastSample = s.lastSample := by
  unfold State.bufferTest; (repeat' split) <;> simp

@[simp] theorem State.landing_frame (r : Fin 8) (m : Media) (s : State) :
    (s.landing r m).now = s.now ∧ (s.landing r m).pending = s.pending ∧ (s.landing r m).draws = s.draws ∧
    (s.landing r m).pins = s.pins ∧ (s.landing r m).run = s.run ∧ (s.landing r m).jobs = s.jobs ∧
    (s.landing r m).media = s.media ∧ (s.landing r m).queue = s.queue ∧ (s.landing r m).binder = s.binder ∧
    (s.landing r m).stapler = s.stapler ∧ (s.landing r m).chain = s.chain ∧ (s.landing r m).qualCount = s.qualCount ∧
    (s.landing r m).rejectNear = s.rejectNear ∧ (s.landing r m).rejectFull = s.rejectFull ∧
    (s.landing r m).lastSample = s.lastSample := by
  simp only [State.landing]; (repeat' split) <;> simp

@[simp] theorem State.arrivalEffect_frame (e : PathEntry) (s : State) :
    (s.arrivalEffect e).now = s.now ∧ (s.arrivalEffect e).pending = s.pending ∧ (s.arrivalEffect e).draws = s.draws ∧
    (s.arrivalEffect e).pins = s.pins ∧ (s.arrivalEffect e).run = s.run ∧ (s.arrivalEffect e).jobs = s.jobs ∧
    (s.arrivalEffect e).media = s.media ∧ (s.arrivalEffect e).queue = s.queue ∧ (s.arrivalEffect e).binder = s.binder ∧
    (s.arrivalEffect e).stapler = s.stapler ∧ (s.arrivalEffect e).chain = s.chain ∧
    (s.arrivalEffect e).qualCount = s.qualCount ∧ (s.arrivalEffect e).rejectNear = s.rejectNear ∧
    (s.arrivalEffect e).rejectFull = s.rejectFull ∧
    (s.arrivalEffect e).lastSample = s.lastSample := by
  unfold State.arrivalEffect; split <;> simp

@[simp] theorem State.leaveIfDone_frame (i : EntryName) (s : State) :
    (s.leaveIfDone i).now = s.now ∧ (s.leaveIfDone i).pending = s.pending ∧ (s.leaveIfDone i).draws = s.draws ∧
    (s.leaveIfDone i).pins = s.pins ∧ (s.leaveIfDone i).run = s.run ∧ (s.leaveIfDone i).jobs = s.jobs ∧
    (s.leaveIfDone i).media = s.media ∧ (s.leaveIfDone i).queue = s.queue ∧ (s.leaveIfDone i).binder = s.binder ∧
    (s.leaveIfDone i).stapler = s.stapler ∧ (s.leaveIfDone i).chain = s.chain ∧ (s.leaveIfDone i).qualCount = s.qualCount ∧
    (s.leaveIfDone i).rejectNear = s.rejectNear ∧ (s.leaveIfDone i).rejectFull = s.rejectFull ∧
    (s.leaveIfDone i).lastSample = s.lastSample := by
  unfold State.leaveIfDone; (repeat' split) <;> simp

@[simp] theorem State.afterRemoval_frame (s : State) (e : Entry) :
    (s.afterRemoval e).now = s.now ∧ (s.afterRemoval e).pending = s.pending ∧ (s.afterRemoval e).draws = s.draws ∧
    (s.afterRemoval e).pins = s.pins ∧ (s.afterRemoval e).run = s.run ∧ (s.afterRemoval e).media = s.media ∧
    (s.afterRemoval e).queue = s.queue ∧ (s.afterRemoval e).binder = s.binder ∧ (s.afterRemoval e).sets = s.sets ∧
    (s.afterRemoval e).path = s.path ∧ (s.afterRemoval e).compiler = s.compiler ∧ (s.afterRemoval e).stapler = s.stapler ∧
    (s.afterRemoval e).routes = s.routes ∧ (s.afterRemoval e).bins = s.bins ∧ (s.afterRemoval e).chain = s.chain ∧
    (s.afterRemoval e).delivery = s.delivery ∧ (s.afterRemoval e).qualCount = s.qualCount ∧
    (s.afterRemoval e).rejectNear = s.rejectNear ∧ (s.afterRemoval e).rejectFull = s.rejectFull ∧
    (s.afterRemoval e).lastSample = s.lastSample := by
  unfold State.afterRemoval; split <;> simp

@[simp] theorem State.jamFinishing_frame (s : State) :
    (s.jamFinishing).now = s.now ∧ (s.jamFinishing).pending = s.pending ∧ (s.jamFinishing).draws = s.draws ∧
    (s.jamFinishing).pins = s.pins ∧ (s.jamFinishing).run = s.run ∧ (s.jamFinishing).jobs = s.jobs ∧
    (s.jamFinishing).media = s.media ∧ (s.jamFinishing).queue = s.queue ∧ (s.jamFinishing).binder = s.binder ∧
    (s.jamFinishing).path = s.path ∧ (s.jamFinishing).routes = s.routes ∧ (s.jamFinishing).bins = s.bins ∧
    (s.jamFinishing).chain = s.chain ∧ (s.jamFinishing).delivery = s.delivery ∧ (s.jamFinishing).qualCount = s.qualCount ∧
    (s.jamFinishing).rejectNear = s.rejectNear ∧ (s.jamFinishing).rejectFull = s.rejectFull ∧
    (s.jamFinishing).lastSample = s.lastSample := by
  simp only [State.jamFinishing]; (repeat' split) <;> simp

@[simp] theorem State.loseSet_frame (s : State) (r : Fin 8) :
    (s.loseSet r).now = s.now ∧ (s.loseSet r).pending = s.pending ∧ (s.loseSet r).draws = s.draws ∧
    (s.loseSet r).pins = s.pins ∧ (s.loseSet r).run = s.run ∧ (s.loseSet r).media = s.media ∧ (s.loseSet r).queue = s.queue ∧
    (s.loseSet r).binder = s.binder ∧ (s.loseSet r).path = s.path ∧ (s.loseSet r).compiler = s.compiler ∧
    (s.loseSet r).stapler = s.stapler ∧ (s.loseSet r).chain = s.chain ∧ (s.loseSet r).delivery = s.delivery ∧
    (s.loseSet r).qualCount = s.qualCount ∧ (s.loseSet r).rejectNear = s.rejectNear ∧ (s.loseSet r).rejectFull = s.rejectFull ∧
    (s.loseSet r).lastSample = s.lastSample := by
  unfold State.loseSet; (repeat' split) <;> simp

@[simp] theorem State.loseEntry_frame (s : State) (e : PathEntry) :
    (s.loseEntry e).now = s.now ∧ (s.loseEntry e).pending = s.pending ∧ (s.loseEntry e).draws = s.draws ∧
    (s.loseEntry e).pins = s.pins ∧ (s.loseEntry e).run = s.run ∧ (s.loseEntry e).jobs = s.jobs ∧
    (s.loseEntry e).media = s.media ∧ (s.loseEntry e).queue = s.queue ∧ (s.loseEntry e).binder = s.binder ∧
    (s.loseEntry e).sets = s.sets ∧ (s.loseEntry e).path = s.path ∧ (s.loseEntry e).compiler = s.compiler ∧
    (s.loseEntry e).stapler = s.stapler ∧ (s.loseEntry e).routes = s.routes ∧ (s.loseEntry e).bins = s.bins ∧
    (s.loseEntry e).chain = s.chain ∧ (s.loseEntry e).delivery = s.delivery ∧ (s.loseEntry e).qualCount = s.qualCount ∧
    (s.loseEntry e).rejectNear = s.rejectNear ∧ (s.loseEntry e).rejectFull = s.rejectFull ∧
    (s.loseEntry e).lastSample = s.lastSample := by
  unfold State.loseEntry; split <;> simp

@[simp] theorem State.foldl_afterRemoval_frame (l : List Entry) (s : State) :
    (l.foldl State.afterRemoval s).now = s.now ∧ (l.foldl State.afterRemoval s).pending = s.pending ∧
    (l.foldl State.afterRemoval s).draws = s.draws ∧ (l.foldl State.afterRemoval s).pins = s.pins ∧
    (l.foldl State.afterRemoval s).run = s.run ∧ (l.foldl State.afterRemoval s).media = s.media ∧
    (l.foldl State.afterRemoval s).queue = s.queue ∧ (l.foldl State.afterRemoval s).binder = s.binder ∧
    (l.foldl State.afterRemoval s).sets = s.sets ∧ (l.foldl State.afterRemoval s).path = s.path ∧
    (l.foldl State.afterRemoval s).compiler = s.compiler ∧ (l.foldl State.afterRemoval s).stapler = s.stapler ∧
    (l.foldl State.afterRemoval s).routes = s.routes ∧ (l.foldl State.afterRemoval s).bins = s.bins ∧
    (l.foldl State.afterRemoval s).chain = s.chain ∧ (l.foldl State.afterRemoval s).delivery = s.delivery ∧
    (l.foldl State.afterRemoval s).qualCount = s.qualCount ∧ (l.foldl State.afterRemoval s).rejectNear = s.rejectNear ∧
    (l.foldl State.afterRemoval s).rejectFull = s.rejectFull ∧
    (l.foldl State.afterRemoval s).lastSample = s.lastSample := by
  and_intros <;> exact foldl_keeps _ _ (by simp) _ _

@[simp] theorem State.foldl_loseSet_frame (l : List (Fin 8)) (s : State) :
    (l.foldl State.loseSet s).now = s.now ∧ (l.foldl State.loseSet s).pending = s.pending ∧
    (l.foldl State.loseSet s).draws = s.draws ∧ (l.foldl State.loseSet s).pins = s.pins ∧
    (l.foldl State.loseSet s).run = s.run ∧ (l.foldl State.loseSet s).media = s.media ∧
    (l.foldl State.loseSet s).queue = s.queue ∧ (l.foldl State.loseSet s).binder = s.binder ∧
    (l.foldl State.loseSet s).path = s.path ∧ (l.foldl State.loseSet s).compiler = s.compiler ∧
    (l.foldl State.loseSet s).stapler = s.stapler ∧ (l.foldl State.loseSet s).chain = s.chain ∧
    (l.foldl State.loseSet s).delivery = s.delivery ∧ (l.foldl State.loseSet s).qualCount = s.qualCount ∧
    (l.foldl State.loseSet s).rejectNear = s.rejectNear ∧ (l.foldl State.loseSet s).rejectFull = s.rejectFull ∧
    (l.foldl State.loseSet s).lastSample = s.lastSample := by
  and_intros <;> exact foldl_keeps _ _ (by simp) _ _

@[simp] theorem State.foldl_loseEntry_frame (l : List PathEntry) (s : State) :
    (l.foldl State.loseEntry s).now = s.now ∧ (l.foldl State.loseEntry s).pending = s.pending ∧
    (l.foldl State.loseEntry s).draws = s.draws ∧ (l.foldl State.loseEntry s).pins = s.pins ∧
    (l.foldl State.loseEntry s).run = s.run ∧ (l.foldl State.loseEntry s).jobs = s.jobs ∧
    (l.foldl State.loseEntry s).media = s.media ∧ (l.foldl State.loseEntry s).queue = s.queue ∧
    (l.foldl State.loseEntry s).binder = s.binder ∧ (l.foldl State.loseEntry s).sets = s.sets ∧
    (l.foldl State.loseEntry s).path = s.path ∧ (l.foldl State.loseEntry s).compiler = s.compiler ∧
    (l.foldl State.loseEntry s).stapler = s.stapler ∧ (l.foldl State.loseEntry s).routes = s.routes ∧
    (l.foldl State.loseEntry s).bins = s.bins ∧ (l.foldl State.loseEntry s).chain = s.chain ∧
    (l.foldl State.loseEntry s).delivery = s.delivery ∧ (l.foldl State.loseEntry s).qualCount = s.qualCount ∧
    (l.foldl State.loseEntry s).rejectNear = s.rejectNear ∧ (l.foldl State.loseEntry s).rejectFull = s.rejectFull ∧
    (l.foldl State.loseEntry s).lastSample = s.lastSample := by
  and_intros <;> exact foldl_keeps _ _ (by simp) _ _

@[simp] theorem State.jam_frame (k : JamKind) (x : Sensor) (s : State) :
    (s.jam k x).now = s.now ∧ (s.jam k x).pending = s.pending ∧ (s.jam k x).draws = s.draws ∧ (s.jam k x).pins = s.pins ∧
    (s.jam k x).media = s.media ∧ (s.jam k x).chain = s.chain ∧ (s.jam k x).qualCount = s.qualCount ∧
    (s.jam k x).rejectNear = s.rejectNear ∧ (s.jam k x).rejectFull = s.rejectFull ∧
    (s.jam k x).lastSample = s.lastSample := by
  unfold State.jam
  simp only []
  split <;> simp

@[simp] theorem State.confirm_frame (r : Fin 8) (s : State) :
    (s.confirm r).now = s.now ∧ (s.confirm r).pending = s.pending ∧ (s.confirm r).draws = s.draws ∧
    (s.confirm r).pins = s.pins ∧ (s.confirm r).run = s.run ∧ (s.confirm r).media = s.media ∧ (s.confirm r).queue = s.queue ∧
    (s.confirm r).binder = s.binder ∧ (s.confirm r).path = s.path ∧ (s.confirm r).compiler = s.compiler ∧
    (s.confirm r).stapler = s.stapler ∧ (s.confirm r).chain = s.chain ∧ (s.confirm r).qualCount = s.qualCount ∧
    (s.confirm r).rejectNear = s.rejectNear ∧ (s.confirm r).rejectFull = s.rejectFull ∧
    (s.confirm r).lastSample = s.lastSample := by
  simp only [State.confirm]; (repeat' split) <;> simp

@[simp] theorem State.arrive_frame (t : Target) (s : State) :
    (s.arrive t).now = s.now ∧ (s.arrive t).pending = s.pending ∧ (s.arrive t).draws = s.draws ∧ (s.arrive t).pins = s.pins ∧
    (s.arrive t).media = s.media ∧ (s.arrive t).chain = s.chain ∧ (s.arrive t).qualCount = s.qualCount ∧
    (s.arrive t).rejectNear = s.rejectNear ∧ (s.arrive t).rejectFull = s.rejectFull ∧
    (s.arrive t).lastSample = s.lastSample := by
  unfold State.arrive; (repeat' split) <;> simp

end Sys2Proof.Machine
end

