-- ==== Sys2Proof/Laws/Reports.lean ====
section
/-! SUPPORT. What the report operations of Machine/Reports.lean do: which causes are latched, which hold reasons stand, and what a record
appended to the outbound queue leaves. -/

namespace Sys2Proof.Machine

/-- A command taken by a live part answers its effect, with the idle timer following (R145). -/
theorem State.does_live {s : State} (h : s.live) (f : State → State) : s.does f = .next (f s).syncIdle := by
  unfold State.live at h; simp [State.does, h]

/-- Every cause is one of the 33. -/
theorem mem_all (c : Cause) : c ∈ allCauses := by
  have : ∀ k : JamKind, Cause.jam k ∈ allCauses := by intro k; cases k <;> decide
  cases c <;> first | exact this _ | decide

/-- Every hold reason is one of the thirteen. -/
theorem mem_allR (c : Reason) : c ∈ allReasons := by cases c <;> decide

theorem State.latched_def (s : State) (c) : s.latched c ↔ c ∈ s.report.notice.flags := Iff.rfl

theorem State.stands_def (s : State) (c) : s.stands c ↔ c ∈ s.report.feed.reasons := Iff.rfl

/-- Latching sets one cause and keeps the rest (R157). -/
@[simp] theorem NoticeUnit.latch_mem (c x : Cause) (o) (u : NoticeUnit) : x ∈ (u.latch c o).flags ↔ x = c ∨ x ∈ u.flags := by
  simp [NoticeUnit.latch, mem_all]

@[simp] theorem Report.setSlot_flags (k x) (p : Report) : (p.setSlot k x).notice.flags = p.notice.flags := rfl

theorem Report.setSlot_eq (k x) (p : Report) :
    (p.setSlot k x).feed = p.feed ∧ (p.setSlot k x).gov = p.gov ∧ (p.setSlot k x).link = p.link := ⟨rfl, rfl, rfl⟩

@[simp] theorem Report.append_notice (r) (p : Report) : (p.append r).notice = p.notice := rfl

@[simp] theorem Report.append_gov (r) (p : Report) : (p.append r).gov = p.gov := rfl

@[simp] theorem Report.append_queue (r) (p : Report) : (p.append r).link.queue = p.link.queue ++ [r] := rfl

@[simp] theorem Report.append_link (r) (p : Report) : (p.append r).link = {p.link with queue := p.link.queue ++ [r]} := rfl

/-- Sending a parked notice leaves the attention summary alone (R160). -/
theorem Report.sendSlot_flags (k) (p : Report) :
    (p.sendSlot k).notice.flags = p.notice.flags ∧ (p.sendSlot k).notice.towerFlags = p.notice.towerFlags := by
  unfold Report.sendSlot; split <;> (try split) <;> simp [Report.setSlot]

/-- The sending test leaves the attention summary alone (R160). -/
theorem Report.sendingTest_flags (p : Report) :
    p.sendingTest.notice.flags = p.notice.flags ∧ p.sendingTest.notice.towerFlags = p.notice.towerFlags := by
  unfold Report.sendingTest
  generalize List.finRange 8 = l
  induction l generalizing p with
  | nil => exact ⟨rfl, rfl⟩
  | cons a l ih => rw [List.foldl_cons]; exact ⟨(ih _).1.trans (Report.sendSlot_flags a p).1, (ih _).2.trans (Report.sendSlot_flags a p).2⟩

/-- A cause handed to the Notice Unit is latched, and every other stays as it was (R157). -/
@[simp] theorem Report.notify_mem (n o) (x : Cause) (p : Report) :
    x ∈ (p.notify n o).notice.flags ↔ x = n.cause ∨ x ∈ p.notice.flags := by
  unfold Report.notify
  simp only []
  split <;> (try split) <;> (try split) <;> (try split) <;> simp [Report.setSlot, (Report.sendingTest_flags _).1]

@[simp] theorem State.notify_latched (n o) (x : Cause) (s : State) : (s.notify n o).latched x ↔ x = n.cause ∨ s.latched x := by
  simp [State.latched, State.notify]

@[simp] theorem State.recombine_notice (s : State) : s.recombine.report.notice = s.report.notice := by
  unfold State.recombine Report.recombine; simp only []
  split; · rfl
  split; · rfl
  split <;> rfl

@[simp] theorem State.syncIdle_report (s : State) : s.syncIdle.report = s.report := rfl

/-- Raising a reason makes it stand, and no other (R150). -/
@[simp] theorem Feed.raise_mem (r x p) : x ∈ (Feed.raise r p).reasons ↔ x = r ∨ x ∈ p.reasons := by
  unfold Feed.raise; split
  · constructor; exact Or.inr; rintro (rfl | h); assumption; assumption
  · simp only []; split <;> simp [Feed.place, mem_allR]

/-- Dropping a reason ends it, and no other (R150). -/
@[simp] theorem Feed.drop_mem (r x p) : x ∈ (Feed.drop r p).reasons ↔ x ≠ r ∧ x ∈ p.reasons := by
  unfold Feed.drop; split
  · simp only []; split <;> simp [Feed.place, and_comm]
  · rename_i h; constructor
    · intro hx; exact ⟨fun e => h (e ▸ hx), hx⟩
    · exact And.right

/-- A reason set to a condition stands exactly with it (R150). -/
@[simp] theorem Feed.set_mem (r x c p) : x ∈ (Feed.set r c p).reasons ↔ if x = r then c = true else x ∈ p.reasons := by
  unfold Feed.set; split <;> rename_i h <;> by_cases hx : x = r <;> simp [h, hx]

@[simp] theorem State.raise_stands (r x) (s : State) : (s.raise r).stands x ↔ x = r ∨ s.stands x := by
  simp [State.stands, State.raise, Report.raise]

@[simp] theorem State.drop_stands (r x) (s : State) : (s.drop r).stands x ↔ x ≠ r ∧ s.stands x := by
  simp [State.stands, State.drop, Report.drop]

@[simp] theorem State.setReason_stands (r x c) (s : State) : (s.setReason r c).stands x ↔ if x = r then c = true else s.stands x := by
  simp [State.stands, State.setReason, Report.setReason]

@[simp] theorem State.syncIdle_stands (x) (s : State) : s.syncIdle.stands x ↔ s.stands x := Iff.rfl

@[simp] theorem State.syncIdle_latched (x) (s : State) : s.syncIdle.latched x ↔ s.latched x := Iff.rfl

/-- A record appended touches BACKLOG alone among the reasons (R150, R174). -/
theorem Report.append_mem (x r) (p : Report) (h : x ≠ .backlog) : x ∈ (p.append r).feed.reasons ↔ x ∈ p.feed.reasons := by
  simp [Report.append, Report.syncBacklog, Report.setReason, h]

theorem Report.sendSlot_mem (k x) (p : Report) (h : x ≠ .backlog) : x ∈ (p.sendSlot k).feed.reasons ↔ x ∈ p.feed.reasons := by
  unfold Report.sendSlot; split <;> (try split) <;> simp [Report.append_mem, h, Report.setSlot_eq]

theorem Report.sendingTest_mem (x) (p : Report) (h : x ≠ .backlog) : x ∈ p.sendingTest.feed.reasons ↔ x ∈ p.feed.reasons := by
  unfold Report.sendingTest
  generalize List.finRange 8 = l
  induction l generalizing p with
  | nil => exact Iff.rfl
  | cons a l ih => rw [List.foldl_cons]; exact (ih _).trans (Report.sendSlot_mem a x p h)

/-- A cause touches BACKLOG alone among the reasons (R159). -/
theorem Report.notify_stands (n o x) (p : Report) (h : x ≠ .backlog) : x ∈ (p.notify n o).feed.reasons ↔ x ∈ p.feed.reasons := by
  unfold Report.notify; simp only []
  split <;> (try split) <;> (try split) <;> (try split) <;> simp [Report.setSlot_eq, Report.append_mem, Report.sendingTest_mem, h]

theorem State.notify_stands (n o x) (s : State) (h : x ≠ .backlog) :
    (s.notify n o).stands x ↔ s.stands x := Report.notify_stands _ _ _ _ h

/-- A combination touches GOVERNOR alone among the reasons (R153). -/
theorem State.recombine_stands (x) (s : State) (h : x ≠ .governor) : s.recombine.stands x ↔ s.stands x := by
  unfold State.recombine Report.recombine State.stands; simp only []
  split; · rfl
  split; · rfl
  split <;> simp [Report.setRaised, Report.setReason, h]

/-- A disposition touches BACKLOG alone among the reasons (R174). -/
theorem Report.dispose_mem (d l x) (p : Report) (h : x ≠ .backlog) : x ∈ (p.dispose d l).feed.reasons ↔ x ∈ p.feed.reasons := by
  unfold Report.dispose; split
  · exact Report.append_mem _ _ _ h
  split
  · unfold Report.handBack; split <;> (try split) <;> simp [Report.setSlot_eq, Report.syncBacklog, Report.setReason, h]
  · exact Report.notify_stands _ _ _ _ h

/-- A disposition keeps every latched cause (R174). -/
theorem Report.dispose_flags (d l x) (p : Report) : x ∈ p.notice.flags → x ∈ (p.dispose d l).notice.flags := by
  intro hx; unfold Report.dispose; split
  · exact hx
  split
  · unfold Report.handBack; split <;> (try split) <;> exact hx
  · simp [hx]

/-- What a raise, a drop or a setting of a reason leaves of the reports: all but the feed. -/
@[simp] theorem Report.setReason_frame (r : Reason) (c : Bool) (p : Report) :
    (p.setReason r c).gov = p.gov ∧ (p.setReason r c).link = p.link ∧ (p.setReason r c).notice = p.notice := ⟨rfl, rfl, rfl⟩

/-- The idle timer's reset is the only thing the end of a command adds (R145). -/
theorem State.syncIdle_eq (s : State) : s.syncIdle = { s with run := { s.run with idle := s.syncIdle.run.idle } } := rfl

/-- BACKLOG stands exactly from an occupancy of 16 on after a record is appended (R150, R173). -/
theorem Report.append_backlog (r : OutRec) (p : Report) :
    .backlog ∈ (p.append r).feed.reasons ↔ 16 ≤ p.link.queue.length + 1 := by
  simp [Report.append, Report.syncBacklog, Report.setReason, Report.occupancy, Config.backlogMark]

/-- An answer admitted joins the tail and latches nothing (R174). -/
theorem Report.answer_admitted (r : OutRec) (k t : Byte) (p : Report) (h : p.link.queue.length < 24) : p.answer r k t = p.append r := by
  simp [Report.answer, Report.occupancy, Config.answerMark, h]

/-- An answer not admitted is dropped with LINK REPLY LOST (R174). -/
theorem Report.answer_dropped (r : OutRec) (k t : Byte) (p : Report) (h : 24 ≤ p.link.queue.length) :
    p.answer r k t = p.notify ⟨.replyLost, some k.toNat, some t.toNat, none, none⟩ none := by
  simp [Report.answer, Report.occupancy, Config.answerMark, Nat.not_lt.mpr h]

/-- A disposition admitted joins the tail (R174). -/
theorem Report.dispose_admitted (d : OutRec) (l : Notice) (p : Report) (h : p.link.queue.length < 48) : p.dispose d l = p.append d := by
  simp [Report.dispose, Report.occupancy, Config.outboundCapacity, h]

end Sys2Proof.Machine
end

