-- ==== Sys2Proof/Laws/Notices.lean ====
section
/-! SUPPORT. What the idle timer, the governor and the Notice Unit do, in the notions of Safety.lean: one lemma for each operation that says
all of it. -/

namespace Sys2Proof.Machine

/-! ## The idle part and the governor -/

/-- The idle condition of the part (R138, R145). -/
theorem State.isIdle_iff (s : State) : s.isIdle = true ↔ s.standsIdle := by
  have : s.allJobsFree = true ↔ ∀ i : Fin 16, s.jobs[i].state = .free := by
    simp only [State.allJobsFree, List.all_eq_true, decide_eq_true_eq, Vector.mem_toList_iff, Vector.mem_iff_getElem]
    exact ⟨fun h i => h _ ⟨i.val, i.isLt, rfl⟩, fun h _ ⟨i, hi, e⟩ => e ▸ h ⟨i, hi⟩⟩
  simp only [State.isIdle, Delivery.isIdle, State.standsIdle, Bool.and_eq_true, decide_eq_true_eq, List.isEmpty_iff, this, and_assoc]

/-- After every command of a live part the idle timer runs exactly in RUNNING while the part is idle (R145). -/
theorem State.syncIdle_idle (s : State) :
    s.syncIdle.run.idle = if s.run.op = .running ∧ s.isIdle = true then some (s.run.idle.getD s.now) else none := by
  simp [State.syncIdle]

/-- The conditions G1 to G6 as the governor reads them (R152). -/
theorem State.govCond_iff (s : State) (i : Fin 6) : s.govCond i = true ↔ s.condition i := by
  fin_cases i <;> simp [State.govCond, State.condition, Stapler.lowStands]

/-- The governor's combination is that of the conditions as they stand (R152). -/
theorem State.combine_iff (s : State) : s.report.gov.combine s.govCond = true ↔ s.combines := by
  unfold State.combines Governor.combine
  simp only [← State.govCond_iff]
  cases s.report.gov.allMode <;> simp
  · exact fun i h _ => ⟨i, h⟩
  · exact fun i _ => forall_congr' fun j => by cases s.report.gov.selection[j.val] <;> simp

theorem State.recombine_report (s : State) : s.recombine.report = s.report.recombine s.govCond s.now := rfl

/-- What a recombination leaves of the governor: its settings. -/
theorem Report.recombine_settings (cond : Fin 6 → Bool) (now : Nat) (p : Report) : (p.recombine cond now).gov =
    { p.gov with
      comb := p.gov.combine cond, raised := (p.recombine cond now).gov.raised, timer := (p.recombine cond now).gov.timer } := by
  unfold Report.recombine
  simp only []
  split
  · rename_i h; rw [h]
  split
  · rfl
  split <;> rfl

/-- A recombination acts on the combination by the table of R153. -/
theorem Report.recombine_follows (cond : Fin 6 → Bool) (now : Nat) (p : Report) : p.gov.follows now (p.recombine cond now).gov := by
  unfold Report.recombine Governor.follows
  generalize p.gov.combine cond = c
  simp only [Report.setRaised, Report.setReason]
  rcases hc : p.gov.comb <;> rcases hr : p.gov.raised <;> rcases c <;> by_cases hd : p.gov.d = 0 <;>
    rcases hw : p.gov.wait <;> simp_all

/-- A recombination follows the conditions, and GOVERNOR follows raised (R150, R152, R153). -/
theorem State.recombine_governed (s : State) : s.governed s.recombine := by
  refine ⟨?_, Report.recombine_follows _ _ _, ?_, ?_⟩
  · have : s.recombine.combines ↔ s.combines := by
      unfold State.combines
      rw [State.recombine_report, Report.recombine_settings]
      have h : ∀ i, s.recombine.condition i ↔ s.condition i := by
        intro i
        fin_cases i <;> try rfl
        show (s.report.recombine s.govCond s.now).gov.threshold ≤ s.fullCount ↔ _
        rw [Report.recombine_settings]; rfl
      simp only [h]
    rw [this, ← State.combine_iff, State.recombine_report, Report.recombine_settings]
  all_goals
    simp only [State.stands, State.recombine_report, Report.recombine]
    split; · simp
    split; · simp
    rename_i h
    split <;> simp [Report.setRaised, Report.setReason]
    try exact fun e => absurd e.symm h
  
/-! ## The Notice Unit -/

theorem NoticeUnit.eligible_fst {u : NoticeUnit} {k : Fin 8} {x} (h : u.eligible k = some x) : x.1 = k := by
  unfold NoticeUnit.eligible at h
  split at h
  · obtain ⟨y, -, rfl⟩ := Option.map_eq_some_iff.mp h; rfl
  · cases h

/-- The sending test over some classes, each once, sends from their eligible slots as far as 16 records (R160). -/
theorem Report.sendSlots_sends (l : List (Fin 8)) (hl : l.Nodup) (p : Report) :
    let sent := (l.filterMap p.notice.eligible).take (16 - p.link.queue.length)
    (l.foldl Report.sendSlot p).link = { p.link with queue := p.link.queue ++ sent.map fun x => OutRec.notice x.2 } ∧
      (l.foldl Report.sendSlot p).gov = p.gov ∧
      (l.foldl Report.sendSlot p).notice = { p.notice with
        slots := Vector.ofFn fun k : Fin 8 => if k ∈ sent.map Prod.fst then none else p.notice.slots[k] } := by
  induction l generalizing p with
  | nil => simp
  | cons a l ih =>
    have ha := (List.nodup_cons.mp hl).1
    have hl' := (List.nodup_cons.mp hl).2
    simp only [List.foldl_cons]
    by_cases hn : p.link.queue.length < 16
    case neg =>
      have h0 : 16 - p.link.queue.length = 0 := by omega
      have : p.sendSlot a = p := by
        unfold Report.sendSlot; split <;> simp [Report.occupancy, Config.backlogMark, hn]
      rw [this]; simpa [h0] using ih hl' p
    case pos =>
      rcases hx : p.notice.eligible a with _ | ⟨b, n⟩
      · have : p.sendSlot a = p := by
          unfold NoticeUnit.eligible at hx
          unfold Report.sendSlot; split
          · rename_i x hs; simp only [hs] at hx; rw [if_neg]; intro h; simp at h; simp [h] at hx
          · rfl
        rw [this]; simpa [hx] using ih hl' p
      · have hb := NoticeUnit.eligible_fst hx
        simp only at hb; subst hb
        obtain ⟨x, hs, rfl⟩ : ∃ x, p.notice.slots[b] = some x ∧ x.notice = n := by
          unfold NoticeUnit.eligible at hx; split at hx
          · obtain ⟨y, hy, e⟩ := Option.map_eq_some_iff.mp hx; exact ⟨y, hy, by cases e; rfl⟩
          · cases hx
        have : p.sendSlot b = (p.setSlot b none).append (.notice x.notice) := by
          unfold NoticeUnit.eligible at hx
          unfold Report.sendSlot; rw [hs]; simp only []
          rw [if_pos]; simp [Report.occupancy, Config.backlogMark, hn]
          by_contra hc; rw [if_neg (by tauto)] at hx; cases hx
        have hm : l.filterMap ((p.setSlot b none).append (.notice x.notice)).notice.eligible = l.filterMap p.notice.eligible := by
          apply List.filterMap_congr
          intro k hk
          have : k ≠ b := fun e => ha (e ▸ hk)
          simp [NoticeUnit.eligible, Report.setSlot, Fin.val_ne_of_ne this.symm]
        have ht : 16 - p.link.queue.length = (16 - (p.link.queue.length + 1)) + 1 := by omega
        rw [this]
        obtain ⟨h1, h2, h3⟩ := ih hl' ((p.setSlot b none).append (.notice x.notice))
        rw [hm] at h1 h3
        simp only [Report.append_link, Report.append_notice, List.length_append, List.length_cons, List.length_nil, Nat.zero_add] at h1 h3
        refine ⟨?_, h2, ?_⟩
        · rw [h1, List.filterMap_cons, hx, ht]; simp [Report.setSlot]
        · rw [h3, List.filterMap_cons, hx, ht]
          simp only [Report.setSlot, List.take_succ_cons, List.map_cons, List.mem_cons]
          congr 1
          apply Vector.ext
          intro i hi
          by_cases hk : (⟨i, hi⟩ : Fin 8) = b
          · subst hk; simp
          · simp [hk, show b.val ≠ i from fun e => hk (Fin.ext e.symm)]

/-- The sending test sends what `NoticeUnit.sends` lists (R160). -/
theorem Report.sendingTest_sends (p : Report) :
    p.sendingTest.link = { p.link with
      queue := p.link.queue ++ (p.notice.sends p.link.queue.length).map fun x => OutRec.notice x.2 } ∧
      p.sendingTest.gov = p.gov ∧
      p.sendingTest.notice = { p.notice with
        slots := Vector.ofFn fun k : Fin 8 =>
          if k ∈ (p.notice.sends p.link.queue.length).map Prod.fst then none else p.notice.slots[k] } :=
  Report.sendSlots_sends (List.finRange 8) (List.nodup_finRange 8) p

/-- Latching in full (R157): the cause's flag, and the attention flag of a tower it comes from in class 2 or 3. -/
theorem NoticeUnit.latch_eq (c : Cause) (origin : Option (Fin 4)) (u : NoticeUnit) : u.latch c origin = { u with
    flags := (u.latch c origin).flags
    towerFlags := Vector.ofFn fun j : Fin 4 => u.towerFlags[j] || decide (origin = some j ∧ (c.cls = 2 ∨ c.cls = 3)) } := by
  unfold NoticeUnit.latch
  simp only [NoticeUnit.mk.injEq, true_and, and_true]
  apply Vector.ext
  intro i hi
  cases origin with
  | none => simp
  | some t =>
    by_cases hk : c.cls = 2 ∨ c.cls = 3
    · by_cases ht : t.val = i
      · simp [hk, ← ht]
      · simp [hk, ht, show t ≠ ⟨i, hi⟩ from fun e => ht (congrArg Fin.val e)]
    · simp [hk]

/-- A cause handed to the Notice Unit passes its latching and its gates (R157 to R160). -/
theorem State.notify_handed (n : Notice) (origin : Option (Fin 4)) (s : State) : s.handed n origin (s.notify n origin) := by
  refine ⟨fun c => State.notify_latched n origin c s, ?_⟩
  have hu := NoticeUnit.latch_eq n.cause origin s.report.notice
  have hf : (s.notify n origin).report.notice.flags = (s.report.notice.latch n.cause origin).flags := by
    simp only [State.notify, Report.notify]
    split <;> (try split) <;> (try split) <;> (try split) <;> simp [Report.setSlot, (Report.sendingTest_flags _).1]
  simp only [hf]
  have hs : s.report.notice.stops n.cause origin = true ↔ s.report.notice.enables[n.cause.cls] = false ∨
      ∃ j : Fin 4, (origin = some j ∧ (n.cause.cls = 2 ∨ n.cause.cls = 3)) ∧ s.report.notice.towerMasks[j] = true := by
    cases origin <;> simp [NoticeUnit.stops, and_assoc]
  have hl := hu.symm
  revert hl
  generalize hL : s.report.notice.latch n.cause origin = L
  have e1 : L.masks = s.report.notice.masks := by rw [← hL]; rfl
  have e2 : L.globalMask = s.report.notice.globalMask := by rw [← hL]; rfl
  have e3 : L.slots = s.report.notice.slots := by rw [← hL]; rfl
  have e4 : L.stops n.cause origin = s.report.notice.stops n.cause origin := by rw [← hL]; rfl
  intro hl
  have hx : ∀ X, ({ s.report.notice with
      flags := L.flags
      towerFlags := Vector.ofFn fun j : Fin 4 =>
        s.report.notice.towerFlags[j] || decide (origin = some j ∧ (n.cause.cls = 2 ∨ n.cause.cls = 3))
      slots := X } : NoticeUnit) = { L with slots := X } := fun X => by conv_rhs => rw [← hl]
  have hn : (s.notify n origin).report = Report.notify n origin s.report := rfl
  simp only [hl, hx, ← hs, State.sendsFrom, hn, Report.notify, hL, e1, e2, e3, e4, Report.occupancy, Config.backlogMark]
  by_cases h1 : s.report.notice.stops n.cause origin = true
  · simp [h1]
  by_cases h2 : s.report.notice.masks[n.cause.cls] = true ∨ s.report.notice.globalMask = true
  · rw [if_neg h1, if_neg h1, if_pos (by tauto), if_pos (by simpa using h2)]; simp [Report.setSlot, e1, e2, e3]
  by_cases h3 : 16 ≤ s.report.link.queue.length
  · rw [if_neg h1, if_neg h1, if_pos (by tauto), if_neg (by simpa using h2), if_pos h3]; simp [Report.setSlot, e1, e2, e3]
  obtain ⟨hm, hg⟩ : s.report.notice.masks[n.cause.cls] = false ∧ s.report.notice.globalMask = false := by simpa using h2
  have hmg : ¬ (s.report.notice.masks[n.cause.cls] || s.report.notice.globalMask) = true := by simp [hm, hg]
  have hp : ¬ (s.report.notice.masks[n.cause.cls] = true ∨ s.report.notice.globalMask = true ∨ 16 ≤ s.report.link.queue.length) := by
    simp [hm, hg, Nat.lt_of_not_le h3]
  rcases h4 : s.report.notice.slots[n.cause.cls] with _ | x
  · simp [h1, hm, hg, h3]
  · rw [if_neg h1, if_neg hp, if_neg (by simp), if_neg h1, if_neg hmg, if_neg h3, if_pos (by rfl)]
    obtain ⟨k1, -, k3⟩ := Report.sendingTest_sends
      (({ s.report with notice := L } : Report).setSlot n.cause.cls (some ⟨n, false⟩))
    rw [k1, k3]
    simp only [Report.setSlot, e3]
    clear hl hx hL e4
    cases L
    simp only at e1 e2 e3
    subst e1 e2 e3
    exact ⟨rfl, rfl⟩

/-- The NOTICE nearest the head of a queue, where there is one (R174). -/
theorem takeNotice_none {q : List OutRec} (h : ∀ r ∈ q, r.isOther) : takeNotice q = none := by
  induction q with
  | nil => rfl
  | cons r q ih =>
    have hr := h r (by simp)
    have := ih fun x hx => h x (by simp [hx])
    cases r <;> simp_all [takeNotice, OutRec.isOther]

theorem takeNotice_some {before after : List OutRec} {n : Notice} (h : ∀ r ∈ before, r.isOther) :
    takeNotice (before ++ .notice n :: after) = some (n, before ++ after) := by
  induction before with
  | nil => rfl
  | cons r q ih =>
    have hr := h r (by simp)
    have := ih fun x hx => h x (by simp [hx])
    cases r <;> simp_all [takeNotice, OutRec.isOther]

/-- A disposition given to the Link Interface (R161, R174). -/
theorem Report.dispose_disposed (d : OutRec) (lost : Notice) (s : State) :
    s.disposed d lost { s with report := s.report.dispose d lost } := by
  refine ⟨fun h => ?_, fun h => ⟨fun before n after hq hb => ?_, fun hq => ?_⟩⟩
  · simp [Report.dispose_admitted d lost s.report h]
  · have : s.report.dispose d lost = (({ s.report with link := { s.report.link with
        queue := before ++ after ++ [d] } } : Report).syncBacklog.handBack n) := by
      unfold Report.dispose
      rw [if_neg (by simpa [Report.occupancy, Config.outboundCapacity] using h), hq, takeNotice_some hb]
    rw [this]
    simp only [Report.handBack, Report.syncBacklog, Report.setReason]
    rcases hs : s.report.notice.slots[n.cause.cls] with _ | x
    · simp [Report.setSlot]
    · rcases hx : x.handedBack <;> simp [Report.setSlot, hx]
  · have : s.report.dispose d lost = s.report.notify lost none := by
      simp [Report.dispose, Report.occupancy, Config.outboundCapacity, Nat.not_lt.mpr h, takeNotice_none hq]
    rw [this]; exact State.notify_handed lost none s
end Sys2Proof.Machine
end

