-- ==== Sys2Proof/Laws/State.lean ====
section
/-! SUPPORT. State as plain data: equality field by field, and what each field reads after each update of Machine/State.lean and after
the named writes of one record, slot or bin. -/

namespace Sys2Proof.Machine

/-- Two states are equal exactly when every field agrees. -/
theorem State.eq_iff (s t : State) :
    s = t ↔
      s.now = t.now ∧ s.pending = t.pending ∧ s.draws = t.draws ∧ s.pins = t.pins ∧ s.report = t.report ∧
      s.run = t.run ∧ s.jobs = t.jobs ∧ s.media = t.media ∧ s.queue = t.queue ∧ s.binder = t.binder ∧
      s.sets = t.sets ∧ s.path = t.path ∧ s.compiler = t.compiler ∧ s.stapler = t.stapler ∧ s.routes = t.routes ∧
      s.bins = t.bins ∧ s.chain = t.chain ∧ s.delivery = t.delivery ∧ s.qualCount = t.qualCount ∧ s.rejectNear = t.rejectNear ∧
      s.rejectFull = t.rejectFull ∧ s.lastSample = t.lastSample := by
  cases s
  cases t
  simp

/-! ## A held reset and the entry to STARTING -/

@[simp] theorem State.hold_now (c : ResetCause) (l : Bool) (s : State) : (s.hold c l).now = s.now := rfl
@[simp] theorem State.hold_pending (c : ResetCause) (l : Bool) (s : State) : (s.hold c l).pending = s.pending := rfl
@[simp] theorem State.hold_draws (c : ResetCause) (l : Bool) (s : State) : (s.hold c l).draws = s.draws := rfl
@[simp] theorem State.hold_pins (c : ResetCause) (l : Bool) (s : State) : (s.hold c l).pins = s.pins := rfl
@[simp] theorem State.hold_report (c : ResetCause) (l : Bool) (s : State) : (s.hold c l).report = .reset c := rfl
@[simp] theorem State.hold_run (c : ResetCause) (l : Bool) (s : State) : (s.hold c l).run = .reset c l := rfl
@[simp] theorem State.hold_jobs (c : ResetCause) (l : Bool) (s : State) : (s.hold c l).jobs = Vector.replicate 16 .reset := rfl
@[simp] theorem State.hold_media (c : ResetCause) (l : Bool) (s : State) : (s.hold c l).media = Vector.replicate 8 .reset := rfl
@[simp] theorem State.hold_queue (c : ResetCause) (l : Bool) (s : State) : (s.hold c l).queue = .reset := rfl
@[simp] theorem State.hold_binder (c : ResetCause) (l : Bool) (s : State) : (s.hold c l).binder = ⟨none, .reject⟩ := rfl
@[simp] theorem State.hold_sets (c : ResetCause) (l : Bool) (s : State) : (s.hold c l).sets = ⟨Vector.replicate 8 none, []⟩ := rfl
@[simp] theorem State.hold_path (c : ResetCause) (l : Bool) (s : State) : (s.hold c l).path = .reset := rfl
@[simp] theorem State.hold_compiler (c : ResetCause) (l : Bool) (s : State) : (s.hold c l).compiler = .reset := rfl
@[simp] theorem State.hold_stapler (c : ResetCause) (l : Bool) (s : State) : (s.hold c l).stapler = .reset := rfl
@[simp] theorem State.hold_routes (c : ResetCause) (l : Bool) (s : State) : (s.hold c l).routes = .reset := rfl
@[simp] theorem State.hold_bins (c : ResetCause) (l : Bool) (s : State) : (s.hold c l).bins = resetBins := rfl
@[simp] theorem State.hold_chain (c : ResetCause) (l : Bool) (s : State) : (s.hold c l).chain = ⟨Vector.replicate 4 .reset, none⟩ := rfl
@[simp] theorem State.hold_delivery (c : ResetCause) (l : Bool) (s : State) : (s.hold c l).delivery = .reset := rfl
@[simp] theorem State.hold_qualCount (c : ResetCause) (l : Bool) (s : State) : (s.hold c l).qualCount = 20 := rfl
@[simp] theorem State.hold_rejectNear (c : ResetCause) (l : Bool) (s : State) : (s.hold c l).rejectNear = .unqualified := rfl
@[simp] theorem State.hold_rejectFull (c : ResetCause) (l : Bool) (s : State) : (s.hold c l).rejectFull = .unqualified := rfl
@[simp] theorem State.hold_lastSample (c : ResetCause) (l : Bool) (s : State) : (s.hold c l).lastSample = s.lastSample := rfl

@[simp] theorem State.start_now (s : State) : s.start.now = s.now := rfl
@[simp] theorem State.start_pending (s : State) : s.start.pending = s.pending := rfl
@[simp] theorem State.start_draws (s : State) : s.start.draws = s.draws := rfl
@[simp] theorem State.start_pins (s : State) : s.start.pins = s.pins := rfl
@[simp] theorem State.start_report (s : State) : s.start.report = s.report := rfl
@[simp] theorem State.start_run (s : State) : s.start.run = { s.run with startup := some s.now } := rfl
@[simp] theorem State.start_jobs (s : State) : s.start.jobs = s.jobs := rfl
@[simp] theorem State.start_media (s : State) : s.start.media = s.media := rfl
@[simp] theorem State.start_queue (s : State) : s.start.queue = s.queue := rfl
@[simp] theorem State.start_binder (s : State) : s.start.binder = s.binder := rfl
@[simp] theorem State.start_sets (s : State) : s.start.sets = s.sets := rfl
@[simp] theorem State.start_path (s : State) : s.start.path = s.path := rfl
@[simp] theorem State.start_compiler (s : State) : s.start.compiler = s.compiler := rfl
@[simp] theorem State.start_stapler (s : State) : s.start.stapler = s.stapler := rfl
@[simp] theorem State.start_routes (s : State) : s.start.routes = s.routes := rfl
@[simp] theorem State.start_bins (s : State) : s.start.bins = s.bins := rfl
@[simp] theorem State.start_chain (s : State) : s.start.chain = { s.chain with enum := some ⟨true, 0, s.now⟩ } := rfl
@[simp] theorem State.start_delivery (s : State) : s.start.delivery = s.delivery := rfl
@[simp] theorem State.start_qualCount (s : State) : s.start.qualCount = s.qualCount := rfl
@[simp] theorem State.start_rejectNear (s : State) : s.start.rejectNear = s.rejectNear := rfl
@[simp] theorem State.start_rejectFull (s : State) : s.start.rejectFull = s.rejectFull := rfl
@[simp] theorem State.start_lastSample (s : State) : s.start.lastSample = s.now := rfl

/-! ## One set record, one slot, one bin -/

/-- A record written reads back. -/
@[simp] theorem State.setRec_getRec (r : Fin 8) (x : SetRec) (s : State) : (s.setRec r x).getRec r = some x := by
  simp [State.setRec, State.getRec]

/-- Writing one record leaves every other as it was. -/
theorem State.setRec_getRec_ne (r k : Fin 8) (h : k ≠ r) (x : SetRec) (s : State) : (s.setRec r x).getRec k = s.getRec k := by
  have : r.val ≠ k.val := fun e => h (Fin.ext e.symm)
  simp [State.setRec, State.getRec, this]

/-- Any record after one is written. -/
theorem State.setRec_getRec_ite (r k : Fin 8) (x : SetRec) (s : State) :
    (s.setRec r x).getRec k = if k = r then some x else s.getRec k := by
  by_cases h : k = r
  · subst h; simp
  · simp [h, setRec_getRec_ne]

@[simp] theorem State.setRec_order (r : Fin 8) (x : SetRec) (s : State) : (s.setRec r x).sets.order = s.sets.order := rfl

/-- A record in use, changed, reads back changed. -/
theorem State.modRec_getRec (r : Fin 8) (f : SetRec → SetRec) (x : SetRec) (s : State) (h : s.getRec r = some x) :
    (s.modRec r f).getRec r = some (f x) := by
  simp [State.modRec, h]

/-- A change to a FREE record changes nothing. -/
theorem State.modRec_free (r : Fin 8) (f : SetRec → SetRec) (s : State) (h : s.getRec r = none) : s.modRec r f = s := by
  simp [State.modRec, h]

/-- Any slot after one is written. -/
theorem State.setJob_jobs (i k : Fin 16) (j : JobSlot) (s : State) :
    (s.setJob i j).jobs[k] = if k = i then j else s.jobs[k] := by
  by_cases h : k = i
  · subst h; simp [State.setJob]
  · have : i.val ≠ k.val := fun e => h (Fin.ext e.symm)
    simp [State.setJob, this, h]

/-- Any bin after one is changed. -/
theorem State.modBin_bins (b k : Fin 41) (f : Bin → Bin) (s : State) :
    (s.modBin b f).bins[k] = if k = b then f s.bins[b] else s.bins[k] := by
  by_cases h : k = b
  · subst h; simp [State.modBin]
  · have : b.val ≠ k.val := fun e => h (Fin.ext e.symm)
    simp [State.modBin, this, h]

/-- A counter changes only where its slot is not FREE (R6). -/
theorem State.bump_jobs (i : Fin 16) (f : Counters → Counters) (s : State) :
    (s.bump i f).jobs = if s.jobs[i].state = .free then s.jobs
      else s.jobs.set i { s.jobs[i] with counters := f s.jobs[i].counters } := by
  simp only [State.bump]
  split <;> rfl

/-- A reservation changes the reserved height of its bin alone (R106). -/
theorem State.reserve_bins (b k : Fin 41) (h : Nat) (s : State) :
    (s.reserve b h).bins[k] = if k = b then { s.bins[b] with reserved := s.bins[b].reserved + h } else s.bins[k] :=
  State.modBin_bins b k _ s

/-- A reservation removed changes the reserved height of its bin alone (R106). -/
theorem State.unreserve_bins (b k : Fin 41) (h : Nat) (s : State) :
    (s.unreserve b h).bins[k] = if k = b then { s.bins[b] with reserved := s.bins[b].reserved - h } else s.bins[k] :=
  State.modBin_bins b k (fun x => { x with reserved := x.reserved - h }) s

/-- A freed record is absent from the table and from its order, and every other keeps all but its next part (R20). -/
theorem SetTable.without_recs (r k : Fin 8) (t : SetTable) :
    (t.without r).recs[k] = if k = r then none
      else t.recs[k].map fun x =>
        if x.nextPart = some r then { x with nextPart := t.recs[r].bind SetRec.nextPart } else x := by
  by_cases h : k = r
  · subst h; simp [SetTable.without]
  · have e : r.val ≠ k.val := fun e => h (Fin.ext e.symm)
    simp only [SetTable.without, Fin.getElem_fin, Vector.getElem_ofFn, Vector.getElem_set, e, if_false, h]
    congr 2
    split <;> simp_all

end Sys2Proof.Machine
end

