-- ==== Sys2Proof/Laws/Ops.lean ====
section
/-! SUPPORT. What the shared operations on sets and bins do to the record and the bin they act on, that they leave every other record and bin
alone, and that a free name of a path entry is free. -/

namespace Sys2Proof.Machine

/-- Giving a bin's side changes the side of one record alone (R108). -/
theorem State.takeSide_getRec (r k : Fin 8) (b : Fin 41) (x : SetRec) (s : State) (h : s.getRec r = some x) :
    ∃ side, (s.takeSide r b).getRec k = if k = r then some { x with side := side } else s.getRec k := by
  simp only [State.takeSide, h]
  split
  · exact ⟨_, State.setRec_getRec_ite r k _ s⟩
  · exact ⟨.none, State.setRec_getRec_ite r k _ s⟩

/-- Giving a bin's side toggles the next side of that bin alone (R108). -/
theorem State.takeSide_bins (r : Fin 8) (b k : Fin 41) (s : State) :
    ∃ side, (s.takeSide r b).bins[k] = if k = b then { s.bins[b] with nextSide := side } else s.bins[k] := by
  have same : s.bins[k] = if k = b then { s.bins[b] with nextSide := s.bins[b].nextSide } else s.bins[k] := by
    by_cases h : k = b <;> simp [h]
  unfold State.takeSide
  cases s.getRec r with
  | none => exact ⟨_, same⟩
  | some x =>
    by_cases h : x.offset = true
    · exact ⟨_, (congrArg (fun t : State => t.bins[k]) (if_pos h)).trans
        (State.modBin_bins b k (fun y => { y with nextSide := if s.bins[b].nextSide = .left then .right else .left }) (s.setRec r _))⟩
    · exact ⟨_, (congrArg (fun t : State => t.bins[k]) (if_neg h)).trans same⟩

/-- Dropping a set's reservation leaves its record without a chosen bin; no other record changes (R106). -/
theorem State.dropReservation_getRec (r k : Fin 8) (x : SetRec) (s : State) (h : s.getRec r = some x) :
    (s.dropReservation r).getRec k = if k = r then some { x with chosen := none } else s.getRec k := by
  unfold State.dropReservation
  rw [h]
  simp only []
  split
  · exact State.setRec_getRec_ite r k _ s
  · rename_i e
    by_cases hk : k = r
    · subst hk
      rw [if_pos rfl, h, ← e]
    · rw [if_neg hk]

/-- Dropping a set's reservation takes its height off its chosen bin alone (R106). -/
theorem State.dropReservation_bins (r : Fin 8) (b k : Fin 41) (x : SetRec) (s : State) (h : s.getRec r = some x)
    (hb : x.chosen = some b) :
    (s.dropReservation r).bins[k] =
      if k = b then { s.bins[b] with reserved := s.bins[b].reserved - x.height.getD 0 } else s.bins[k] := by
  simp only [State.dropReservation, h, hb]
  exact State.unreserve_bins b k _ _

/-- A set that holds no bin has no reservation to drop (R106). -/
theorem State.dropReservation_none (r : Fin 8) (s : State) (h : s.hasBin r = false) : s.dropReservation r = s := by
  unfold State.hasBin at h
  unfold State.dropReservation
  split
  · rename_i x e
    rw [e] at h
    cases hc : x.chosen <;> simp_all
  · rfl

/-- A set re-targeted carries a divert reason and has bin 0; no other record changes (R92). -/
theorem State.retarget_getRec (r k : Fin 8) (reason : DivertReason) (x : SetRec) (s : State) (h : s.getRec r = some x) :
    ∃ side, (s.retarget r reason).getRec k =
      if k = r then some { x with divert := some (x.divert.getD reason), chosen := some 0, side := side } else s.getRec k := by
  have d := State.dropReservation_getRec r r x s h
  rw [if_pos rfl] at d
  simp only [State.retarget, d]
  obtain ⟨side, e⟩ := State.takeSide_getRec r k 0 { x with divert := some (x.divert.getD reason), chosen := some 0 }
    (((s.dropReservation r).setRec r { x with divert := some (x.divert.getD reason), chosen := some 0 }).reserve 0 (x.height.getD 0))
    (State.setRec_getRec r _ _)
  refine ⟨side, e.trans ?_⟩
  by_cases hk : k = r
  · simp [hk]
  · simp only [hk, if_false]
    exact (State.setRec_getRec_ne r k hk _ _).trans ((State.dropReservation_getRec r k x s h).trans (if_neg hk))

/-- A set given a bin has it, and no other record changes (R95). -/
theorem State.choose_getRec (r k : Fin 8) (b : Fin 41) (x : SetRec) (s : State) (h : s.getRec r = some x) :
    ∃ side, (s.choose r b).getRec k = if k = r then some { x with chosen := some b, side := side } else s.getRec k := by
  have d := State.dropReservation_getRec r r x s h
  rw [if_pos rfl] at d
  simp only [State.choose, d]
  obtain ⟨side, e⟩ := State.takeSide_getRec r k b { x with chosen := some b }
    (((s.dropReservation r).setRec r { x with chosen := some b }).reserve b (x.height.getD 0)) (State.setRec_getRec r _ _)
  refine ⟨side, e.trans ?_⟩
  by_cases hk : k = r
  · simp [hk]
  · simp only [hk, if_false]
    exact (State.setRec_getRec_ne r k hk _ _).trans ((State.dropReservation_getRec r k x s h).trans (if_neg hk))

/-- A set that has found a bin is READY TO EJECT; no other record changes (R131, R132). -/
theorem State.foundBin_getRec (r k : Fin 8) (x : SetRec) (s : State) (h : s.getRec r = some x) :
    (s.foundBin r).getRec k = if k = r then some { x with state := .readyToEject } else s.getRec k := by
  have e : (s.foundBin r).getRec k = (s.modRec r fun x => { x with state := .readyToEject }).getRec k := rfl
  rw [e]
  simp only [State.modRec, h]
  exact State.setRec_getRec_ite r k _ s

/-- The compiler's change of state leaves every set record. -/
theorem State.setCompiler_getRec (k : Fin 8) (c : CompilerState) (s : State) : (s.setCompiler c).getRec k = s.getRec k := by
  unfold State.getRec; simp

/-- Finishing done, the set waits in the compiler HELD or READY TO EJECT; no other record changes (R16, R81). -/
theorem State.awaitEject_getRec (r k : Fin 8) (c : CompilerState) (x : SetRec) (s : State) (h : s.getRec r = some x) :
    (s.awaitEject r c).getRec k =
      if k = r then some { x with state := if x.chosen.isSome then .readyToEject else .held } else s.getRec k := by
  have b : s.hasBin r = x.chosen.isSome := by simp [State.hasBin, h]
  have e : (s.awaitEject r c).getRec k =
      (s.modRec r fun x => { x with state := if s.hasBin r then .readyToEject else .held }).getRec k :=
    State.setCompiler_getRec k c _
  rw [e, b]
  simp only [State.modRec, h]
  exact State.setRec_getRec_ite r k _ s

/-- A bin choice for a record that is FREE does nothing. -/
theorem State.selectBin_free (r : Fin 8) (s : State) (h : s.getRec r = none) : s.selectBin r = s := by
  simp [State.selectBin, h]

/-- A scan takes the first bin that admits the set (R93, R94). -/
theorem State.scan_cases (r : Fin 8) (h : Nat) (bins : List (Fin 41)) (moved : Fin 41 → State → State) (s : State) :
    ((∀ b ∈ bins, s.admits h b = false) ∧ s.scan r h bins moved = s) ∨
      ∃ b ∈ bins, s.admits h b = true ∧ s.scan r h bins moved = moved b (s.choose r b) := by
  unfold State.scan
  split
  · rename_i b e
    exact .inr ⟨b, List.mem_of_find?_eq_some e, List.find?_some e, rfl⟩
  · rename_i e
    exact .inl ⟨fun b hb => by simpa using List.find?_eq_none.mp e b hb, rfl⟩

/-- What READY, RUNNING and WAKING are entered with (R144, R146, R147). -/
theorem State.enters (s : State) :
    (s.enterReady.run.op = .ready ∧ s.enterReady.run.standby = some s.now) ∧
      (s.enterRunning.run.op = .running ∧ s.enterRunning.run.spinUp = some s.now ∧ s.enterRunning.run.standby = none) ∧
      (s.enterWaking.run.op = .waking ∧ s.enterWaking.run.wake = some s.now ∧ s.enterWaking.run.standby = none) := by
  and_intros <;> rfl

/-- While the path list has room (R50), a free name is one that no entry on it has, nor the entry at S2 (R48). -/
theorem PathMonitor.freeId_fresh (p : PathMonitor) (h : p.list.length < 6) :
    (∀ e ∈ p.list, e.id ≠ p.freeId) ∧ ∀ a ∈ p.s2, a.id ≠ p.freeId := by
  cases f : (List.finRange 7).find? fun i => p.list.all (fun e => e.id ≠ i) && p.s2.all fun a => a.id ≠ i with
  | some i =>
    have g : p.freeId = i := by rw [PathMonitor.freeId, f]; rfl
    have k := List.find?_some f
    rw [g]
    simpa [Bool.and_eq_true, Option.all_eq_true] using k
  | none =>
    have k := List.find?_eq_none.mp f
    have sub : List.finRange 7 ⊆ p.list.map PathEntry.id ++ (p.s2.map AtS2.id).toList := by
      intro i hi
      have q := k i hi
      by_contra n
      simp only [List.mem_append, List.mem_map, Option.mem_toList, Option.map_eq_some_iff, not_or, not_exists,
        not_and] at n
      apply q
      simp only [Bool.and_eq_true, List.all_eq_true, decide_eq_true_eq, Option.all_eq_true]
      exact ⟨fun e he => n.1 e he, fun a ha => n.2 a ha⟩
    have l := ((List.nodup_finRange 7).subperm sub).length_le
    cases hs : p.s2 <;> simp [hs] at l <;> omega

/-- A jam detected in JAM is latched and changes nothing else (R63). -/
theorem State.jam_second (k : JamKind) (at_ : Sensor) (s : State) (h : s.run.op = .jam) :
    s.jam k at_ = { s with report := s.report.latchOnly (.jam k) } := by
  simp [State.jam, h]

end Sys2Proof.Machine
end

