-- ==== Sys2Proof/WellFormed.lean ====
section
/-! DEFINITION. Which commands can arise (R165): a frame body holds at most 60 bytes, and a record of an unknown kind has a kind byte
that is none of the seven inbound ones (R176). The operands' types say the rest. -/

namespace Sys2Proof

/-- The most body bytes of a frame (R165). -/
def bodyLimit : Nat := 60

/-- A body of `fixed` bytes followed by `rest` fits a frame. -/
def bodyFits (fixed : Nat) (rest : List Byte) : Bool := fixed + rest.length ≤ bodyLimit

/-- Whether a kind byte is one of the seven inbound kinds (R176). -/
def inboundKind (kind : Byte) : Bool := 0x10 ≤ kind.toNat && kind.toNat ≤ 0x16

/-- Whether a command can arise. -/
def Instr.wellFormed : Instr → Bool
  | .sheet _ rest | .jobOpen _ rest | .jobClose _ rest | .jobPurge _ rest => bodyFits 1 rest
  | .mediaWrite _ rest | .timingWrite _ rest | .routeWrite _ rest | .binWrite _ rest | .towerWrite _ rest | .noticeWrite _ rest
  | .settingsWrite _ rest => bodyFits 2 rest
  | .queryState _ rest | .queryQueue _ rest | .queryPath _ rest | .queryTiming _ rest | .queryCompiler _ rest
  | .queryDelivery _ rest | .queryRoute _ rest | .queryBin _ rest | .queryTower _ rest | .queryJob _ rest | .queryMedia _ rest
  | .querySettings _ rest => bodyFits 2 rest
  | .queryAttentionPeek _ _ extra | .queryAttentionTake _ _ extra => bodyFits 4 extra
  | .pause _ extra | .resume _ extra | .clearJam _ extra | .releaseHold _ extra | .towerReset _ extra | .standby _ extra
  | .wake _ extra | .reset _ extra => bodyFits 2 extra
  | .unknownKind kind _ rest => !inboundKind kind && bodyFits 1 rest
  | .powerOn | .resetnLow | .startupComplete | .startupTimerExpiry | .resetEnd => true
  | .badFrame _ _ | .receivedByte _ | .interByteTimeout | .transmitBegin | .transmitDone => true
  | .s1LeadingEdge | .s1TrailingEdge | .s2LeadingEdge | .s2TrailingEdge | .scLeadingEdge | .srLeadingEdge | .seLeadingEdge
  | .seTrailingEdge | .s0Arrival => true
  | .pathLateWindowExpiry _ | .deliveryWindowExpiry _ | .stallTimerExpiry _ | .bufferRelease => true
  | .splitEjectStart | .jogEnd | .stapleHomeReturn | .stapleHomeTimeout | .ejectStart | .shelfRelease | .g0GateFree
  | .holdTimerExpiry => true
  | .binEmpty _ | .binPresentCovered _ | .binFullSensorCovered _ | .binFullSensorClear _ | .reReference _ => true
  | .cartridgeInsertion | .cartridgeRemoval | .cartridgeEmptyCovered | .cartridgeEmptyClear | .rejectNearFullChange _
  | .rejectFullChange _ => true
  | .towerPollReply _ _ | .towerPollMissed _ | .towerInputChange _ _ _ | .enumerationReply | .enumerationSlotTimeout => true
  | .spinUpEnd | .idleTimerExpiry | .standbyTimerExpiry | .wakeTimerEnd | .governorTimerExpiry => true

end Sys2Proof
end

