-- ==== Sys2Proof/Tests/Slice0.lean ====
section
/-! SUPPORT. The model's own tests: the refusals of WellFormed, values the manual works out, one step of some commands, and for every
statement with hypotheses a concrete state and operands that meet them. -/

namespace Sys2Proof.Tests

open Sys2Proof Sys2Proof.Machine

/-! ## WellFormed: an ill-formed command for each check -/

/-- A body of 61 bytes does not fit a frame (R165). -/
theorem test_wellFormed_refuses_long_bodies :
    (Instr.sheet 0 (List.replicate 60 0)).wellFormed = false ∧ (Instr.jobOpen 0 (List.replicate 60 0)).wellFormed = false ∧
    (Instr.jobClose 0 (List.replicate 60 0)).wellFormed = false ∧ (Instr.jobPurge 0 (List.replicate 60 0)).wellFormed = false ∧
    (Instr.mediaWrite 0 (List.replicate 59 0)).wellFormed = false ∧ (Instr.queryBin 0 (List.replicate 59 0)).wellFormed = false ∧
    (Instr.queryAttentionTake 0 0 (List.replicate 57 0)).wellFormed = false ∧
    (Instr.pause 0 (List.replicate 59 0)).wellFormed = false ∧ (Instr.unknownKind 0x20 0 (List.replicate 60 0)).wellFormed = false := by
  decide

/-- A kind byte that is one of the seven inbound kinds is no unknown kind (R176). -/
theorem test_wellFormed_refuses_known_kinds :
    (Instr.unknownKind 0x10 0 []).wellFormed = false ∧ (Instr.unknownKind 0x16 0 []).wellFormed = false ∧
    (Instr.unknownKind 0x17 0 []).wellFormed = true ∧ (Instr.unknownKind 0x0F 0 []).wellFormed = true := by
  decide

/-- The longest body fits (R165). -/
theorem test_wellFormed_takes_full_bodies :
    (Instr.sheet 0 (List.replicate 59 0)).wellFormed = true ∧ (Instr.mediaWrite 0 (List.replicate 58 0)).wellFormed = true ∧
    (Instr.queryAttentionTake 0 0 (List.replicate 56 0)).wellFormed = true := by
  decide

/-! ## Values the manual works out -/

/-- The late limits of chapter 3.3 and 7.7 at the default settings. -/
theorem test_late_limits :
    PathMonitor.reset.lateLimit 380 = 1327 ∧ PathMonitor.reset.lateLimit 140 = 502 ∧ PathMonitor.reset.lateLimit 300 = 1052 ∧
    PathMonitor.reset.stallLimit 210 = 743 ∧ PathMonitor.reset.deliveryLimit .s0 = 640 ∧
    PathMonitor.reset.deliveryLimit (.te 0) = 2427 ∧ PathMonitor.reset.gateTime = 1568 := by
  decide

/-- The largest late limit (R44). -/
theorem test_largest_late_limit :
    (PathMonitor.lateLimit { PathMonitor.reset with timing := (PathMonitor.reset.timing.set 0 100).set 1 50 |>.set 2 255 } 4000) =
      60255 := by
  decide

set_option maxRecDepth 4000 in
/-- The check values of the CRC (R165). -/
theorem test_crc_check_values :
    crc [0x01] = 0x07 ∧ crc [0x31, 0x32, 0x33, 0x34, 0x35, 0x36, 0x37, 0x38, 0x39] = 0xF4 := by
  decide

/-- Codes outside a list are no value of it (R179). -/
theorem test_codes_outside_their_lists :
    Pattern.ofByte 3 = Option.none ∧ Pattern.ofByte 2 = some .edge2 ∧ StaplePolicy.ofByte 2 = none ∧ RoutePolicy.ofByte 2 = none := by
  decide

/-- A qualified input changes with the N-th equal sample (R109), here N = 3. -/
theorem test_qualification :
    let q := Qual.unqualified
    (q.sample 3 true).2 = false ∧ ((q.sample 3 true).1.sample 3 true).2 = false ∧
    (((q.sample 3 true).1.sample 3 true).1.sample 3 true) = (⟨some true, some true, 0⟩, true) := by
  decide

/-! ## States to step from -/

/-- A part past its start-up, with nothing to report, in a given operating state. -/
def part (op : OpState) : State :=
  { State.reset with
    run := { State.reset.run with op := op, startup := none }
    report := { State.reset.report with feed := ⟨[], none, ⟨false, []⟩⟩, link := ⟨.hunt, none, [], none⟩ }
    chain := { State.reset.chain with enum := none } }

/-- A running part. -/
def running : State := part .running

/-- A job slot that holds job 77. -/
def slot77 (st : JobState) : JobSlot := ⟨st, 77, .none, .degrade, false, false, ⟨0, 0, 0, 0, 0, 0⟩⟩

/-- A running part with job 77 in slot 5. -/
def withJob (st : JobState) : State := { running with jobs := running.jobs.set 5 (slot77 st) }

/-- A set record of job 77. -/
def aSet (st : SetState) (compiled : Nat) (height : Option Nat) (chosen : Option (Fin 41)) : SetRec :=
  { slot := 5, jobNumber := 77, setOrdinal := 3, part := 0, key := none, count := none, pattern := .none, policy := .degrade
    offset := false, route := .none, bound := 2, lastOrdinal := 2, compiled := compiled, thickness := 10 * compiled
    allEligible := true, broken := none, decision := none, result := .notRequested, skip := none, height := height
    chosen := chosen, partBin := none, nextPart := none, side := .none, divert := none, place := .path, state := st }

/-- A state with set record 2 in use. -/
def holding (x : SetRec) (s : State) : State :=
  { s with sets := ⟨(Vector.replicate 8 none).set 2 (some x), [2]⟩ }

/-- A descriptor of job 77's set 3. -/
def aSheet (ordinal : Nat) (first last : Bool) : Descriptor := ⟨100, 5, first, last, 3, ordinal, 0, none, none, none⟩

/-- A path-list entry of record 2. -/
def onPath (id : EntryName) (stage : Stage) (clear : Bool) : PathEntry :=
  ⟨id, some 100, some (5, 3), some 1, .bound 2 0 Media.reset, false, stage, some ⟨0, 1327⟩, clear, false⟩

/-- An orphan's path-list entry. -/
def orphanOnPath (id : EntryName) (stage : Stage) (clear : Bool) : PathEntry :=
  ⟨id, some 100, none, none, .orphan .noDescriptor, false, stage, some ⟨0, 1052⟩, clear, false⟩

/-- An input qualified as `v`. -/
def qual (v : Bool) : Qual := ⟨some v, some v, 0⟩

/-- Four READY towers. -/
def towersReady : TowerChain := ⟨Vector.replicate 4 ⟨true, 0, qual true, qual true, false, false, true, some 0, true⟩, none⟩

/-- A queue of so many REFUSE records. -/
def refusals (n : Nat) : List OutRec := List.replicate n (.refuse 0x11 0 .state)

/-- A part whose outbound queue holds so many records. -/
def queued (n : Nat) (s : State) : State :=
  { s with report := { s.report with link := { s.report.link with queue := refusals n } } }

/-- A queue of 48 records with one NOTICE, of class 5, among them. -/
def noticed : List OutRec := refusals 40 ++ .notice ⟨.gap, some 10, some 12, some 2, some 3⟩ :: refusals 7

/-- A part whose outbound queue is given, with a notice parked in class 5 or none. -/
def queuedFull (q : List OutRec) (slot : Option Parked) (s : State) : State :=
  { s with report := { s.report with
      link := { s.report.link with queue := q }, notice := { s.report.notice with slots := (Vector.replicate 8 none).set 5 slot } } }

/-- What a step answers, seen through one reading of the next state. -/
def after {α : Type} (o : Host.Outcome State Fault Refusal) (f : State → α) : Option α :=
  match o with
  | .next t => some (f t)
  | .fault _ => none
  | .refused _ => none

/-! ## Resets, the queue of commands, start-up -/

/-- A part held in reset. -/
def heldInReset : State := { State.reset with run := { State.reset.run with resetLow := true } }

/-- A part that takes commands, and one held in reset. -/
theorem test_met_PowerOnAndControlResetLeaveTheResetState : State.reset.live ∧ running.live := by
  delta State.live
  decide

theorem test_met_ResetLineHoldsThenStartsThePart :
    running.live ∧ ¬ heldInReset.live ∧ Instr.transmitBegin ≠ .powerOn ∧ Instr.transmitBegin ≠ .resetnLow ∧
      Instr.transmitBegin ≠ .resetEnd := by
  delta State.live
  decide

/-- A tower chain whose tower 3 has not answered the poll of tick 0. -/
def silentTower : TowerChain :=
  { towersReady with towers := towersReady.towers.set 2 { towersReady.towers[2] with answered := false } }

/-- A running part at a tick, its reject tray full for 19 samples and its near-full sensor as given. -/
def sampledAt (now : Nat) (near : Qual) : State :=
  { running with now := now, pins := { running.pins with rejectFull := true }, rejectFull := ⟨none, some true, 19⟩, rejectNear := near }

/-- No command waits, with no step due and with one due. -/
theorem test_met_EmptyQueueTicksOrTakesADueStep :
    running.pending = [] ∧ (part .starting).due = [] ∧ State.reset.pending = [] ∧ State.reset.due ≠ [] := by
  decide

/-- A part held in reset; one with a FEED to send; and an interval ended, with an input of run count 19 and a tower that is silent. -/
theorem test_met_StepsAreDueExactlyOnTheirConditions :
    ¬ heldInReset.live ∧ State.reset.live ∧ Instr.transmitBegin ∈ State.reset.due ∧
      (let s := sampledAt 10 .unqualified;
        s.live ∧ Instr.rejectFullChange true ∈ s.due ∧ s.rejectNear.state = none ∧ Instr.rejectNearFullChange false ∉ s.due) ∧
      (let s := { running with now := 10, lastSample := 10, chain := silentTower };
        s.live ∧ s.due = [.towerPollMissed 2]) := by
  delta State.live
  decide

/-- With no step due: a tick that samples, one that polls a tower for the first time, one that polls an answered tower, one that does
neither, and one held in reset. -/
theorem test_met_TicksSampleTheInputsAndPollTheTowers :
    (let s := { running with now := 10 }; s.pending = [] ∧ s.due = [] ∧ s.live ∧ 10 ≤ s.now - s.lastSample) ∧
      (let s := { running with now := 9, chain := { towersReady with
          towers := towersReady.towers.set 3 { towersReady.towers[3] with poll := none } } };
        s.pending = [] ∧ s.due = [] ∧ s.now - s.lastSample < 10 ∧ s.chain.towers[(3 : Fin 4)].poll = none ∧
          s.chain.towers[(2 : Fin 4)].poll = some 0) ∧
      (let s := { running with now := 10, chain := towersReady };
        s.pending = [] ∧ s.due = [] ∧ s.chain.towers[(2 : Fin 4)].answered = true ∧ 10 ≤ s.now - 0) ∧
      heldInReset.pending = [] ∧ heldInReset.due = [] ∧ ¬ heldInReset.live := by
  delta State.live
  decide

/-- A part whose start-up has nothing left to wait for. -/
def startedUp : State :=
  { part .starting with
    run := { State.reset.run with startup := some 0 }
    bins := Vector.ofFn fun b : Fin 41 => { resetBins[b] with present := qual false, full := qual false }
    stapler := { Stapler.reset with cartridge := qual true, emptySensor := qual false }
    rejectNear := qual false
    rejectFull := qual false
    chain := towersReady
    report := { State.reset.report with feed := ⟨[.starting], none, .starting⟩ } }

/-- The start-up is done with every path sensor clear and STARTING the one reason, and with S1 covered; its timer runs. With one input of the
main unit, a present tower's door, or a bin sensor of a tower that is on not qualified, it is not done. -/
theorem test_met_StartupEndsInReadyOrInAJam :
    (startedUp.live ∧ startedUp.startupDone = true ∧ startedUp.pins.firstCovered = none ∧ startedUp.run.op = .starting ∧
      startedUp.run.startup = some 0 ∧ startedUp.report.feed.reasons = [.starting]) ∧
    let s := { startedUp with pins := { startedUp.pins with s1 := true } };
      s.live ∧ s.startupDone = true ∧ s.pins.firstCovered = some .s1 ∧ s.sets.sound ∧ s.placesSound ∧ s.run.op = .starting ∧
        s.run.startup = some 0 := by
  delta State.live SetTable.sound State.placesSound
  decide

theorem test_met_StartupEndsInReadyOrInAJam_waits :
    ∀ s ∈ [{ startedUp with rejectFull := .unqualified },
        { startedUp with chain := { towersReady with towers := towersReady.towers.set 3 { towersReady.towers[3] with door := .unqualified } } },
        { startedUp with bins := startedUp.bins.set 40 { startedUp.bins[40] with full := .unqualified } }],
      s.live ∧ s.startupDone = false ∧ (∀ k : Fin 4, s.chain.towers[k].present = true ∧ s.chain.towers[k].power.state = some true) := by
  delta State.live
  decide

/-- A part that enumerates a given tower. -/
def enumerating (startup : Bool) (k : Fin 4) : State := { running with chain := { running.chain with enum := some ⟨startup, k, 0⟩ } }

/-- Enumerations at the first tower, with a next one, and at the last, of both origins; and a part with an empty delivery list. -/
theorem test_met_EnumerationCountsTowersInOrder :
    (enumerating true 0).live ∧ (enumerating true 0).chain.enum = some ⟨true, 0, 0⟩ ∧ (1 : Fin 4).val = (0 : Fin 4).val + 1 ∧
      (enumerating true 3).chain.enum = some ⟨true, 3, 0⟩ ∧ (enumerating false 3).chain.enum = some ⟨false, 3, 0⟩ ∧
      running.live ∧ running.run.op ≠ .starting ∧ running.delivery.list = [] := by
  delta State.live
  decide

/-! ## SHEET and job records -/

/-- A running part with so many void entries in its queue and E at 0. -/
def queueOf (n : Nat) (debt : Nat) : State :=
  { running with queue := ⟨List.replicate n (.void 7), some 0, debt, if debt = 0 then none else some 0, 12⟩ }

/-- The distances 0, 1, 8, 9, 127, 128 and 255, with room to the last position, for some positions only, and for none; and a full queue
with no debt and with the most. -/
theorem test_met_SheetsAreAppendedAsFarAsThereIsRoom :
    (queueOf 15 0).live ∧ (queueOf 15 0).working = true ∧
      (∀ n ∈ [7, 12, 15, 16], (queueOf n 0).queue.sound) ∧ (queueOf 16 1).queue.sound ∧ (queueOf 16 255).queue.sound ∧
      (∀ seq ∈ [(0 : Byte), 1, 8, 9, 127, 128, 255], (queueOf 12 0).queue.distance seq = seq.toNat) ∧
      (queueOf 7 0).queue.entries.length + (8 + 1) = 16 ∧ (queueOf 12 0).queue.entries.length = 12 ∧
      (queueOf 16 255).queue.entries.length = 16 ∧ (queueOf 16 255).queue.debt = 255 ∧ (queueOf 16 0).queue.debt = 0 := by
  delta State.live DescQueue.sound
  decide

/-- A part that takes no sheets, with room for one answer, and bodies one byte off their lengths. -/
theorem test_met_RefusedRecordsCarryTheirKindAndTag :
    (queued 23 (part .ready)).live ∧ (queued 23 (part .ready)).working = false ∧ (queued 23 (part .ready)).answers ∧
      ∀ n ∈ [0, 1, 2, 3, 5, 7], let rest := List.replicate n (0 : Byte);
        rest.length ≠ 6 ∧ (n ≠ 1 → rest.length ≠ 1) ∧ (n ≠ 2 → rest.length ≠ 2) ∧ (n ≠ 0 → rest ≠ []) := by
  delta State.live State.answers
  decide

/-- A body one byte short; one with every optional field, and one with none, that are no void entries. -/
theorem test_met_SheetBodiesSpellTheirEntries :
    (List.replicate 5 (0 : Byte)).length < 6 ∧
      (∀ k : Fin 2, let full := k = 0; let flags : Byte := if full then 0x1D else 0x00; let ordinal : Byte := if full then 1 else 255;
        sheetEntry 100 (15 :: flags :: 0 :: 1 :: ordinal :: 7 :: if full then [0xFF, 0xFF, 9, 2] else []) ≠ .void 100 ∧
          flags.getLsbD 2 = full ∧ flags.getLsbD 3 = full ∧ flags.getLsbD 4 = full) := by
  decide

/-- A JOB OPEN for the last slot in READY, in STANDBY and in RUNNING; and for each of the four refusals one that it answers: a slot of 16,
STARTING, a slot in use, and a number in use. -/
theorem test_met_JobOpenOpensItsSlotOrIsRefused :
    (∀ op ∈ [OpState.ready, .standby, .running], (part op).live ∧ (part op).run.op = op ∧ (part op).run.op ≠ .starting ∧
        (part op).jobs[(15 : Fin 16)].state = .free ∧
        ∀ k : Fin 16, k ≠ 15 → (part op).jobs[k].state = .free ∨ (part op).jobs[k].number ≠ u16 77 0) ∧
      (15 : Byte).toNat = (15 : Fin 16).val ∧ Pattern.ofByte 2 = some .edge2 ∧ StaplePolicy.ofByte 1 = some .wait ∧ u16 77 0 ≠ 0 ∧
      (withJob .opened).live ∧ (withJob .opened).answers ∧ 15 < (16 : Byte).toNat ∧ (part .starting).live ∧
      (part .starting).answers ∧ (part .starting).run.op = .starting ∧ (withJob .opened).run.op ≠ .starting ∧
      (5 : Byte).toNat = (5 : Fin 16).val ∧ (withJob .opened).jobs[(5 : Fin 16)].state ≠ .free ∧
      (withJob .opened).jobs[(4 : Fin 16)].state = .free ∧ (4 : Byte).toNat ≠ (5 : Fin 16).val ∧
      (withJob .opened).jobs[(5 : Fin 16)].number = u16 77 0 := by
  delta State.live State.answers
  decide

/-- A part with a HELD set on the shelf and its hold timer running. -/
def heldOnShelf : State :=
  let s := holding (aSet .held 2 (some 20) none) (withJob .opened)
  { s with delivery := { s.delivery with shelf := .occupied, shelfSet := some 2, holdTimer := some 0 } }

/-- A part with job 77 and a descriptor that names its slot. -/
def withSheet (st : JobState) : State :=
  { withJob st with queue := { DescQueue.reset with entries := [.descriptor (aSheet 2 false true)] } }

/-- An OPEN and a PURGING slot, with nothing left of the job and with a descriptor left; a FREE and a CLOSED one; and a slot of 16. -/
theorem test_met_JobCloseClosesOrCompletesItsSlot :
    (∀ st ∈ [JobState.opened, .purging, .free, .closed], (withJob st).live ∧ (withJob st).answers ∧
      (withJob st).jobs[(5 : Fin 16)].state = st ∧ (withJob st).queue.entries.any (Entry.names 5) = false ∧
      (withJob st).sets.names 5 = false ∧ (withSheet st).live ∧ (withSheet st).queue.entries.any (Entry.names 5) = true ∧
      (withSheet st).jobs[(5 : Fin 16)].state = st) ∧
    (5 : Byte).toNat = (5 : Fin 16).val ∧ 15 < (16 : Byte).toNat := by
  delta State.live State.answers
  decide

/-- An OPEN and a CLOSED slot with a set in each of the eight states, a forming one with all its sheets landed and without; a PURGING and a
FREE slot; and a slot of 16. -/
theorem test_met_JobPurgeTreatsEachSetByItsState :
    (∀ st ∈ [JobState.opened, .closed, .purging], ∀ x ∈ [SetState.forming, .gathering, .compiling, .stapling, .stapleWait,
        .readyToEject, .held, .onBelt], ∀ n ∈ [1, 2],
      let s := holding (aSet x n none none) (withJob st);
      s.live ∧ s.answers ∧ s.jobs[(5 : Fin 16)].state = st ∧ s.sets.sound ∧ s.sets.names 5 = true ∧
        s.getRec 2 = some (aSet x n none none) ∧ (aSet x n none none).slot = 5 ∧ ((aSet x n none none).bound = n ↔ n = 2)) ∧
    (withJob .free).live ∧ (withJob .free).answers ∧ (withJob .free).jobs[(5 : Fin 16)].state = .free ∧
      (5 : Byte).toNat = (5 : Fin 16).val ∧ 15 < (16 : Byte).toNat ∧ heldOnShelf.delivery.shelf = .occupied ∧
      heldOnShelf.delivery.shelfSet = some 2 ∧ heldOnShelf.sets.sound := by
  delta State.live State.answers SetTable.sound
  decide

/-! ## Table writes, queries, controls -/

/-- A STARTING part with room for an answer; bodies of no whole entry; and for each table a body in range, whose refusal is STATE, and one
whose index or value is just out of it. -/
theorem test_met_TableWritesOutOfPlaceAreRefused :
    (queued 23 (part .starting)).live ∧ (queued 23 (part .starting)).answers ∧ (queued 23 (part .starting)).run.op = .starting ∧
      (List.replicate 1 (0 : Byte)).length ≤ 1 ∧ ((List.replicate 6 (0 : Byte)).length - 1) % 4 ≠ 0 ∧
      tableBody mediaEntries [7, 10, 210, 0, 1] = some (7, [⟨10, 210, 1⟩]) ∧ ¬ 8 < 7 + 1 ∧ (1 : Byte).toNat ≤ 1 ∧
      tableBody mediaEntries [8, 10, 210, 0, 2] = some (8, [⟨10, 210, 2⟩]) ∧ 8 < 8 + 1 ∧ 1 < (2 : Byte).toNat ∧
      tableBody wordEntries [11, 0, 0] = some (11, [0]) ∧ tableBody wordEntries [12, 0, 0] = some (12, [0]) ∧ 12 < 12 + 1 ∧
      tableBody routeEntries [31, 1, 0, 0, 5, 0, 5, 0, 40, 40, 1] = some (31, [⟨1, 0, 5, 5, 40, 40, 1⟩]) ∧
      tableBody routeEntries [31, 1, 0, 0, 5, 0, 5, 0, 0, 1, 1] = some (31, [⟨1, 0, 5, 5, 0, 1, 1⟩]) ∧
      tableBody binEntries [40, 0, 0, 0, 0, 1] = some (40, [⟨0, 0, 1⟩]) ∧ tableBody binEntries [41, 0, 0, 0, 0, 1] = some (41, [⟨0, 0, 1⟩]) ∧
      [(1 : Byte)] ≠ [] ∧ ¬ 5 < (4 : Byte).toNat + [(1 : Byte)].length ∧ 5 < (5 : Byte).toNat + [(1 : Byte)].length ∧
      (List.replicate 21 (1 : Byte)).length = 21 ∧ (List.replicate 42 (1 : Byte)).length % 21 = 0 ∧
      tableBody wordEntries [5, 1, 0, 40, 0] = some (5, [1, 40]) ∧ tableBody wordEntries [5, 2, 0, 41, 0] = some (5, [2, 41]) := by
  delta State.live State.answers
  decide

/-- Writes of the last entry of each table, with the path empty and with a sheet in it. -/
theorem test_met_MediaAndTimingWritesAreClamped :
    running.live ∧ running.run.op ≠ .starting ∧ tableBody mediaEntries [7, 99, 0, 0, 1] = some (7, [⟨99, 0, 1⟩]) ∧ 7 + 1 ≤ 8 ∧
      (1 : Byte).toNat ≤ 1 ∧ tableBody wordEntries [11, 0xFF, 0xFF] = some (11, [65535]) ∧ 11 + 1 ≤ 12 ∧ running.material = false ∧
      { running with path := { running.path with list := [onPath 0 .toS2 true] } }.material = true ∧ running.answers := by
  delta State.live State.answers
  decide

/-- A write of the last route entry: bins 40 to 40, keys 5 to 5. -/
theorem test_met_RouteWriteBumpsTheGeneration :
    running.live ∧ running.run.op ≠ .starting ∧
      tableBody routeEntries [31, 1, 0, 0, 5, 0, 5, 0, 40, 40, 1] = some (31, [⟨1, 0, 5, 5, 40, 40, 1⟩]) ∧ 31 + 1 ≤ 32 ∧
      ∀ x ∈ [RouteWrite.mk 1 0 5 5 40 40 1], x.valid.toNat ≤ 1 ∧ x.first ≤ x.last ∧ x.last ≤ 40 ∧ (x.first = 0 → x.last = 0) ∧
        x.keyBase ≤ x.keyLimit ∧ x.policy.toNat ≤ 1 := by
  delta State.live
  decide

/-- A write of the last bin with no set held. -/
theorem test_met_BinWriteKeepsFillAndReservations :
    running.live ∧ running.run.op ≠ .starting ∧ running.noneHeld ∧
      tableBody binEntries [40, 0xFF, 0xFF, 0, 0, 1] = some (40, [⟨65535, 0, 1⟩]) ∧ 40 + 1 ≤ 41 ∧ (1 : Byte).toNat ≤ 1 := by
  delta State.live State.noneHeld
  decide

/-- A write of the last tower and one of all the notice settings. -/
theorem test_met_TowerAndNoticeWritesSetTheirValues :
    running.live ∧ running.run.op ≠ .starting ∧ (4 : Byte) ≠ 0 ∧ [(1 : Byte)] ≠ [] ∧ (4 : Byte).toNat + 1 ≤ 5 ∧
      (List.replicate 21 (0 : Byte)).length = 21 ∧ (∀ b ∈ List.replicate 21 (0 : Byte), b.toNat ≤ 1) ∧
      running.report.notice.enables[(7 : Fin 8)] = true ∧ (List.replicate 21 (0 : Byte))[7]? = some 0 := by
  delta State.live
  decide

/-- The settings bytes with every class enabled, and no mask set. -/
def unmasked : List Byte := List.replicate 8 1 ++ List.replicate 13 0

/-- A part with so many records, and a notice parked in classes 2 and 5. -/
def parkedAt (n : Nat) : State :=
  let s := queued n running
  let p : Parked := ⟨⟨.gap, some 10, some 12, some 2, some 3⟩, false⟩
  { s with report := { s.report with notice := { s.report.notice with slots := ((Vector.replicate 8 none).set 2 (some p)).set 5 (some p) } } }

/-- Chapter 9.4: a write that leaves both slots eligible sends both, the first alone, or neither, as far as 16 records. -/
theorem test_met_TowerAndNoticeWritesSetTheirValues_sends :
    (∀ n ∈ [0, 14, 15, 16], (parkedAt n).live ∧ (parkedAt n).run.op ≠ .starting ∧ unmasked.length = 21 ∧ ∀ b ∈ unmasked, b.toNat ≤ 1) ∧
      ∀ x ∈ [(14, some (16, false, false)), (15, some (16, false, true)), (16, some (16, true, true))],
        (after (exec (.noticeWrite 0 (0 :: unmasked)) (parkedAt x.1)) fun t => (t.report.link.queue.length,
          (t.report.notice.slots[(2 : Fin 8)]).isSome, (t.report.notice.slots[(5 : Fin 8)]).isSome)) = x.2 := by
  delta State.live
  decide

/-- A write of the last setting and one of setting 6 at its bound. -/
theorem test_met_SettingsWriteStoresClampedValues :
    running.live ∧ running.run.op ≠ .starting ∧ tableBody wordEntries [11, 0, 0] = some (11, [0]) ∧ 11 + 1 ≤ 12 ∧
      tableBody wordEntries [5, 1, 0, 40, 0] = some (5, [1, 40]) ∧ (40 : Nat) ≤ 40 := by
  delta State.live
  decide

/-- A part whose governor has selected G1 (R152), which holds while no staple is fitted, with D = 5 and a timer that has run 400 ms. -/
def governing (raised comb wait : Bool) (timer : Timer) : State :=
  { running with
    now := 400, report := { running.report with gov := ⟨1, false, 5, wait, 10, comb, raised, timer⟩ } }

/-- A timer towards raised that a write of D leaves, and ends at once; one towards a drop that a cleared WAIT ends; a combination that a write
of the selection changes; and a write of another setting. -/
theorem test_met_SettingsWriteStoresClampedValues_governor :
    (∀ s ∈ [governing false true false (some 0), governing true true false none, governing true false true (some 0)],
        s.live ∧ s.run.op ≠ .starting) ∧
      (∀ x ∈ [(5, some (false, some 0)), (4, some (true, none)), (0, some (true, none))],
        (after (exec (.settingsWrite 1 [9, BitVec.ofNat 8 x.1, 0]) (governing false true false (some 0))) fun t =>
          (t.report.gov.raised, t.report.gov.timer)) = x.2) ∧
      (after (exec (.settingsWrite 1 [10, 0, 0]) { governing true false true (some 0) with
          stapler := { Stapler.reset with count := 5000 } }) fun t => (t.report.gov.raised, t.report.gov.timer)) = some (false, none) ∧
      (after (exec (.settingsWrite 1 [7, 0, 0]) (governing true true true none)) fun t =>
        (t.report.gov.comb, t.report.gov.raised, t.report.gov.timer)) = some (false, true, some 400) ∧
      (after (exec (.settingsWrite 1 [2, 0, 0]) (governing true true false none)) fun t => (t.report.gov.comb, t.report.gov.raised)) =
        some (false, false) := by
  delta State.live
  decide

/-- A part with room for one answer. -/
theorem test_met_QueriesAppendExactlyOneReply :
    (queued 23 running).live ∧ (queued 23 running).answers ∧ (40 : Byte).toNat ≤ 40 ∧ ¬ (41 : Byte).toNat ≤ 40 ∧
      (1 ≤ (4 : Byte).toNat ∧ (4 : Byte).toNat ≤ 4) ∧ ¬ 1 ≤ (0 : Byte).toNat := by
  delta State.live State.answers
  decide

/-- A part with room for one answer, and one with room for none. -/
theorem test_met_TakeClearsTheSummaryOnlyWhenAnswered :
    (queued 23 running).live ∧ (queued 23 running).answers ∧ ¬ (queued 24 running).answers ∧ (queued 24 running).live := by
  delta State.live State.answers
  decide

/-- A jammed part with the S1 sensor covered or clear, and TE1 covered or clear. -/
def jammed (s1 te : Bool) : State :=
  { part .jam with
    pins := { running.pins with s1 := s1 }
    chain := { towersReady with towers := towersReady.towers.set 0 { towersReady.towers[0] with teCovered := te } } }

/-- A part in each of the four states; a tower's covered sensor, a covered S1, no held set, STARTING, and a set on its way stand against the
controls. -/
theorem test_met_RunControlsActInTheirStatesAlone :
    (∀ op ∈ [OpState.running, .paused, .ready, .standby, .starting], (part op).live ∧ (part op).run.op = op ∧ (part op).answers) ∧
      (jammed false true).live ∧ (jammed false true).answers ∧ (jammed false true).chain.towers[(0 : Fin 4)].state = .ready ∧
      (jammed false true).chain.towers[(0 : Fin 4)].teCovered = true ∧ (jammed true false).pins.firstCovered ≠ none ∧
      running.heldSet = none ∧ (let s := { running with delivery := { running.delivery with list := [⟨2, none⟩] } };
        s.live ∧ s.answers ∧ s.run.op ≠ .starting ∧ s.delivery.list ≠ []) := by
  delta State.live State.answers
  decide

/-- A jam with everything clear, with a job in its slot and without. -/
theorem test_met_ClearJamLeavesTheJam :
    (jammed false false).live ∧ (jammed false false).run.op = .jam ∧ (jammed false false).pins.firstCovered = none ∧
      (∀ t : Fin 4, (jammed false false).chain.towers[t].state = .ready → (jammed false false).chain.towers[t].teCovered = false) ∧
      (∀ i : Fin 16, (jammed false false).jobs[i].state = .free) ∧ ∃ i : Fin 16, (withJob .opened).jobs[i].state ≠ .free := by
  delta State.live
  decide

/-- A HELD shelf set, unsplit and without a divert reason. -/
theorem test_met_HeldShelfSetsAreDivertedToBinZero :
    heldOnShelf.live ∧ heldOnShelf.delivery.shelf = .occupied ∧ heldOnShelf.delivery.shelfSet = some 2 ∧
      heldOnShelf.getRec 2 = some (aSet .held 2 (some 20) none) ∧ (aSet .held 2 (some 20) none).state = .held ∧
      (aSet .held 2 (some 20) none).divert = none ∧ (aSet .held 2 (some 20) none).part = 0 ∧ heldOnShelf.delivery.holdTimer = some 0 := by
  delta State.live
  decide

/-! ## The Sheet Link -/

/-- A running part whose receiver is in a given state. -/
def receiving (r : Receiver) : State :=
  { running with report := { running.report with link := { running.report.link with receiver := r, byteTimer := some 0 } } }

/-- A part with job 77 open: it is not idle. -/
def busy : State := withJob .opened

/-- A part with a given outbound queue, FEED slot and record being sent. -/
def outbound (q : List OutRec) (slot : Option FeedRec) (x : Option Sending) : State :=
  { busy with report := { busy.report with
      feed := { busy.report.feed with slot := slot }, link := { busy.report.link with queue := q, sending := x } } }

/-- A receiver in HUNT in a part whose idle timer has nothing to follow, the longest body, a frame for each shape of command, and frames that
spell none. -/
theorem test_met_ReceivedFramesReachTheirRecord :
    busy.live ∧ busy.answers ∧ busy.report.link.receiver = .hunt ∧ busy.syncIdle = busy ∧ (List.replicate 59 (0 : Byte)).length ≤ 59 ∧
      frameCommand 0x10 1 [] = some (.sheet 1 []) ∧ frameCommand 0x14 1 [6, 4, 0, 0] = some (.settingsWrite 1 [4, 0, 0]) ∧
      frameCommand 0x15 1 [9, 0, 1] = some (.queryAttentionTake 1 0 []) ∧ frameCommand 0x16 1 [7] = some (.reset 1 []) ∧
      frameCommand 0x17 1 [] = some (.unknownKind 0x17 1 []) ∧ frameCommand 0x14 1 [7, 0, 0] = none ∧ frameCommand 0x14 1 [] = none ∧
      frameCommand 0x15 1 [13, 0, 0] = none ∧ frameCommand 0x15 1 [0, 0] = none ∧ frameCommand 0x16 1 [8] = none := by
  delta State.live State.answers
  decide

set_option maxRecDepth 4000 in
/-- Each of the receiver's states, lengths of 0 and of 61, a wrong check, a byte that is no start byte, and a running timer. -/
theorem test_met_FrameErrorsReturnTheReceiverToHunt :
    (receiving .hunt).live ∧ (receiving .length).report.link.receiver ≠ .hunt ∧ (receiving .length).report.link.receiver = .length ∧
      60 < (61 : Byte).toNat ∧ (receiving (.check 2 0x16 [0, 3])).report.link.receiver = .check 2 0x16 [0, 3] ∧
      (0 : Byte) ≠ frameCheck 2 0x16 [0, 3] ∧ (receiving .hunt).report.link.receiver = .hunt ∧ (0xA4 : Byte) ≠ 0xA5 ∧
      (receiving .length).report.link.byteTimer = some 0 := by
  delta State.live
  decide

/-- A part with 16 records to send, and notices parked in class 2, masked, and in class 5. -/
def parkedNotices : State :=
  let s := outbound (refusals 16) none none
  let p : Parked := ⟨⟨.gap, some 10, some 12, some 2, some 3⟩, false⟩
  { s with report := { s.report with notice := { s.report.notice with
      masks := (Vector.replicate 8 false).set 2 true, slots := ((Vector.replicate 8 none).set 2 (some p)).set 5 (some p) } } }

/-- A FEED in its slot, a queue head that may leave with 17 records and with 16, a notice parked in class 5 and one in class 2 that is
masked, no notice parked, a HELLO that waits, and a record being sent. -/
theorem test_met_TransmitterSendsTheFeedSlotFirst :
    (outbound [] (some ⟨true, [.paused]⟩) none).live ∧ (outbound [] (some ⟨true, [.paused]⟩) none).report.link.sending = none ∧
      (outbound [] (some ⟨true, [.paused]⟩) none).report.feed.slot = some ⟨true, [.paused]⟩ ∧
      (outbound (refusals 16 ++ refusals 1) none none).report.link.queue = .refuse 0x11 0 .state :: refusals 16 ∧
      (OutRec.refuse 0x11 0 .state).waits = false ∧ (refusals 16).length ≠ 15 ∧
      (outbound [.hello .powerOn none] none none).report.link.queue = .hello .powerOn none :: [] ∧
      (outbound [.hello .powerOn none] none none).report.feed.slot = none ∧
      (outbound [] none (some ⟨.refuse 0x11 0 .state, 0⟩)).report.link.sending = some ⟨.refuse 0x11 0 .state, 0⟩ ∧
      parkedNotices.live ∧ parkedNotices.report.link.sending = none ∧ parkedNotices.report.feed.slot = none ∧
      parkedNotices.report.link.queue = .refuse 0x11 0 .state :: refusals 15 ∧ (refusals 15).length = 15 ∧
      parkedNotices.report.notice.globalMask = false ∧
      parkedNotices.report.notice.slots[(5 : Fin 8)] = some ⟨⟨.gap, some 10, some 12, some 2, some 3⟩, false⟩ ∧
      parkedNotices.report.notice.masks[(5 : Fin 8)] = false ∧
      (∀ j : Fin 8, j < 5 → parkedNotices.report.notice.slots[j] = none ∨ parkedNotices.report.notice.masks[j] = true) ∧
      ∀ j : Fin 8, busy.report.notice.slots[j] = none := by
  delta State.live
  decide

/-! ## Sheets at S1 -/

/-- A running part with an empty queue and E set, and five entries on the path list. -/
theorem test_met_EmptyQueueSheetIsOrphan :
    let s := { queueOf 0 0 with path := { running.path with list := [orphanOnPath 0 .toSR true, orphanOnPath 1 .toSR true,
        orphanOnPath 2 .toSR true, orphanOnPath 3 .toSR true, orphanOnPath 4 .toSR true] } };
      s.live ∧ s.working = true ∧ s.path.list.length < 6 ∧ s.queue.entries = [] ∧ s.queue.expected = some 0 := by
  delta State.live
  decide

/-- A running part with a given queue head and debt, and a forming set or none. -/
def headed (head : Entry) (debt : Nat) (forming : Bool) : State :=
  let s := if forming then holding (aSet .forming 0 none none) (withJob .opened) else withJob .opened
  { s with
    queue := ⟨head :: List.replicate (if debt = 0 then 0 else 15) (.void 7), some 120, debt, if debt = 0 then none else some 116, 12⟩
    binder := ⟨if forming then some 2 else none, .main⟩ }

/-- A gap marker and a void entry at the head, without debt, with a debt of 1 and of more, with a set forming and without. -/
theorem test_met_MarkersAndVoidEntriesBreakTheFormingSet :
    ∀ d ∈ [0, 1, 2], ∀ f ∈ [true, false], ∀ head ∈ [Entry.gap (some 115), .gap none, .void 115],
      let s := headed head d f;
      s.live ∧ s.working = true ∧ s.path.list.length < 6 ∧ s.queue.entries = head :: s.queue.entries.tail ∧ s.queue.debt = d ∧
        (f = false → s.binder.forming = none) ∧
        (f = true → s.binder.forming = some 2 ∧ s.getRec 2 = some (aSet .forming 0 none none)) := by
  delta State.live
  decide

/-- A FIRST sheet, also with LAST, of an OPEN slot, with a record FREE and no set forming. -/
theorem test_met_FirstSheetOpensItsSet :
    ∀ l ∈ [true, false], let s := headed (.descriptor (aSheet 1 true l)) 0 false;
      s.live ∧ s.working = true ∧ s.path.list.length < 6 ∧ s.queue.entries = .descriptor (aSheet 1 true l) :: [] ∧
        s.queue.debt = 0 ∧ s.jobs[(aSheet 1 true l).slot].state = .opened ∧ (aSheet 1 true l).first = true ∧
        s.binder.forming = none ∧ ∃ r : Fin 8, s.getRec r = none := by
  delta State.live
  decide

/-- A sheet that joins a forming set with 254 sheets bound, in its order and out of it. -/
theorem test_met_JoiningSheetIsCountedAndChecked :
    ∀ n ∈ [3, 9], let s := holding { aSet .forming 0 none none with bound := 254 } (headed (.descriptor (aSheet n false true)) 0 true);
      s.live ∧ s.working = true ∧ s.path.list.length < 6 ∧ s.queue.entries = .descriptor (aSheet n false true) :: [] ∧
        s.queue.debt = 0 ∧ s.jobs[(aSheet n false true).slot].state = .opened ∧ (aSheet n false true).first = false ∧
        s.binder.forming = some 2 ∧ s.getRec 2 = some { aSet .forming 0 none none with bound := 254 } ∧
        (aSet .forming 0 none none).slot = (aSheet n false true).slot ∧
        (aSet .forming 0 none none).setOrdinal = (aSheet n false true).setOrdinal ∧ 254 < 255 ∧ 0 ≤ 254 := by
  delta State.live
  decide

/-- A queue head of job 77's slot in a given state, in a part with every set record in use or not, and a forming set or none. -/
def unmatched (st : JobState) (d : Descriptor) (full : Bool) (forming : Option SetRec) : State :=
  let s := withJob st
  let others : Vector (Option SetRec) 8 := Vector.replicate 8 (if full then some (aSet .onBelt 2 (some 20) (some 0)) else none)
  { s with
    queue := ⟨[.descriptor d], some 120, 0, none, 12⟩
    sets := ⟨others.set 2 (if forming.isSome then forming else others[2]), if full then [0, 1, 2, 3, 4, 5, 6, 7] else [2]⟩
    binder := ⟨forming.map fun _ => 2, .main⟩ }

/-- Forming sets: none, one with sheets to land and one without, one of another set ordinal, and one with 255 sheets bound. -/
def formingSets : List (Option SetRec) :=
  [none, some (aSet .forming 0 none none), some (aSet .forming 2 none none), some { aSet .forming 0 none none with setOrdinal := 2 },
    some { aSet .forming 0 none none with bound := 255 }]

/-- A slot FREE, PURGING, CLOSED and OPEN, with a set forming and without, its own and another, with 254 and with 255 sheets bound, landed
all and not, a FIRST sheet and another, with every record in use and not; and a slot that completes and one that does not. -/
theorem test_met_UnmatchedSheetsAreOrphans :
    ∀ st ∈ [JobState.free, .purging, .closed, .opened], ∀ first ∈ [true, false], ∀ full ∈ [true, false], ∀ x ∈ formingSets,
      let s := unmatched st (aSheet 1 first true) full x;
      s.live ∧ s.working = true ∧ s.path.list.length < 6 ∧ s.queue.entries = .descriptor (aSheet 1 first true) :: [] ∧
        s.queue.debt = 0 ∧ s.jobs[(aSheet 1 first true).slot].state = st ∧ (aSheet 1 first true).first = first ∧
        s.binder.forming = (if x.isSome then some 2 else none) ∧ (x.isSome = true → s.getRec 2 = x) := by
  delta State.live
  decide

/-- Every record is in use, and one is not; the forming set is the sheet's own, and another's; it has all its sheets; and the job completes, and does not. -/
theorem test_met_UnmatchedSheetsAreOrphans_boundaries :
    (∀ x ∈ formingSets, (∀ r : Fin 8, (unmatched .opened (aSheet 1 true true) true x).getRec r ≠ none) ∧
      (unmatched .opened (aSheet 1 true true) false x).getRec 3 = none) ∧
    (aSet .forming 0 none none).divert ≠ some .purged ∧ (aSheet 1 true true).slot = (aSet .forming 0 none none).slot ∧
      (aSheet 1 true true).setOrdinal = (aSet .forming 0 none none).setOrdinal ∧ (aSheet 1 true true).setOrdinal ≠ 2 ∧
      (aSet .forming 2 none none).compiled = (aSet .forming 2 none none).bound ∧
      (unmatched .closed (aSheet 1 true true) false none).sets.names 5 = false ∧
      (unmatched .closed (aSheet 1 true true) true none).sets.names 5 = true := by
  decide

/-- A part in each of the states, and a running one with six entries on the path list. -/
theorem test_met_S1EdgesThatClassifyNothing :
    (∀ op ∈ [OpState.starting, .ready, .standby, .waking, .jam], (part op).live ∧ (part op).run.op = op) ∧ running.working = true ∧
      6 ≤ (([0, 1, 2, 3, 4, 5] : List EntryName).map fun i => orphanOnPath i .toSR true).length := by
  delta State.live
  decide

/-- A part whose S1 is covered, since tick 0, by one entry. -/
def covered (now : Nat) (e : PathEntry) : State :=
  let s := holding (aSet .gathering 0 none none) (withJob .opened)
  { s with now := now, path := { s.path with list := [e], s1 := some ⟨e.id, 0, 210, some ⟨0, 743⟩⟩ } }

/-- A sheet that has landed with its tail on S2 is still the one named there as the next sheet reaches S1, which takes another name (R48). -/
theorem test_the_sheet_at_s2_keeps_its_name :
    (after (exec .s1LeadingEdge { running with path := { running.path with s2 := some ⟨0, none⟩ } }) fun t =>
      (t.path.s2, t.path.list.map PathEntry.id)) = some (some ⟨0, none⟩, [1]) := by
  decide

/-- No sheet at S1; a sheet at S1 within the length tolerance and beyond it on both sides; an orphan and a bound sheet that have arrived. -/
theorem test_met_S1TrailingEdgeChecksTheLength :
    running.live ∧ running.path.s1 = none ∧
      (∀ n ∈ [600, 656, 700], let s := covered n (onPath 3 .toS2 false);
        s.live ∧ s.path.s1 = some ⟨3, 0, 210, some ⟨0, 743⟩⟩ ∧ s.path.entry 3 = some (onPath 3 .toS2 false) ∧
          (onPath 3 .toS2 false).stage ≠ .arrived ∧ (onPath 3 .toS2 false).boundTo = some (2, Media.reset) ∧
          s.getRec 2 = some (aSet .gathering 0 none none)) ∧
      12 + 600 * 320 / 1000 < 210 ∧ 656 * 320 / 1000 = 209 ∧ 12 + 210 < 700 * 320 / 1000 ∧
      (covered 700 (orphanOnPath 3 .arrived false)).path.entry 3 = some (orphanOnPath 3 .arrived false) ∧
      (orphanOnPath 3 .arrived false).stage = .arrived ∧ (orphanOnPath 3 .arrived false).body = .orphan .noDescriptor ∧
      (covered 700 (onPath 3 .arrived false)).path.entry 3 = some (onPath 3 .arrived false) ∧
      (onPath 3 .arrived false).stage = .arrived ∧ (onPath 3 .arrived false).boundTo = some (2, Media.reset) := by
  delta State.live
  decide

/-! ## Sheets at S2, SC and SR -/

/-- A part with given path-list entries and entry buffer, its compiler in a given state for record 2. -/
def travelling (list : List PathEntry) (buffer : List EntryName) (c : CompilerState) (contents : Nat) (x : SetRec) : State :=
  let s := holding x (withJob .opened)
  { s with
    path := { s.path with list := list, buffer := buffer }
    compiler := { s.compiler with
      state := c, current := if c = .empty then none else some 2, contents := contents
      inFlight := if list.any (fun e => e.stage = .toSC) then 10 else 0 } }

/-- A sheet at S2 with the compiler EMPTY, COLLECTING its set and full to the last and beyond, FINISHING, with three and four sheets on the
buffer; and the head of the buffer before a compiler EMPTY and COLLECTING its set, and one that a released sheet keeps. -/
theorem test_met_SheetsGoStraightOnOrOntoTheBuffer :
    let x := aSet .gathering 0 none none;
      let one := [onPath 5 .toS2 true];
      let four := [onPath 0 .onBuffer true, onPath 1 .onBuffer true, onPath 2 .onBuffer true, onPath 3 .onBuffer true];
      (∀ s ∈ [travelling one [] .empty 0 x, travelling (onPath 4 .toSC true :: one) [] .collecting 980 x,
          travelling one [] .finishing 0 x, travelling (four ++ one) [0, 1, 2] .empty 0 x, travelling (four ++ one) [0, 1, 2, 3] .empty 0 x],
        s.live ∧ s.working = true ∧ s.path.oldest .toS2 = some (onPath 5 .toS2 true)) ∧
      (onPath 5 .toS2 true).boundTo = some (2, Media.reset) ∧
      (let s := travelling one [] .empty 0 x;
        s.path.buffer = [] ∧ s.compiler.state = .empty ∧ s.path.se = none ∧ ∀ e ∈ s.path.list, e.stage ≠ .toSC) ∧
      (let s := travelling (onPath 4 .toSC true :: one) [] .collecting 980 x;
        s.path.buffer = [] ∧ s.compiler.state = .collecting ∧ s.compiler.current = some 2 ∧ s.compiler.splitSheet = none ∧
          s.compiler.contents + s.compiler.inFlight + Media.reset.thickness ≤ 1000 ∧
          (onPath 4 .toSC true).boundTo = some (2, Media.reset)) ∧
      (travelling one [] .finishing 0 x).compiler.state ≠ .empty ∧ (travelling one [] .finishing 0 x).compiler.state ≠ .collecting ∧
      (travelling (four ++ one) [0, 1, 2] .empty 0 x).path.buffer.length < 4 ∧
      4 ≤ (travelling (four ++ one) [0, 1, 2, 3] .empty 0 x).path.buffer.length ∧
      (let s := travelling four [0, 1, 2, 3] .empty 0 x;
        s.path.buffer = 0 :: [1, 2, 3] ∧ s.path.entry 0 = some (onPath 0 .onBuffer true) ∧ s.compiler.state = .empty ∧
          s.path.se = none ∧ ∀ e ∈ s.path.list, e.stage ≠ .toSC) ∧
      (let s := travelling one [] .collecting 991 x;
        s.path.buffer = [] ∧ s.compiler.state = .collecting ∧ s.compiler.current = some 2 ∧ s.compiler.splitSheet = none ∧
          1000 < s.compiler.contents + s.compiler.inFlight + Media.reset.thickness) ∧
      (let s := travelling four [0, 1, 2, 3] .collecting 990 x;
        s.compiler.state = .collecting ∧ s.compiler.current = some 2 ∧ s.compiler.splitSheet = none ∧
          s.compiler.contents + s.compiler.inFlight + Media.reset.thickness ≤ 1000) ∧
      (let s := travelling ({ onPath 4 .toSC true with released := true } :: four) [0, 1, 2, 3] .collecting 0 x;
        ∃ e ∈ s.path.list, e.released = true ∧ e.stage = .toSC) := by
  delta State.live
  decide

/-- A sheet that lands with S1 clear, the last of its set and not, of a set purged and not, before an EMPTY and a COLLECTING compiler, with a
sheet of its set on the buffer that there is room for and one that there is not; and one with S1 still covered. -/
theorem test_met_LandingsAreCreditedToTheirSet :
    ∀ clear ∈ [true, false], ∀ n ∈ [0, 1], ∀ d ∈ [none, some DivertReason.purged], ∀ c ∈ [CompilerState.empty, .collecting],
      ∀ tu ∈ [10, 980], let x := { aSet .gathering n none none with divert := d, thickness := tu };
      let s := travelling [onPath 4 .toSC clear, onPath 5 .onBuffer true] [5] c 0 x;
      s.live ∧ s.working = true ∧ s.path.oldest .toSC = some (onPath 4 .toSC clear) ∧
        s.path.entry 4 = some (onPath 4 .toSC clear) ∧ (onPath 4 .toSC clear).boundTo = some (2, Media.reset) ∧
        s.getRec 2 = some x ∧ (n = 1 → x.compiled + 1 = x.bound) ∧ x.divert = d ∧ s.compiler.state = c ∧
        (c = .collecting → s.compiler.current = some 2) ∧ (onPath 4 .toSC clear).s1Clear = clear ∧
        s.path.entry 5 = some (onPath 5 .onBuffer true) ∧ (onPath 5 .onBuffer true).boundTo = some (2, Media.reset) := by
  delta State.live
  decide

/-- A part with an orphan on its way to SR, S1 clear. -/
def rejecting : State := travelling [orphanOnPath 4 .toSR true] [] .empty 0 (aSet .gathering 0 none none)

/-- R174: with 47 records the disposition joins them; with 48 the one NOTICE makes room, and goes to its class's slot unless a newer notice is
parked there; with no NOTICE the disposition is dropped, and DISPOSITION LOST is latched. -/
theorem test_met_OrphansAreRejectedAtSR_full :
    noticed.length = 48 ∧ (refusals 48).length = 48 ∧ (∀ r ∈ refusals 40, r ≠ .notice ⟨.gap, some 10, some 12, some 2, some 3⟩) ∧
      (∀ x ∈ [(none, some (48, some true)), (some ⟨⟨.stale, none, none, none, none⟩, true⟩, some (48, some true)),
          (some ⟨⟨.stale, none, none, none, none⟩, false⟩, some (48, some false))],
        (after (exec .srLeadingEdge (queuedFull noticed x.1 rejecting)) fun t =>
          (t.report.link.queue.length, (t.report.notice.slots[(5 : Fin 8)]).map Parked.handedBack)) = x.2) ∧
      (after (exec .srLeadingEdge (queuedFull (refusals 48) none rejecting)) fun t =>
        (t.report.link.queue.length, t.report.notice.flags)) = some (48, [.dispositionLost]) := by
  decide

/-- An orphan at SR with S1 clear and 47 records queued; nothing expected anywhere; and a part that is not working. -/
theorem test_met_OrphansAreRejectedAtSR :
    (let s := queued 47 rejecting;
        s.live ∧ s.working = true ∧ s.path.oldest .toSR = some (orphanOnPath 4 .toSR true) ∧
          s.path.entry 4 = some (orphanOnPath 4 .toSR true) ∧ (orphanOnPath 4 .toSR true).body = .orphan .noDescriptor ∧
          (orphanOnPath 4 .toSR true).s1Clear = true) ∧
      running.live ∧ running.working = true ∧ running.path.oldest .toS2 = none ∧ running.path.oldest .toSC = none ∧
      running.path.oldest .toSR = none ∧ (part .ready).live ∧ (part .ready).working = false := by
  delta State.live
  decide

/-! ## SE, arrivals and expiries -/

/-- A part with record 2 at SE, onto the delivery list or onto the shelf. -/
def atSE (taken onList : Bool) (chosen : Option (Fin 41)) : State :=
  let s := holding (aSet .readyToEject 2 (some 20) chosen) (withJob .opened)
  { s with
    path := { s.path with
      se := some ⟨2, 210, taken, if taken then none else some ⟨0, 1000⟩, if taken then some ⟨0, 743⟩ else none⟩ }
    delivery := if onList then { s.delivery with list := [⟨2, none⟩] } else { s.delivery with shelf := .incoming, shelfSet := some 2 } }

/-- A set at SE with a place on the list and a bin in a tower or bin 0, one for the shelf with a bin and without, and an edge nothing
announced. -/
theorem test_met_SetsPassSE :
    (∀ b ∈ [(0 : Fin 41), 40], let s := atSE false true (some b);
        s.live ∧ s.working = true ∧ s.path.se = some ⟨2, 210, false, some ⟨0, 1000⟩, none⟩ ∧
          s.getRec 2 = some (aSet .readyToEject 2 (some 20) (some b)) ∧ ListEntry.mk 2 none ∈ s.delivery.list) ∧
      (∀ c ∈ [none, some (7 : Fin 41)], let s := atSE false false c;
        s.live ∧ s.working = true ∧ s.path.se = some ⟨2, 210, false, some ⟨0, 1000⟩, none⟩ ∧
          s.getRec 2 = some (aSet .readyToEject 2 (some 20) c) ∧ ListEntry.mk 2 none ∉ s.delivery.list) ∧
      running.working = true ∧ running.path.se = none ∧ (atSE true true none).working = true ∧
      (atSE true true none).path.se = some ⟨2, 210, true, none, some ⟨0, 743⟩⟩ := by
  delta State.live
  decide

/-- A part with record 2 on its way to bin 0. -/
def onItsWay : State :=
  let s := holding (aSet .onBelt 2 (some 20) (some 0)) (withJob .opened)
  queued 47 { s with delivery := { s.delivery with list := [⟨2, some ⟨.s0, ⟨0, 640⟩⟩⟩] } }

/-- A set on its way to bin 0 with 47 records queued, and with 48, one of them a NOTICE or none; and nothing expected at S0. -/
theorem test_met_ArrivalsAreConfirmed :
    onItsWay.live ∧ onItsWay.working = true ∧ onItsWay.delivery.expecting .s0 = some ⟨2, some ⟨.s0, ⟨0, 640⟩⟩⟩ ∧
      onItsWay.getRec 2 = some (aSet .onBelt 2 (some 20) (some 0)) ∧
      (aSet .onBelt 2 (some 20) (some 0)).chosen = some 0 ∧ onItsWay.report.link.queue.length = 47 ∧
      (∀ q ∈ [noticed, refusals 48], (queuedFull q none onItsWay).delivery.expecting .s0 = some ⟨2, some ⟨.s0, ⟨0, 640⟩⟩⟩ ∧
        (queuedFull q none onItsWay).report.link.queue.length = 48) ∧
      onItsWay.jobs[(5 : Fin 16)].state ≠ .free ∧ running.working = true ∧ running.delivery.expecting .s0 = none := by
  delta State.live
  decide

/-- A part with a sheet at S1 and one at S2, the level of S1 as given. -/
def watched (v : Bool) : State :=
  let s := covered 0 (onPath 3 .toS2 false)
  { s with pins := { s.pins with s1 := v }, path := { s.path with s2 := some ⟨4, some ⟨0, 743⟩⟩ } }

/-- Every window and stall timer that can run, with the watched sensor covered and clear. -/
theorem test_met_ExpiriesDeclareAJam :
    (∀ v ∈ [true, false], let s := watched v;
        s.live ∧ s.run.op ≠ .jam ∧ s.path.lateWindow .s2 = some ⟨0, 1327⟩ ∧ s.path.stall .s1 = some ⟨0, 743⟩ ∧ s.pins.s1 = v ∧
          s.path.stall .s2 = some ⟨0, 743⟩) ∧
      (atSE false true (some 0)).path.lateWindow .se = some ⟨0, 1000⟩ ∧ (atSE true true (some 0)).path.stall .se = some ⟨0, 743⟩ ∧
      onItsWay.delivery.lateWindow .s0 = some ⟨0, 640⟩ ∧
      (let s := travelling [onPath 4 .toSC true, orphanOnPath 5 .toSR true] [] .empty 0 (aSet .gathering 0 none none);
        s.path.lateWindow .sc = some ⟨0, 1327⟩ ∧ s.path.lateWindow .sr = some ⟨0, 1052⟩) := by
  delta State.live
  decide

/-- Those parts are sound. -/
theorem test_met_ExpiriesDeclareAJam_sound :
    ∀ s ∈ [watched true, watched false, atSE false true (some 0), atSE true true (some 0), onItsWay,
      travelling [onPath 4 .toSC true, orphanOnPath 5 .toSR true] [] .empty 0 (aSet .gathering 0 none none)],
      s.live ∧ s.run.op ≠ .jam ∧ s.sets.sound ∧ s.placesSound := by
  delta State.live SetTable.sound State.placesSound
  decide

/-! ## Finishing -/

/-- A set that gathers, and one that forms, with its split sheet on the buffer and all in flight landed. -/
theorem test_met_SplitEjectDividesTheSet :
    ∀ st ∈ [SetState.gathering, .forming], let x := aSet st 1 none none;
      let s := travelling [onPath 4 .onBuffer true] [4] .collecting 995 x;
      let s := { s with compiler := { s.compiler with splitSheet := some 4 } };
      s.live ∧ s.compiler.splitSheet = some 4 ∧ s.compiler.state = .collecting ∧ s.compiler.inFlight = 0 ∧
        s.compiler.current = some 2 ∧ s.getRec 2 = some x ∧ (x.state = .forming ∨ x.state = .gathering) ∧
        x.part = 0 ∧ ∃ c : Fin 8, s.getRec c = none := by
  delta State.live
  decide

/-- A part whose jog has run from tick 0, with a READY stapler of so many staples. -/
def jogging (x : SetRec) (staples : Nat) : State :=
  let s := travelling [] [] .finishing 20 x
  { s with
    compiler := { s.compiler with jog := some 0 }
    stapler := { s.stapler with state := .ready, count := staples, cartridge := qual true, emptySensor := qual false } }

/-- The jog of a set that is stapled, of one that waits, of one that is skipped or asks for nothing, and of a purged one. -/
theorem test_met_JogEndDecidesTheSet :
    let x := { aSet .compiling 2 none none with pattern := .corner, policy := .wait };
      (∀ n ∈ [0, 1], (jogging x n).live ∧ (jogging x n).compiler.jog = some 0 ∧ (jogging x n).compiler.current = some 2 ∧
        (jogging x n).getRec 2 = some x) ∧
      (x.decide (jogging x 1).stapler).1 = .staple ∧ (x.decide (jogging x 0).stapler).1 = .wait ∧
      ({ x with policy := .degrade }.decide (jogging x 0).stapler).1 = .skip ∧
      ((aSet .compiling 2 none none).decide (jogging x 0).stapler).1 = .notRequested ∧
      { x with divert := some DivertReason.purged }.divert = some .purged ∧ x.divert ≠ some .purged := by
  delta State.live
  decide

/-- A part that staples record 2 with EDGE2, the operation having started at tick 0. -/
def stapling (now made count : Nat) : State :=
  let s := jogging { aSet .stapling 2 (some 32) none with pattern := .edge2 } count
  { s with
    now := now
    compiler := { s.compiler with state := .stapling, jog := none }
    stapler := { s.stapler with state := .stapling, made := made, homeTimer := some 0, drive := true } }

/-- A head home at 600 ms and at 601 ms, with a second operation to follow and without. -/
theorem test_met_StapleOperationsEndInTheirResult :
    (∀ n ∈ [600, 601], ∀ m ∈ [0, 1], (stapling n m 1).live ∧ (stapling n m 1).stapler.homeTimer = some 0 ∧
        (stapling n m 1).compiler.current = some 2 ∧
        (stapling n m 1).getRec 2 = some { aSet .stapling 2 (some 32) none with pattern := .edge2 }) ∧
      (aSet .stapling 2 (some 32) none).divert ≠ some .purged ∧ (stapling 600 0 1).now - 0 ≤ 600 ∧ 600 < (stapling 601 0 1).now - 0 ∧
      0 + 1 < 2 ∧ (stapling 600 0 1).stapler.stopPending = false ∧ (stapling 600 0 1).stapler.cartridge.state = some true ∧
      1 ≤ (stapling 600 0 1).stapler.count ∧ ¬ (1 + 1 < 2) ∧
      (stapling 600 0 200).stapler.low = 200 ∧ (stapling 600 0 200).stapler.count = 200 ∧ 200 - 1 < 200 ∧ 200 ≤ 201 - 1 := by
  delta State.live
  decide

/-- A part with record 2 waiting in the compiler, so many sets on the delivery list, and the towers READY or absent. -/
def waiting (chosen : Option (Fin 41)) (n : Nat) (ready : Bool) : State :=
  let s := travelling [] [] .ejecting 20 (aSet .readyToEject 2 (some 20) chosen)
  { s with
    delivery := { s.delivery with list := List.replicate n ⟨3, some ⟨.s0, ⟨0, 640⟩⟩⟩ }
    chain := if ready then towersReady else s.chain }

/-- Sets for a tower and for bin 0 that may leave, sets that a full list or an absent tower keeps, a releasable shelf set, and a busy
G0. -/
theorem test_met_SetsDepartWhenTheirPlaceIsFree :
    (∀ c ∈ [none, some (0 : Fin 41), some 40], ∀ n ∈ [0, 2, 3], ∀ r ∈ [true, false], let s := waiting c n r;
        s.live ∧ s.working = true ∧ s.compiler.state = .ejecting ∧ s.compiler.current = some 2 ∧
          s.getRec 2 = some (aSet .readyToEject 2 (some 20) c) ∧ s.path.se = none ∧ s.delivery.shelf ≠ .occupied ∧
          s.delivery.shelf = .free ∧ s.delivery.list.length = n ∧ s.delivery.g0Busy = none) ∧
      (∀ k : Fin 4, (waiting none 0 true).chain.towers[k].state = .ready ∧ (waiting none 0 false).chain.towers[k].state ≠ .ready) ∧
      (let s := { heldOnShelf with sets := (holding (aSet .readyToEject 2 (some 20) (some 40)) running).sets, chain := towersReady };
        s.live ∧ s.working = true ∧ s.delivery.shelf = .occupied ∧ s.delivery.shelfSet = some 2 ∧
          s.getRec 2 = some (aSet .readyToEject 2 (some 20) (some 40)) ∧ s.path.se = none ∧ s.delivery.list.length < 3 ∧
          s.delivery.g0Busy = none ∧ ∀ k, towerOf 40 = some k → s.chain.towers[k].state = .ready) ∧
      { running.delivery with g0Busy := some 0 }.g0Busy = some 0 := by
  delta State.live
  decide

/-- A part whose compiler still holds the set it has put onto the delivery list. -/
def departing : State :=
  { waiting (some 0) 0 true with delivery := { (waiting (some 0) 0 true).delivery with list := [⟨2, none⟩] } }

/-- A set whose eject has started. -/
theorem test_met_SetsDepartWhenTheirPlaceIsFree_started :
    departing.live ∧ departing.working = true ∧ departing.compiler.state = .ejecting ∧ departing.compiler.current = some 2 ∧
      departing.getRec 2 = some (aSet .readyToEject 2 (some 20) (some 0)) ∧ departing.path.se = none ∧
      ListEntry.mk 2 none ∈ departing.delivery.list := by
  delta State.live
  decide

/-! ## Sensors, towers, timers -/

/-- A part with four READY towers whose bin 40 has given sensor states and fill. -/
def sensing (op : OpState) (present full : Qual) (fill : Nat) : State :=
  let s := part op
  { s with chain := towersReady, bins := s.bins.set 40 { s.bins[40] with present := present, full := full, fill := fill } }

/-- Every combination of the two sensors' states, with fill and without, in RUNNING and in STANDBY. -/
theorem test_met_BinSensorsCorrectTheFill :
    ∀ op ∈ [OpState.running, .standby], ∀ p ∈ [none, some true, some false], ∀ f ∈ [none, some true, some false],
      let s := sensing op ⟨p, p, 0⟩ ⟨f, f, 0⟩ 5;
      s.live ∧ s.noneHeld ∧ s.run.op = op ∧ s.chain.enum = none ∧ s.bins[(40 : Fin 41)].present.state = p ∧ s.bins[(40 : Fin 41)].full.state = f ∧
        s.bins[(40 : Fin 41)].fill = 5 ∧ (sensing op ⟨p, p, 0⟩ ⟨f, f, 0⟩ 0).bins[(40 : Fin 41)].fill = 0 ∧
        ∀ k, towerOf 40 = some k → s.chain.towers[k].present = true ∧ s.chain.towers[k].power.state = some true := by
  delta State.live State.noneHeld
  decide

/-- A set at the end of its jog with each route, reason and part, a bin that admits it exactly and one that does not, and a cursor that
counts and one whose entry has been rewritten. -/
theorem test_met_BinChoiceTakesTheFirstAdmissibleBin :
    (∀ x ∈ [({ · with route := .none } : SetRec → SetRec), ({ · with route := .default 7 }), ({ · with route := .entry 0 3 7 .fill 0 }),
        ({ · with route := .entry 0 3 7 .sequence 0 }), ({ · with divert := some .released }), ({ · with broken := some .sheetMissing }),
        ({ · with part := 2, partBin := some 7 })],
      let x := x (aSet .compiling 2 none none); let s := jogging x 5;
      s.live ∧ s.compiler.jog = some 0 ∧ s.compiler.current = some 2 ∧ s.getRec 2 = some x ∧ x.chosen = none ∧ x.part ≠ 1 ∧
        x.divert ≠ some .purged ∧ (x.decide s.stapler).1 ≠ .wait ∧ (x.decide s.stapler).1 ≠ .staple) ∧
      (∀ n ∈ [1480, 1481], let s := sensing .running (qual true) (qual false) n;
        (s.binState 40 = .available ∨ s.binState 40 = .nearFull) ∧
          (s.bins[(40 : Fin 41)].fill + s.bins[(40 : Fin 41)].reserved + 20 ≤ s.bins[(40 : Fin 41)].capacity ↔ n = 1480)) ∧
      ((sensing .running (qual false) (qual false) 0).binState 40 = .available ∧
        (sensing .running (qual false) (qual false) 0).bins[(40 : Fin 41)].capacity < 1501) ∧
      (let e : RouteEntry := { running.routes.entries[0] with first := 3, last := 7, cursor := 7 };
        e.generation = 0 ∧ (3 : Fin 41) ≤ e.cursor ∧ e.cursor ≤ 7 ∧ e.generation ≠ 1) := by
  delta State.live
  decide

/-- A part with four READY towers and a HELD set on the shelf, of a given route and height, bin 40's sensors being as given; and a second HELD
set in the compiler. -/
def reevaluating (route : RouteSnap) (h : Nat) (full : Bool) : State :=
  let a := sensing .running (qual true) (qual full) 5
  { a with
    sets := ⟨((Vector.replicate 8 none).set 2 (some { aSet .held 2 (some h) none with route := route })).set 6
      (some { aSet .held 2 (some 20) none with route := .default 40 }), [2, 6]⟩
    delivery := { a.delivery with shelf := .occupied, shelfSet := some 2, holdTimer := some 0 } }

/-- A covered bin 40 with a HELD set on the shelf that its route's group or a DEFAULT route names it for, admitted and not, and a second set
in the compiler: for an empty, a re-reference, a write that makes the bin roomier and one that does not, and its tower's door closing. -/
theorem test_met_BinEventsReevaluateTheHeldSets :
    ∀ h ∈ [20, 1500], ∀ route ∈ [RouteSnap.entry 0 39 40 .fill 0, .default 40], ∀ full ∈ [true, false],
      let x := { aSet .held 2 (some h) none with route := route };
      let z := { aSet .held 2 (some 20) none with route := .default 40 };
      let s := reevaluating route h full;
      let both := { s with delivery := { s.delivery with compilerHold := some 6 } };
      s.live ∧ s.bins[(40 : Fin 41)].present.state = some true ∧ s.bins[(40 : Fin 41)].full.state = some full ∧ s.chain.enum = none ∧
        (∀ k, towerOf 40 = some k → s.chain.towers[k].state = .ready) ∧ s.delivery.shelf = .occupied ∧ s.delivery.shelfSet = some 2 ∧
        s.getRec 2 = some x ∧ x.state = .held ∧ x.chosen = none ∧ x.divert = none ∧ x.broken = none ∧ x.part = 0 ∧
        s.delivery.compilerHold = none ∧ both.delivery.compilerHold = some 6 ∧ both.getRec 6 = some z ∧ (6 : Fin 8) ≠ 2 ∧
        (39 : Fin 41) ≤ 40 ∧ ((40 : Fin 41) ≤ 40) ∧ z.state = .held ∧ z.chosen = none ∧ s.run.op ≠ .starting ∧
        tableBody binEntries [40, 0x78, 5, 10, 0, 1] = some ((40 : Fin 41).val, [⟨1400, 10, 1⟩]) ∧ (1 : Byte).toNat ≤ 1 ∧
        10 < s.bins[(40 : Fin 41)].margin ∧ s.bins[(40 : Fin 41)].capacity = 1500 ∧ s.bins[(40 : Fin 41)].enabled = true := by
  delta State.live
  decide

/-- A part whose tower 4 has its door open, or its power off. -/
def unready (i : TowerInput) (s : State) : State :=
  { s with chain := { s.chain with towers := s.chain.towers.set 3 (s.chain.towers[3].setInput i (qual false)) } }

set_option maxRecDepth 8000 in
theorem test_met_BinEventsReevaluateTheHeldSets_ready :
    ∀ i ∈ [TowerInput.power, .door], let s := unready i (reevaluating (.default 40) 20 false);
      s.live ∧ towerOf 40 = some 3 ∧ s.chain.towers[(3 : Fin 4)].present = true ∧ s.chain.enum = none ∧
        (s.chain.towers[(3 : Fin 4)].input i).state ≠ some true ∧
        (s.chain.towers[(3 : Fin 4)].setInput i ⟨some true, some true, 0⟩).state = .ready ∧ s.delivery.shelfSet = some 2 ∧
        (after (exec (.towerInputChange 3 i true) s) fun t => (t.getRec 2).map SetRec.state) = some (some .readyToEject) := by
  delta State.live
  decide

/-- A write of bin 40 that lowers its M serves the set on the shelf, and one that changes nothing leaves it HELD (R113, R114). -/
theorem test_bin_write_reevaluates :
    (after (exec (.binWrite 0 [40, 0xDC, 5, 10, 0, 1]) (reevaluating (.default 40) 20 false)) fun t => (t.getRec 2).map SetRec.state) =
        some (some .readyToEject) ∧
      (after (exec (.binWrite 0 [40, 0xDC, 5, 150, 0, 1]) (reevaluating (.default 40) 20 false)) fun t =>
        (t.getRec 2).map SetRec.state) = some (some .held) := by
  decide

/-- A part with given qualified states of the cartridge and its empty sensor, its compiler and stapler in given states. -/
def cartridge (c e : Option Bool) (cs : CompilerState) (ps : StaplerState) : State :=
  let s := travelling [] [] cs 20 { aSet .stapleWait 2 (some 32) none with pattern := .corner, policy := .wait }
  { s with stapler := { s.stapler with state := ps, cartridge := ⟨c, c, 0⟩, emptySensor := ⟨e, e, 0⟩ } }

/-- Every qualified state of the two sensors, with a set that waits and without, idle and STAPLING. -/
theorem test_met_CartridgeAndRejectSensorsAct :
    (∀ c ∈ [none, some true, some false], ∀ e ∈ [none, some true, some false], ∀ cs ∈ [CompilerState.empty, .stapleWait],
        ∀ ps ∈ [StaplerState.noCartridge, .stapling], let s := cartridge c e cs ps;
        s.live ∧ s.stapler.cartridge.state = c ∧ s.stapler.emptySensor.state = e ∧ s.compiler.state = cs ∧ s.stapler.state = ps ∧
          s.rejectNear.state = none ∧ s.rejectFull.state = none ∧ (cs = .stapleWait → s.compiler.current = some 2)) ∧
      (cartridge (some false) (some false) .stapleWait .noCartridge).getRec 2 =
        some { aSet .stapleWait 2 (some 32) none with pattern := .corner, policy := .wait } := by
  delta State.live
  decide

/-- A part with four READY towers, tower 4 having missed so many polls, and a set on its way to bin 40 or none. -/
def polled (op : OpState) (missed : Nat) (travels : Bool) : State :=
  let s := holding (aSet .onBelt 2 (some 20) (some 40)) { part op with chain := towersReady }
  { s with
    chain := { s.chain with towers := s.chain.towers.set 3 { s.chain.towers[3] with missed := missed } }
    bins := Vector.ofFn fun b : Fin 41 => { s.bins[b] with present := qual false, full := qual false }
    delivery := { s.delivery with list := if travels then [⟨2, some ⟨.te 3, ⟨0, 6489⟩⟩⟩] else [] } }

/-- A present tower with no, one and two polls missed, a set on its way there or none, a reply that agrees with what is qualified, and an
enumeration that runs. -/
theorem test_met_TowerPollsAndInputsAct :
    (∀ n ∈ [0, 1, 2], ∀ v ∈ [true, false], ∀ op ∈ [OpState.running, .standby], let s := polled op n v;
        s.live ∧ s.chain.towers[(3 : Fin 4)].present = true ∧ s.chain.enum = none ∧ s.chain.towers[(3 : Fin 4)].missed = n ∧
          s.listHolds 3 = v ∧ s.run.op = op ∧ (s.chain.towers[(3 : Fin 4)].input .door).state ≠ some false ∧
          (s.chain.towers[(3 : Fin 4)].input .power).state ≠ some false) ∧
      (polled .running 0 true).working = true ∧
      (polled .running 0 true).delivery.expecting (.te 3) = some ⟨2, some ⟨.te 3, ⟨0, 6489⟩⟩⟩ ∧
      (polled .running 0 true).getRec 2 = some (aSet .onBelt 2 (some 20) (some 40)) ∧
      (polled .running 0 false).delivery.expecting (.te 3) = none ∧
      (∀ v ∈ [true, false], let s := polled .running 0 v;
        s.chain.towers[(3 : Fin 4)].power.state = some true ∧ s.chain.towers[(3 : Fin 4)].door.state = some true ∧
          ∀ i : Fin 10, s.bins[binAt 3 i].present.state = some ((0 : BitVec 10).getLsbD i.val) ∧
            s.bins[binAt 3 i].full.state = some ((0 : BitVec 10).getLsbD i.val)) ∧
      (let s := polled .running 0 true; { s with chain := { s.chain with enum := some ⟨false, 0, 0⟩ } }.chain.enum ≠ none) ∧
      ((Tower.reset).input .door).state ≠ some true := by
  delta State.live
  decide

/-- The sample of a reply that agrees with a part of `polled` but for its power, its door and the first bin's sensors. -/
def aReply (power door present full : Bool) (arrivals : Fin 4) : PollReply :=
  ⟨if present then 1 else 0, if full then 1 else 0, door, power, false, arrivals, false, false, false⟩

/-- A part of `polled` whose inputs are one sample from qualifying, tower 4 wake-enabled. -/
def almost (op : OpState) (travels : Bool) : State :=
  let s := polled op 0 travels
  let q : Qual := ⟨some true, some false, 19⟩
  { s with
    chain := { s.chain with towers := s.chain.towers.set 3 { s.chain.towers[3] with door := q, power := q, wakeEnable := true } }
    bins := s.bins.set 31 { s.bins[31] with present := q, full := ⟨some false, some true, 19⟩ } }

set_option maxRecDepth 8000 in
/-- Replies whose samples qualify a change: of the door and the power, with a set on its way there and with none, and of bin 31's sensors; in
RUNNING, and in STANDBY with the wake enable; the door's and the power's causes are latched, and the set on its way is a jam. -/
theorem test_met_TowerPollsAndInputsAct_samples :
    (∀ op ∈ [OpState.running, .standby], ∀ v ∈ [true, false], let s := almost op v;
        s.live ∧ s.noneHeld ∧ s.chain.towers[(3 : Fin 4)].present = true ∧ s.chain.enum = none ∧ s.listHolds 3 = v ∧ s.run.op = op ∧
          s.chain.towers[(3 : Fin 4)].wakeEnable = true ∧ binAt 3 0 = 31 ∧ s.qualCount ≤ min 127 (19 + 1) ∧
          s.chain.towers[(3 : Fin 4)].state = .ready) ∧
      (after (exec (.towerPollReply 3 (aReply true false false true 0)) (almost .standby false)) fun t =>
        (t.run.op, t.bins[(31 : Fin 41)].present.state, t.bins[(31 : Fin 41)].fill, t.report.notice.flags)) =
        some (.waking, some false, 1500, [.binFull, .binEmptied, .towerDoorOpened]) ∧
      (after (exec (.towerPollReply 3 (aReply true false true false 0)) (almost .running true)) fun t =>
        (t.run.op, t.report.notice.flags)) = some (.jam, [.jam .towerDoor, .towerDoorOpened]) := by
  delta State.live State.noneHeld
  decide

/-- A part with every timer of the Run Controller and the governor's running, its standby delay as given. -/
def timed (delay : Nat) (raised : Bool) : State :=
  { withJob .opened with
    run := ⟨.waking, false, .powerOn, none, some 0, some 0, some 0, some 0, delay⟩
    report := { running.report with gov := { Governor.reset with raised := raised, timer := some 0 } } }

/-- Every timer runs; the standby delay is 0 and 15; a job slot is in use and none is. -/
theorem test_met_TimersChangeTheOperatingState :
    (∀ d ∈ [0, 15], ∀ r ∈ [true, false], (timed d r).live ∧ (timed d r).run.spinUp = some 0 ∧ (timed d r).run.idle = some 0 ∧
        (timed d r).run.standby = some 0 ∧ (timed d r).run.wake = some 0 ∧ (timed d r).report.gov.timer = some 0 ∧
        (timed d r).run.standbyDelay = d ∧ (timed d r).report.gov.raised = r) ∧
      (∃ i : Fin 16, (timed 15 true).jobs[i].state ≠ .free) ∧ ∀ i : Fin 16, running.jobs[i].state = .free := by
  delta State.live
  decide

/-- An idle part in RUNNING, its timer running from tick 0. -/
def idling : State := { running with now := 7, run := { running.run with idle := some 0 } }

/-- Its timer goes on through a command that leaves the part idle, and ends with a JOB OPEN and with a PAUSE. -/
theorem test_met_TimersChangeTheOperatingState_idle :
    (idling.live ∧ idling.runSound) ∧ idling.standsIdle ∧
      ∀ x ∈ [(Instr.transmitBegin, some (some 0)), (.jobOpen 0 [5, 77, 0, 0, 0, 0], some none), (.pause 0 [], some none)],
        (after (exec x.1 idling) fun t => t.run.idle) = x.2 := by
  refine ⟨⟨?_, ?_⟩, ?_, by decide⟩
  · delta State.live
    decide
  · delta State.runSound State.standsIdle
    decide
  · delta State.standsIdle
    decide

/-- It starts with a JOB CLOSE that leaves the part idle. -/
theorem test_met_TimersChangeTheOperatingState_starts :
    let s := { withJob .opened with now := 7 };
    (s.live ∧ s.runSound) ∧ ¬ s.standsIdle ∧ (after (exec (.jobClose 0 [5]) s) fun t => t.run.idle) = some (some 7) := by
  refine ⟨⟨?_, ?_⟩, ?_, by decide⟩
  · delta State.live
    decide
  · delta State.runSound State.standsIdle
    decide
  · delta State.standsIdle
    decide

/-! ## Invariants

That the state after reset meets them is the statement ResetMeetsTheInvariants; here is a state further on, with a step that answers. -/

/-- A part at work, with a set, sheets and debt, meets every invariant, and its next step answers a state. -/
theorem test_met_StepKeepsTheDescriptorQueueSound :
    let s := { covered 657 (onPath 3 .toS2 false) with queue := (queueOf 16 3).queue, pending := [.s1TrailingEdge] };
      s.queue.sound ∧ (after (step s) fun t => t.path.s1) = some none := by
  delta DescQueue.sound
  decide

theorem test_met_StepKeepsTheReportsSound :
    running.report.sound ∧
      (after (step { running with pending := [.transmitBegin] }) fun t => t.pending) = some [] := by
  delta Report.sound
  decide

/-- A part with a set on its way to bin 0, whose height that bin reserves, and whose arrival is the next step. -/
def arriving : State :=
  { onItsWay with bins := onItsWay.bins.set 0 { onItsWay.bins[0] with reserved := 20 }, pending := [.s0Arrival] }

theorem test_met_StepKeepsThePlacesAndAmountsSound :
    arriving.placesSound ∧ arriving.amountsSound ∧ arriving.chainSound ∧ (after (step arriving) fun t => t.delivery.list) = some [] := by
  delta State.placesSound State.amountsSound State.chainSound
  decide

theorem test_met_StepKeepsTheSetTableSound :
    arriving.sets.sound ∧ arriving.slotsHeld ∧ (after (step arriving) fun t => t.sets.order) = some [] := by
  refine ⟨by delta SetTable.sound; decide, ?_, by decide⟩
  intro r x h
  have : ∀ r : Fin 8, (arriving.getRec r).all fun x => arriving.jobs[x.slot].state ≠ .free := by decide
  simpa [h] using this r

theorem test_met_StepKeepsTheReservationsExact :
    arriving.reservedExactly ∧ (after (step arriving) fun t => t.bins[(0 : Fin 41)].reserved) = some 0 := by
  delta State.reservedExactly
  decide

/-- A running part with a PAUSE to take. -/
def pausing : State := { withJob .opened with pending := [.pause 0 []] }

theorem test_met_StepKeepsTheHoldReasonsAndTheGovernorExact :
    pausing.sets.sound ∧ pausing.queue.sound ∧ pausing.runSound ∧ pausing.reasonsExact ∧
      (after (step pausing) fun t => t.report.feed.reasons) = some [.paused] := by
  refine ⟨?_, ?_, ?_, ?_, ?_⟩
  · delta SetTable.sound
    decide
  · delta DescQueue.sound
    decide
  · delta State.runSound State.standsIdle
    decide
  · intro r
    cases r <;> simp only [State.stands, State.holds] <;> decide
  · decide

/-- The part of `governing` has its timer running towards raised; its expiry is the next step. -/
theorem test_met_StepKeepsTheHoldReasonsAndTheGovernorExact_governor :
    let s := { governing false true false (some 0) with pending := [.governorTimerExpiry] };
    s.chainSound ∧ s.governorSound ∧ (after (step s) fun t => (t.now, t.report.gov.raised, t.report.feed.reasons)) =
      some (500, true, [.governor]) := by
  refine ⟨?_, ⟨⟨fun _ => ⟨⟨0, by decide⟩, .inr ⟨by decide, 0, by decide, ?_⟩⟩, fun _ => by decide⟩, by decide, by decide⟩, by decide⟩
  · delta State.chainSound
    decide
  · simp only [State.condition]
    decide

/-! ## One step of some commands, against the manual's worked examples and rules -/

/-- Fifteen descriptors 100 to 114, E at 115 (chapter 2.3). -/
def chapter23 : State :=
  { withJob .opened with queue := ⟨List.replicate 15 (.descriptor (aSheet 2 false false)), some 115, 0, none, 12⟩ }

/-- Chapter 2.3: SHEET 118 leaves one marker, a debt of 3 with 116 owed next, and E at 119. -/
theorem test_sheet_gap_with_debt :
    (after (exec (.sheet 118 [5, 1, 39, 0, 1, 0]) chapter23) fun t =>
      (t.queue.entries.length, t.queue.entries.getLast?, t.queue.debt, t.queue.nextOwed, t.queue.expected)) =
      some (16, some (.gap (some 115)), 3, some 116, some 119) := by
  decide

/-- Chapter 2.3: the two notices of that SHEET, OVERRUN before GAP, with their fields. -/
theorem test_sheet_gap_notices :
    (after (exec (.sheet 118 [5, 1, 39, 0, 1, 0]) chapter23) fun t => t.report.link.queue) =
      some [.notice ⟨.overrun, some 116, some 16, some 1, none⟩, .notice ⟨.gap, some 115, some 118, some 3, some 16⟩] := by
  decide

/-- Chapter 2.4: a stale repeat leaves the queue and E, and reports E, its seq and the entry count. -/
theorem test_sheet_stale :
    (after (exec (.sheet 18 [2, 0, 1, 0, 5, 0]) { running with queue := { DescQueue.reset with expected := some 20 } }) fun t =>
      (t.queue.entries, t.queue.expected, t.report.link.queue)) =
      some ([], some 20, [.notice ⟨.stale, some 20, some 18, none, some 0⟩]) := by
  decide

/-- Chapter 2.4: a sheet with no descriptor takes the seq 61 and moves E to 62. -/
theorem test_s1_no_descriptor :
    (after (exec .s1LeadingEdge { running with queue := { DescQueue.reset with expected := some 61 } }) fun t =>
      (t.queue.expected, t.path.list.map fun e => (e.seq, e.body, e.stage))) =
      some (some 62, [(some 61, .orphan .noDescriptor, .toSR)]) := by
  decide

/-- Chapter 3.5: a cover time of 657 ms measures 210 mm, no MISMATCH. -/
theorem test_s1_trailing_edge_measures :
    (after (exec .s1TrailingEdge (covered 657 (onPath 3 .toS2 false))) fun t => t.path.list.map fun e => (e.mismatch, e.s1Clear)) =
      some [(false, true)] := by
  decide

/-- Chapter 3.5: the expiry of the S2 window declares the jam LATE at S2, and the sheet's set is LOST with its bound sheets. -/
theorem test_late_window_declares_jam :
    (after (exec (.pathLateWindowExpiry .s2) (covered 657 (onPath 3 .toS2 false))) fun t =>
      (t.now, t.run.op, t.report.link.queue.head?, t.report.link.queue.length, t.jobs[(5 : Fin 16)].counters.lost)) =
      some (1327, .jam, some (.notice ⟨.jam .late, some 0, some 1, some 0, none⟩), 2, 1) := by
  decide

/-- Chapter 4.8: a stapler short of one staple lets a WAIT set wait with the height T + 12. -/
theorem test_jog_end_waits :
    (after (exec .jogEnd (jogging { aSet .compiling 2 none none with pattern := .edge2, policy := .wait } 1)) fun t =>
      (t.compiler.state, (t.getRec 2).map SetRec.height, t.hasBin 2, t.report.feed.reasons)) =
      some (.stapleWait, some (some 32), false, [.staples]) := by
  decide

/-- Chapter 4.8: the head home in time begins operation 2 at once, and its timeout is a FAULT with the result PARTLY. -/
theorem test_second_staple :
    (after (exec .stapleHomeReturn (stapling 180 0 4999)) fun t => (t.stapler.state, t.stapler.made, t.stapler.count)) =
      some (.stapling, 1, 4998) ∧
    (after (exec .stapleHomeTimeout (stapling 780 1 4998)) fun t =>
      (t.stapler.state, t.stapler.made, (t.getRec 2).map SetRec.result)) = some (.fault, 0, some .partly) := by
  decide

/-- Chapter 6.5 and 7.7: a re-reference of a bin with C 1500 and M 150 gives 1349. -/
theorem test_re_reference :
    (after (exec (.reReference 40) (sensing .running (qual true) (qual true) 1500)) fun t => t.bins[(40 : Fin 41)].fill) = some 1349 := by
  decide

/-- Chapter 7.7: the expiry of the hold timer re-targets the shelf set to bin 0 with HOLD TIMEOUT. -/
theorem test_hold_timer_expiry :
    (after (exec .holdTimerExpiry heldOnShelf) fun t =>
      (t.now, t.bins[(0 : Fin 41)].reserved, (t.getRec 2).map SetRec.divert, t.delivery.holdTimer)) =
      some (120000, 20, some (some .holdTimeout), none) := by
  decide

/-- Chapter 7.7: an arrival at S0 is confirmed with the outcome of its set. -/
theorem test_arrival_is_confirmed :
    (after (exec .s0Arrival onItsWay) fun t =>
      (t.bins[(0 : Fin 41)].fill, t.bins[(0 : Fin 41)].count, t.delivery.list, t.getRec 2, t.jobs[(5 : Fin 16)].counters.delivered)) =
      some (20, 1, [], none, 1) := by
  decide

/-- Chapter 9.7: a TAKE answers and clears the summary, and a parked notice stays. -/
theorem test_take_keeps_parked_notices :
    (after (exec (.queryAttentionTake 1 0 []) parkedNotices) fun t =>
      (t.report.notice.flags, t.report.link.queue.length, (t.report.notice.slots[(5 : Fin 8)]).isSome)) = some ([], 17, true) := by
  decide

/-- R117: the answer of tower 4 ends a start-up enumeration and completes the waiting HELLO. -/
theorem test_enumeration_ends :
    (after (exec .enumerationReply { enumerating true 3 with report := State.reset.report }) fun t =>
      (t.chain.enum, t.towersPresent, t.report.link.queue)) = some (none, 1, [.hello .powerOn (some 1)]) := by
  decide

set_option maxRecDepth 8000 in
/-- R165 to R167: the bytes of a PAUSE with tag 3 pause a running part. -/
theorem test_received_pause :
    (after (receiveAll (inboundFrame 0x16 3 [0]) busy) fun t => (t.run.op, t.report.link.receiver)) = some (.paused, .hunt) := by
  decide

/-- R170: setting 4, the qualification count, is clamped at both ends of 1 to 127. -/
theorem test_settings_write_clamps :
    (after (exec (.settingsWrite 1 [4, 0, 0]) running) State.settings).map (fun l => l[4]?) = some (some 1) ∧
    (after (exec (.settingsWrite 1 [4, 200, 0]) running) State.settings).map (fun l => l[4]?) = some (some 127) := by
  decide

end Sys2Proof.Tests
end

/-! Sheets at S1 that no readable descriptor stands for: the queue is empty (R33), or its head is a gap marker or a void entry
(R34). -/

namespace Sys2Proof.Machine

/-! ## Taking the head and breaking the forming set -/

/-- Without debt the queue only loses its head (R29). -/
theorem DescQueue.taken_of_no_debt (q : DescQueue) (h : q.debt = 0) : q.taken = { q with entries := q.entries.tail } := by
  simp [DescQueue.taken, h]

/-- With debt, as the head leaves, one owed position joins the queue as a gap marker (R29). -/
theorem DescQueue.taken_of_debt (q : DescQueue) (h : 0 < q.debt) :
    q.taken = { q with
      entries := q.entries.tail ++ [.gap q.nextOwed]
      debt := q.debt - 1
      nextOwed := if q.debt = 1 then none else q.nextOwed.map fun x => x + 1 } := by
  simp [DescQueue.taken, Nat.ne_of_gt h]

/-- With no set forming, there is none to break. -/
theorem State.breakForming_none (b : BrokenReason) (s : State) (h : s.binder.forming = none) : s.breakForming b = s := by
  simp [State.breakForming, h]

/-- With a set forming, its record is marked broken (R13). -/
theorem State.breakForming_some (b : BrokenReason) (r : Fin 8) (s : State) (h : s.binder.forming = some r) :
    s.breakForming b = s.modRec r (SetRec.markBroken b) := by
  simp [State.breakForming, h]

/-- A set record in use, changed, changes the Set Table alone. -/
theorem State.modRec_eq (r : Fin 8) (f : SetRec → SetRec) (s : State) : s.modRec r f = { s with sets := (s.modRec r f).sets } := by
  simp [State.eq_iff]

/-- Breaking the forming set changes the Set Table alone, so that the set stays the forming one (R13). -/
theorem State.breakForming_eq (b : BrokenReason) (s : State) : s.breakForming b = { s with sets := (s.breakForming b).sets } := by
  cases h : s.binder.forming with
  | none => rw [State.breakForming_none b s h]
  | some r => rw [State.breakForming_some b r s h]; exact State.modRec_eq r _ s

/-- Of the set records, breaking the forming set marks that one alone (R13). -/
theorem State.breakForming_getRec (b : BrokenReason) (r k : Fin 8) (x : SetRec) (s : State) (forming : s.binder.forming = some r)
    (used : s.getRec r = some x) :
    (s.breakForming b).getRec k = if k = r then some (x.markBroken b) else s.getRec k := by
  rw [State.breakForming_some b r s forming]
  simp only [State.modRec, used]
  exact State.setRec_getRec_ite r k _ s

/-! ## Orphans -/

/-- The path-list entry of a sheet just made an orphan, with no descriptor to name its slot (R40, R49, R50). -/
def PathMonitor.orphanEntry (now : Nat) (reason : OrphanReason) (seq : Option Seq) (p : PathMonitor) : PathEntry :=
  { id := p.freeId, seq := seq, slotOrd := none, sheetOrd := none, body := .orphan reason, mismatch := false, stage := .toSR
    window := some ⟨now, p.lateLimit p.timing[6]⟩, s1Clear := false, released := false }

/-- While the path list has room, the entry is one of a sheet just classified. -/
theorem PathMonitor.orphanEntry_enters (now : Nat) (reason : OrphanReason) (seq : Option Seq) (p : PathMonitor)
    (h : p.list.length < 6) : (p.orphanEntry now reason seq).enters now p (.orphan reason) := by
  obtain ⟨fresh, freshS2⟩ := p.freeId_fresh h
  exact ⟨rfl, rfl, rfl, rfl, fresh, freshS2, rfl, rfl⟩

/-- An orphan made enters the path list behind a gate G1 set to the reject path, and changes nothing else (R40, R50). -/
theorem State.makeOrphan_eq (reason : OrphanReason) (seq : Option Seq) (s : State) :
    s.makeOrphan reason seq = { s with
      path := s.path.entered s.now (s.path.orphanEntry s.now reason seq) s.media[0].length
      binder := { s.binder with g1 := .reject } } := rfl

/-- A part with a sheet on its path list is not idle, so its idle timer is stopped (R145). -/
theorem State.syncIdle_of_onPath (s : State) (h : s.path.list ≠ []) :
    s.syncIdle = { s with run := { s.run with idle := none } } := by
  have busy : s.isIdle = false := by simp [State.isIdle, h]
  simp [State.syncIdle, busy]

/-- The command that makes an orphan ends with the idle timer stopped. -/
theorem State.makeOrphan_syncIdle (reason : OrphanReason) (seq : Option Seq) (s : State) :
    (s.makeOrphan reason seq).syncIdle = { s with
      path := s.path.entered s.now (s.path.orphanEntry s.now reason seq) s.media[0].length
      binder := { s.binder with g1 := .reject }
      run := { s.run with idle := none } } := by
  rw [State.makeOrphan_eq, State.syncIdle_of_onPath _ (by simp [PathMonitor.entered])]

/-! ## The leading edge at S1 -/

/-- The part with S1 covered. -/
def State.coverS1 (s : State) : State := { s with pins := { s.pins with s1 := true } }

/-- In RUNNING and PAUSED, a leading edge at S1 that finds room on the path list classifies its sheet (R50, R57). -/
theorem exec_s1LeadingEdge_of_room (s : State) (live : s.live) (working : s.working = true) (room : s.path.list.length < 6) :
    exec .s1LeadingEdge s = .next s.coverS1.classify.syncIdle := by
  have op : s.run.op = .running ∨ s.run.op = .paused := by simpa [State.working] using working
  have answer : exec .s1LeadingEdge s = execS1LeadingEdge s := rfl
  rw [answer, execS1LeadingEdge, State.does_live live]
  obtain op | op := op <;> simp [op, State.coverS1, State.s1Sheet, room, Config.pathCapacity]

/-- An empty queue makes the sheet an orphan with seq E, and a set E the next one (R33). -/
theorem State.classify_of_empty (s : State) (empty : s.queue.entries = []) :
    s.classify = State.makeOrphan .noDescriptor s.queue.expected
      { s with queue := { s.queue with expected := s.queue.expected.map fun x => x + 1 } } := by
  simp [State.classify, empty, State.noDescriptor]

/-- A gap marker or a void entry at the head makes the sheet an orphan with the entry's seq, and breaks the forming set (R34). -/
theorem State.classify_of_unreadable (s : State) (head : Entry) (rest : List Entry) (q : Option Seq) (reason : OrphanReason)
    (entries : s.queue.entries = head :: rest)
    (unreadable : head = .gap q ∧ reason = .lostDescriptor ∨ (∃ n, head = .void n ∧ q = some n) ∧ reason = .badDescriptor) :
    s.classify = (s.takeHead.breakForming .sheetMissing).makeOrphan reason q := by
  obtain ⟨rfl, rfl⟩ | ⟨⟨n, rfl, rfl⟩, rfl⟩ := unreadable <;> simp [State.classify, entries]

/-! ## The obligations -/

/-- Settles O30: the classification finds no entry, and the orphan it makes takes E as it stood. -/
theorem emptyQueueSheetIsOrphan : Obligations.EmptyQueueSheetIsOrphan := by
  unfold Obligations.EmptyQueueSheetIsOrphan
  intro s live working room empty
  refine ⟨s.path.orphanEntry s.now .noDescriptor s.queue.expected, rfl, rfl, rfl, PathMonitor.orphanEntry_enters _ _ _ _ room, ?_⟩
  rw [exec_s1LeadingEdge_of_room s live working room, State.classify_of_empty s.coverS1 empty, State.makeOrphan_syncIdle]
  rfl

/-- Settles O31: the head is taken, the forming set broken, and the sheet made an orphan, each of which changes a part of the state of its
own. -/
theorem markersAndVoidEntriesBreakTheFormingSet : Obligations.MarkersAndVoidEntriesBreakTheFormingSet := by
  unfold Obligations.MarkersAndVoidEntriesBreakTheFormingSet
  intro s head rest q reason live working room entries unreadable
  refine ⟨_, s.path.orphanEntry s.now reason q, exec_s1LeadingEdge_of_room s live working room, rfl, rfl, rfl,
    PathMonitor.orphanEntry_enters _ _ _ _ room, ?_⟩
  rw [State.classify_of_unreadable s.coverS1 head rest q reason entries unreadable, State.makeOrphan_syncIdle, State.breakForming_eq]
  refine ⟨rfl, fun noDebt => ?_, fun debt => ?_, fun noSet => ?_, fun r x forming used => ?_⟩
  · show s.queue.taken = _
    rw [DescQueue.taken_of_no_debt _ noDebt, entries, List.tail_cons]
  · show s.queue.taken.entries = _ ∧ s.queue.taken.debt = _ ∧ s.queue.taken.nextOwed = _
    simp only [DescQueue.taken_of_debt _ debt, entries, List.tail_cons, and_self]
  · show (s.coverS1.takeHead.breakForming .sheetMissing).sets = s.sets
    rw [State.breakForming_none _ s.coverS1.takeHead noSet]
    rfl
  · have marked (k : Fin 8) := State.breakForming_getRec .sheetMissing r k x s.coverS1.takeHead forming used
    exact ⟨(marked r).trans (if_pos rfl), fun k other => (marked k).trans (if_neg other)⟩

end Sys2Proof.Machine

/-! Answers to a taken frame, admitted or lost (R174), and QUERY ATTENTION in its two modes (R163, R164). -/

namespace Sys2Proof.Machine

/-! ## A cause with no tower behind it, and a cause under a backlog -/

/-- A cause that comes from no tower leaves the towers' attention flags alone (R157). -/
theorem State.notify_towerFlags (n : Notice) (s : State) : (s.notify n none).report.notice.towerFlags = s.report.notice.towerFlags := by
  have latched : (s.report.notice.latch n.cause none).towerFlags = s.report.notice.towerFlags := rfl
  simp only [State.notify, Report.notify]
  split_ifs
  · exact latched
  · exact latched
  · exact latched
  · rw [(Report.sendingTest_flags _).2]
    exact latched
  · exact latched

/-- At 16 records and more no NOTICE joins the outbound queue (R159). -/
theorem State.notify_queue_of_backlog (n : Notice) (origin : Option (Fin 4)) (s : State) (backlog : 16 ≤ s.report.link.queue.length) :
    (s.notify n origin).report.link.queue = s.report.link.queue := by
  obtain ⟨-, becomes⟩ := State.notify_handed n origin s
  split_ifs at becomes with stopped parks
  · exact becomes.2
  · exact becomes.2
  · exact absurd (.inr (.inr backlog)) parks
  · exact absurd (.inr (.inr backlog)) parks

/-! ## The answer to a taken frame -/

/-- With room for it, the reply to a taken frame joins the outbound queue, and nothing else happens (R171, R174). -/
theorem State.answered_reply (subject idx tag : Byte) (fields : List Byte) (s : State) (room : s.answers) :
    s.answered (.reply subject idx tag fields) (s.frameTaken.reply subject idx tag fields).syncIdle := by
  have admitted := Report.answer_admitted (.reply subject idx tag fields) 0x15 tag s.frameTaken.report room
  rw [State.reply, admitted]
  exact ⟨rfl, fun x other => Report.append_mem x _ _ other, Report.append_backlog _ _⟩

/-- Without room for it, a reply is dropped with LINK REPLY LOST (R174). -/
theorem State.reply_of_full (subject idx tag : Byte) (fields : List Byte) (s : State) (full : ¬ s.answers) :
    s.reply subject idx tag fields = s.notify ⟨.replyLost, some 0x15, some tag.toNat, none, none⟩ none :=
  congrArg (fun p => { s with report := p }) (Report.answer_dropped _ _ _ _ (Nat.le_of_not_lt full))

/-- A reply changes the reports alone. -/
theorem State.onlyReports_reply (subject idx tag : Byte) (fields : List Byte) (s : State) :
    s.onlyReports (s.frameTaken.reply subject idx tag fields).syncIdle := rfl

/-- A reply without room for it latches REPLY LOST on top of the attention summary, and leaves the outbound queue as it is (R157, R174). -/
theorem State.reply_lost (subject idx tag : Byte) (fields : List Byte) (s : State) (full : ¬ s.answers) :
    let t := (s.frameTaken.reply subject idx tag fields).syncIdle
    (∀ x, t.latched x ↔ x = .replyLost ∨ s.latched x) ∧ t.report.notice.towerFlags = s.report.notice.towerFlags ∧
      t.report.link.queue = s.report.link.queue := by
  have backlog : 16 ≤ s.frameTaken.report.link.queue.length := le_trans (by decide) (Nat.le_of_not_lt full)
  rw [State.reply_of_full _ _ _ _ s.frameTaken full]
  exact ⟨fun x => State.notify_latched _ _ x s.frameTaken, State.notify_towerFlags _ s.frameTaken,
    State.notify_queue_of_backlog _ _ s.frameTaken backlog⟩

/-! ## QUERY ATTENTION -/

/-- With room for its answer, TAKE clears the summary and then replies with what stood in it (R164). -/
theorem State.takeRecord_of_answers (tag : Byte) (s : State) (room : s.answers) :
    s.takeRecord tag [] = s.clearSummary.reply 9 0 tag s.attentionFields := by
  rw [State.takeRecord, if_pos rfl]
  exact if_pos room

/-- Without room for its answer, TAKE replies as PEEK does (R164). -/
theorem State.takeRecord_of_full (tag : Byte) (s : State) (full : ¬ s.answers) :
    s.takeRecord tag [] = s.reply 9 0 tag s.attentionFields := by
  rw [State.takeRecord, if_pos rfl]
  exact if_neg full

/-- PEEK replies with the summary as it stands (R163). -/
theorem exec_queryAttentionPeek (tag idx : Byte) (s : State) (live : s.live) :
    exec (.queryAttentionPeek tag idx []) s = .next (s.frameTaken.reply 9 0 tag s.attentionFields).syncIdle := by
  have answer : exec (.queryAttentionPeek tag idx []) s = execQueryAttentionPeek tag idx [] s := rfl
  rw [answer, execQueryAttentionPeek, State.does_live live, State.peekRecord, if_pos rfl]
  rfl

/-- TAKE acts on the frame it came in (R164). -/
theorem exec_queryAttentionTake (tag idx : Byte) (s : State) (live : s.live) :
    exec (.queryAttentionTake tag idx []) s = .next (s.frameTaken.takeRecord tag []).syncIdle := by
  have answer : exec (.queryAttentionTake tag idx []) s = execQueryAttentionTake tag idx [] s := rfl
  rw [answer, execQueryAttentionTake, State.does_live live]

/-- Settles O23: TAKE clears the summary on the one path on which its reply joins the queue, and on the other both modes lose the reply
alike. -/
theorem takeClearsTheSummaryOnlyWhenAnswered : Obligations.TakeClearsTheSummaryOnlyWhenAnswered := by
  unfold Obligations.TakeClearsTheSummaryOnlyWhenAnswered
  intro s tag idx live
  have peeked := exec_queryAttentionPeek tag idx s live
  have taken := exec_queryAttentionTake tag idx s live
  refine ⟨fun room => ⟨⟨_, peeked, State.answered_reply _ _ _ _ s room⟩, _, taken, ?_⟩, fun full c mode => ?_⟩
  · rw [State.takeRecord_of_answers tag s.frameTaken room]
    exact State.answered_reply 9 0 tag s.attentionFields s.clearSummary room
  · have lost : exec c s = .next (s.frameTaken.reply 9 0 tag s.attentionFields).syncIdle := by
      obtain rfl | rfl := mode
      · exact peeked
      · exact taken.trans (by rw [State.takeRecord_of_full tag s.frameTaken full]; rfl)
    obtain ⟨latched, towerFlags, queue⟩ := State.reply_lost 9 0 tag s.attentionFields s full
    refine ⟨_, lost, State.onlyReports_reply _ _ _ _ s, (latched _).mpr (.inl rfl), fun x stood => (latched x).mpr (.inr stood),
      towerFlags, ?_⟩
    rw [queue, List.drop_length]
    exact List.not_mem_nil

end Sys2Proof.Machine

/-! What one operation of the part keeps of its soundness: a relation between the state before and the state after, one lemma for each
operation of the model, so that the invariants of every step follow by composition. -/

namespace Sys2Proof.Machine

/-! ## The relation -/

/-- The FEED last placed agrees with the reason set, and the slot holds it or nothing (R151). -/
def Feed.sound (f : Feed) : Prop := (f.last.hold = true ↔ f.reasons ≠ []) ∧ (f.slot = none ∨ f.slot = some f.last)

/-- The governor's timer runs exactly while raised differs from the combination (R153). -/
def Governor.timed (g : Governor) : Prop := g.timer ≠ none ↔ g.raised ≠ g.comb

/-- The governor's timer runs only where D and WAIT let it (R153, R154). -/
def Governor.limited (g : Governor) : Prop := g.timer ≠ none → 0 < g.d ∧ (g.raised = true → g.wait = true)

/-- The governor's combination is that of the conditions as they stand (R152). -/
def State.agrees (s : State) : Prop := s.report.gov.comb = true ↔ s.combines

/-- Nothing is on its way (R57, R142). -/
def State.nothingMoves (s : State) : Prop :=
  s.path.list = [] ∧ s.path.s1 = none ∧ s.path.s2 = none ∧ s.path.se = none ∧ s.delivery.list = []

/-- The standby and wake timers run in their own states alone, and STARTING has nothing on its way (R57, R142, R146, R147). -/
def State.timersSound (s : State) : Prop :=
  (s.run.standby ≠ none → s.run.op = .ready) ∧ (s.run.wake ≠ none → s.run.op = .waking) ∧ (s.run.op = .starting → s.nothingMoves)

/-- One hold reason stands exactly with its condition (R150). -/
def State.exactAt (r : Reason) (s : State) : Prop := s.stands r ↔ s.holds r

/-- A part of the soundness that an operation may leave open until a later one restores it. -/
inductive Part
  | reason (r : Reason) | governor | timers | reserved | limits
  deriving DecidableEq

/-- `t` is as sound as `s` but for the parts in `X`. -/
structure State.KeepsBut (X : List Part) (s t : State) : Prop where
  queue : s.queue.sound → t.queue.sound
  report : s.report.sound → t.report.sound
  places : s.placesSound → t.placesSound
  amounts : s.amountsSound → t.amountsSound
  chain : s.chainSound → t.chainSound
  sets : s.sets.sound → t.sets.sound
  slots : s.slotsHeld → t.slotsHeld
  timed : s.report.gov.timed → t.report.gov.timed
  reserved : .reserved ∉ X → s.reservedExactly → t.reservedExactly
  timers : .timers ∉ X → s.timersSound → t.timersSound
  reasons : ∀ r, .reason r ∉ X → s.sets.sound → s.queue.sound → s.timersSound → s.exactAt r → t.exactAt r
  agrees : .governor ∉ X → s.chainSound → s.agrees → t.agrees
  limited : .limits ∉ X → s.report.gov.limited → t.report.gov.limited

/-- `t` is as sound as `s`. -/
abbrev State.Keeps (s t : State) : Prop := State.KeepsBut [] s t

theorem State.Keeps.refl (s : State) : s.Keeps s :=
  ⟨id, id, id, id, id, id, id, id, fun _ => id, fun _ => id, fun _ _ _ _ _ => id, fun _ _ => id, fun _ => id⟩

/-- What is kept but for few parts is kept but for more. -/
theorem State.KeepsBut.mono {X Y : List Part} {s t : State} (h : s.KeepsBut X t) (sub : X ⊆ Y) : s.KeepsBut Y t :=
  { h with
    reserved := fun n => h.reserved fun m => n (sub m)
    timers := fun n => h.timers fun m => n (sub m)
    reasons := fun r n => h.reasons r fun m => n (sub m)
    agrees := fun n => h.agrees fun m => n (sub m)
    limited := fun n => h.limited fun m => n (sub m) }

theorem State.Keeps.but {s t : State} (h : s.Keeps t) (X : List Part) : s.KeepsBut X t := h.mono (List.nil_subset X)

/-- Two operations one after the other, the timers being kept by the first. -/
theorem State.KeepsBut.trans {X : List Part} {s t u : State} (h : s.KeepsBut X t) (k : t.KeepsBut X u) (n : .timers ∉ X) :
    s.KeepsBut X u where
  queue a := k.queue (h.queue a)
  report a := k.report (h.report a)
  places a := k.places (h.places a)
  amounts a := k.amounts (h.amounts a)
  chain a := k.chain (h.chain a)
  sets a := k.sets (h.sets a)
  slots a := k.slots (h.slots a)
  timed a := k.timed (h.timed a)
  reserved m a := k.reserved m (h.reserved m a)
  timers m a := k.timers m (h.timers m a)
  reasons r m a b c d := k.reasons r m (h.sets a) (h.queue b) (h.timers n c) (h.reasons r m a b c d)
  agrees m a b := k.agrees m (h.chain a) (h.agrees m a b)
  limited m a := k.limited m (h.limited m a)

theorem State.Keeps.trans {s t u : State} (h : s.Keeps t) (k : t.Keeps u) : s.Keeps u := State.KeepsBut.trans h k (by simp)

/-- What each step of a fold keeps, the fold keeps. -/
theorem State.Keeps.foldl {α : Type} (f : State → α → State) (h : ∀ (s : State) a, s.Keeps (f s a)) (l : List α) (s : State) :
    s.Keeps (l.foldl f s) := by
  induction l generalizing s with
  | nil => exact .refl s
  | cons a l ih => exact (h s a).trans (ih _)

/-! ## The reports -/

/-- A change of the reports that touches neither the governor nor a hold reason but BACKLOG, and keeps the outbound side sound. -/
structure Report.Keeps (p q : Report) : Prop where
  gov : q.gov = p.gov
  reasons : ∀ r, r ≠ .backlog → (r ∈ q.feed.reasons ↔ r ∈ p.feed.reasons)
  feed : p.feed.sound → q.feed.sound
  backlog : (.backlog ∈ p.feed.reasons ↔ 16 ≤ p.link.queue.length) → (.backlog ∈ q.feed.reasons ↔ 16 ≤ q.link.queue.length)
  bound : p.link.queue.length ≤ 48 → q.link.queue.length ≤ 48

theorem Report.sound_iff (p : Report) : p.sound ↔
    p.link.queue.length ≤ 48 ∧ (.backlog ∈ p.feed.reasons ↔ 16 ≤ p.link.queue.length) ∧ p.feed.sound := Iff.rfl

theorem Report.Keeps.refl (p : Report) : p.Keeps p := ⟨rfl, fun _ _ => Iff.rfl, id, id, id⟩

theorem Report.Keeps.trans {p q r : Report} (h : p.Keeps q) (k : q.Keeps r) : p.Keeps r :=
  ⟨k.gov.trans h.gov, fun x n => (k.reasons x n).trans (h.reasons x n), fun a => k.feed (h.feed a), fun a => k.backlog (h.backlog a),
    fun a => k.bound (h.bound a)⟩

theorem Feed.place_sound (f : FeedRec) (p : Feed) (h : f.hold = true ↔ p.reasons ≠ []) : (p.place f).sound := ⟨h, .inr rfl⟩

theorem Feed.raise_sound (r : Reason) (p : Feed) (h : p.sound) : (p.raise r).sound := by
  unfold Feed.raise
  split
  · exact h
  · have some_ : (allReasons.filter fun x => x = r || x ∈ p.reasons) ≠ [] :=
      List.ne_nil_of_mem (List.mem_filter.mpr ⟨mem_allR r, by simp⟩)
    simp only []
    split
    · exact Feed.place_sound _ _ (by simpa using some_)
    · rename_i filled
      exact ⟨⟨fun _ => some_, fun _ => h.1.mpr filled⟩, h.2⟩

theorem Feed.drop_sound (r : Reason) (p : Feed) (h : p.sound) : (p.drop r).sound := by
  unfold Feed.drop
  split
  · rename_i stood
    simp only []
    split
    · rename_i empty
      exact Feed.place_sound _ _ (iff_of_false (by simp) (fun n => n empty))
    · rename_i left
      exact ⟨⟨fun _ => left, fun _ => h.1.mpr (List.ne_nil_of_mem stood)⟩, h.2⟩
  · exact h

theorem Feed.set_sound (r : Reason) (c : Bool) (p : Feed) (h : p.sound) : (p.set r c).sound := by
  unfold Feed.set
  split
  · exact p.raise_sound r h
  · exact p.drop_sound r h

/-- A change of the outbound queue with which BACKLOG is set again (R150, R173). -/
theorem Report.syncBacklog_keeps (p : Report) (q : List OutRec) (h : p.link.queue.length ≤ 48 → q.length ≤ 48) :
    p.Keeps ({ p with link := { p.link with queue := q } } : Report).syncBacklog where
  gov := rfl
  reasons r n := by simp [Report.syncBacklog, Report.setReason, n]
  feed a := Feed.set_sound _ _ _ a
  backlog _ := by
    simp only [Report.syncBacklog, Report.setReason, Report.occupancy, Config.backlogMark, Feed.set_mem, if_true]
    exact decide_eq_true_iff
  bound a := h a

theorem Report.append_keeps (r : OutRec) (p : Report) (h : p.link.queue.length < 48) : p.Keeps (p.append r) :=
  p.syncBacklog_keeps _ fun _ => by simpa using h

/-- What changes of the Notice Unit alone keeps the outbound side. -/
theorem Report.notice_keeps (u : NoticeUnit) (p : Report) : p.Keeps { p with notice := u } :=
  ⟨rfl, fun _ _ => Iff.rfl, id, id, id⟩

theorem Report.setSlot_keeps (k : Fin 8) (x : Option Parked) (p : Report) : p.Keeps (p.setSlot k x) := p.notice_keeps _

theorem Report.sendSlot_keeps (p : Report) (k : Fin 8) : p.Keeps (p.sendSlot k) := by
  unfold Report.sendSlot
  split
  · split
    · rename_i room
      simp only [Bool.and_eq_true, decide_eq_true_eq] at room
      exact (p.setSlot_keeps k none).trans (Report.append_keeps _ _ (lt_trans room.2 (by decide)))
    · exact .refl p
  · exact .refl p

theorem Report.sendingTest_keeps (p : Report) : p.Keeps p.sendingTest := by
  unfold Report.sendingTest
  generalize List.finRange 8 = l
  induction l generalizing p with
  | nil => exact .refl p
  | cons k l ih => exact (p.sendSlot_keeps k).trans (ih _)

theorem Report.notify_keeps (n : Notice) (o : Option (Fin 4)) (p : Report) : p.Keeps (p.notify n o) := by
  have latched := p.notice_keeps (p.notice.latch n.cause o)
  unfold Report.notify
  simp only []
  split
  · exact latched
  split
  · exact latched.trans (Report.setSlot_keeps _ _ _)
  split
  · exact latched.trans (Report.setSlot_keeps _ _ _)
  rename_i few
  split
  · exact (latched.trans (Report.setSlot_keeps _ _ _)).trans (Report.sendingTest_keeps _)
  · exact latched.trans (Report.append_keeps _ _ (lt_trans (Nat.lt_of_not_le few) (by decide)))

theorem Report.answer_keeps (r : OutRec) (k t : Byte) (p : Report) : p.Keeps (p.answer r k t) := by
  unfold Report.answer
  split
  · rename_i room
    exact p.append_keeps r (lt_trans room (by decide))
  · exact p.notify_keeps _ _

theorem Report.handBack_keeps (n : Notice) (p : Report) : p.Keeps (p.handBack n) := by
  unfold Report.handBack
  split
  · exact p.setSlot_keeps _ _
  · split
    · exact p.setSlot_keeps _ _
    · exact .refl p

/-- A queue is as long as its NOTICE nearest the head and the rest together. -/
theorem takeNotice_length {q rest : List OutRec} {n : Notice} (h : takeNotice q = some (n, rest)) : q.length = rest.length + 1 := by
  induction q generalizing rest with
  | nil => cases h
  | cons r q ih =>
    cases r with
    | notice m => cases h; rfl
    | _ =>
      obtain ⟨⟨m, rest'⟩, found, same⟩ := Option.map_eq_some_iff.mp h
      cases same
      simpa using ih found

theorem Report.dispose_keeps (d : OutRec) (lost : Notice) (p : Report) : p.Keeps (p.dispose d lost) := by
  unfold Report.dispose
  split
  · rename_i room
    exact p.append_keeps d room
  · split
    · rename_i n rest found
      have same := takeNotice_length found
      exact (p.syncBacklog_keeps (rest ++ [d]) fun h => by simp; omega).trans (Report.handBack_keeps _ _)
    · exact p.notify_keeps _ _

/-- What changes of the Link Interface beside its queue keeps the outbound side. -/
theorem Report.link_keeps (k : Link) (p : Report) (h : k.queue.length = p.link.queue.length) : p.Keeps { p with link := k } :=
  ⟨rfl, fun _ _ => Iff.rfl, id, fun a => by rw [h]; exact a, fun a => by rw [h]; exact a⟩

theorem Report.send_keeps (r : OutRec) (now : Nat) (p : Report) : p.Keeps (p.send r now) := p.link_keeps _ rfl

theorem Report.leave_keeps (r : OutRec) (rest : List OutRec) (p : Report) (h : p.link.queue = r :: rest) : p.Keeps (p.leave rest) := by
  have shorter := p.syncBacklog_keeps rest fun k => by rw [h] at k; simp at k; omega
  unfold Report.leave
  simp only []
  split
  · exact shorter.trans (Report.sendingTest_keeps _)
  · exact shorter

theorem Report.transmit_keeps (now : Nat) (p : Report) : p.Keeps (p.transmit now) := by
  unfold Report.transmit
  split
  · exact ⟨rfl, fun _ _ => Iff.rfl, fun a => ⟨a.1, .inl rfl⟩, id, id⟩
  · split
    · exact .refl p
    · rename_i r rest queued
      split
      · exact .refl p
      · exact (p.send_keeps r now).trans (Report.leave_keeps r rest _ queued)

end Sys2Proof.Machine

namespace Sys2Proof.Machine

/-! ## One block of the part changed -/

/-- The combination agrees with the conditions alike in two states whose governors and conditions are alike (R152). -/
theorem State.agrees_congr {s t : State} (g : t.report.gov = s.report.gov) (c : ∀ i, t.condition i ↔ s.condition i) :
    t.agrees ↔ s.agrees := by
  unfold State.agrees State.combines
  simp only [g, c]

/-- The fields that no part of the soundness reads. -/
theorem State.free_keeps (s : State) (now : Nat) (pending : List Instr) (draws : Nat) (pins : Pins) (media : Vector Media 8)
    (binder : Binder) (routes : RouteTable) (qualCount lastSample : Nat) :
    s.Keeps { s with
      now := now, pending := pending, draws := draws, pins := pins, media := media, binder := binder, routes := routes
      qualCount := qualCount, lastSample := lastSample } :=
  ⟨id, id, id, id, id, id, id, id, fun _ => id, fun _ => id, fun r _ _ _ _ h => by cases r <;> exact h, fun _ _ h => h, fun _ => id⟩

theorem State.report_keeps (s : State) {p : Report} (h : s.report.Keeps p) : s.Keeps { s with report := p } where
  queue := id
  report a := ⟨h.bound a.1, h.backlog a.2.1, h.feed a.2.2⟩
  places := id
  amounts := id
  chain := id
  sets := id
  slots := id
  timed a := by show p.gov.timed; rwa [h.gov]
  limited _ a := by show p.gov.limited; rwa [h.gov]
  reserved _ := id
  timers _ := id
  reasons r _ _ _ _ a := by
    by_cases e : r = .backlog
    · subst e; exact h.backlog a
    · refine (h.reasons r e).trans (a.trans ?_)
      cases r <;> first | exact Iff.rfl | exact absurd rfl e | (show _ ↔ p.gov.raised = true; rw [h.gov]; exact Iff.rfl)
  agrees _ _ a := by
    refine (State.agrees_congr h.gov fun i => ?_).mpr a
    match i with
    | 4 => show p.gov.threshold ≤ _ ↔ _; rw [h.gov]; exact Iff.rfl
    | 0 | 1 | 2 | 3 | 5 => exact Iff.rfl

theorem State.notify_keeps (n : Notice) (o : Option (Fin 4)) (s : State) : s.Keeps (s.notify n o) :=
  s.report_keeps (s.report.notify_keeps n o)

theorem State.refuse_keeps (k t : Byte) (e : RefuseReason) (s : State) : s.Keeps (s.refuse k t e) :=
  s.report_keeps (s.report.answer_keeps _ _ _)

/-- A reason set to its condition restores it (R150). -/
theorem State.KeepsBut.setReason {X : List Part} {s t : State} {r : Reason} {c : Bool} (h : s.KeepsBut (.reason r :: X) t)
    (n : r ≠ .backlog) (e : s.sets.sound → s.queue.sound → s.timersSound → (c = true ↔ t.holds r)) :
    s.KeepsBut X (t.setReason r c) where
  queue a := h.queue a
  report a := by
    obtain ⟨bound, backlog, feed⟩ := (Report.sound_iff _).mp (h.report a)
    refine ⟨bound, ?_, Feed.set_sound r c _ feed⟩
    simpa [State.setReason, Report.setReason, n.symm, Config.backlogMark] using backlog
  places a := h.places a
  amounts a := h.amounts a
  chain a := h.chain a
  sets a := h.sets a
  slots a := h.slots a
  timed a := h.timed a
  limited m := h.limited (by simpa using m)
  reserved m := h.reserved (by simpa using m)
  timers m := h.timers (by simpa using m)
  reasons x m a b d f := by
    unfold State.exactAt
    rw [State.setReason_stands]
    by_cases k : x = r
    · subst k
      simp only [if_true, e a b d]
      cases x <;> exact Iff.rfl
    · rw [if_neg k]
      refine (h.reasons x (by simp [k, m]) a b d f).trans ?_
      cases x <;> exact Iff.rfl
  agrees m a b := h.agrees (by simpa using m) a b

theorem State.KeepsBut.raise {X : List Part} {s t : State} {r : Reason} (h : s.KeepsBut (.reason r :: X) t) (n : r ≠ .backlog)
    (e : s.sets.sound → s.queue.sound → s.timersSound → t.holds r) : s.KeepsBut X (t.raise r) :=
  h.setReason (c := true) n fun a b d => iff_of_true rfl (e a b d)

theorem State.KeepsBut.drop {X : List Part} {s t : State} {r : Reason} (h : s.KeepsBut (.reason r :: X) t) (n : r ≠ .backlog)
    (e : s.sets.sound → s.queue.sound → s.timersSound → ¬ t.holds r) : s.KeepsBut X (t.drop r) :=
  h.setReason (c := false) n fun a b d => iff_of_false (by simp) (e a b d)

theorem Report.recombine_timed (cond : Fin 6 → Bool) (now : Nat) (p : Report) (h : p.gov.timed) : (p.recombine cond now).gov.timed := by
  unfold Report.recombine
  simp only []
  split
  · exact h
  split
  · rename_i same
    exact iff_of_false (by simp) (by simp [same])
  split
  · exact iff_of_false (by simp [Report.setRaised, Report.setReason]) (by simp [Report.setRaised, Report.setReason])
  · rename_i differs _
    exact iff_of_true (by simp) differs

theorem Report.recombine_limited (cond : Fin 6 → Bool) (now : Nat) (p : Report) (h : p.gov.limited) :
    (p.recombine cond now).gov.limited := by
  unfold Report.recombine
  simp only []
  split
  · exact h
  split
  · exact fun m => absurd rfl m
  split
  · exact fun m => absurd rfl m
  · rename_i timed
    simp only [Bool.or_eq_true, decide_eq_true_eq, Bool.and_eq_true, Bool.not_eq_true', not_or, not_and, Bool.not_eq_false] at timed
    exact fun _ => ⟨Nat.pos_of_ne_zero timed.1, timed.2⟩

/-- A recombination makes the combination that of the conditions, and keeps everything else (R152, R153). -/
theorem State.recombine_keeps (s : State) : s.Keeps s.recombine where
  queue := id
  report a := by
    obtain ⟨bound, backlog, feed⟩ := (Report.sound_iff _).mp a
    rw [State.recombine_report]
    unfold Report.recombine
    simp only []
    split
    · exact a
    split
    · exact a
    split
    · exact ⟨bound, by simpa [Report.setRaised, Report.setReason, Config.backlogMark] using backlog, Feed.set_sound _ _ _ feed⟩
    · exact a
  places := id
  amounts := id
  chain := id
  sets := id
  slots := id
  timed a := Report.recombine_timed _ _ _ a
  limited _ a := Report.recombine_limited _ _ _ a
  reserved _ := id
  timers _ := id
  reasons r _ _ _ _ a := by
    have same : s.recombine.report.link = s.report.link := by
      rw [State.recombine_report, Report.recombine]
      simp only []
      split_ifs <;> rfl
    by_cases e : r = .governor
    · subst e
      obtain ⟨changed, kept⟩ := s.recombine_governed.2.2
      show s.recombine.stands .governor ↔ s.recombine.report.gov.raised = true
      by_cases k : s.recombine.report.gov.raised = s.report.gov.raised
      · rw [kept k, k]; exact a
      · exact changed k
    · refine (State.recombine_stands r s e).trans (a.trans ?_)
      cases r <;> first | exact Iff.rfl | exact absurd rfl e | (show _ ↔ _ ≤ s.recombine.report.link.queue.length; rw [same]; exact Iff.rfl)
  agrees _ _ _ := s.recombine_governed.1

/-- A recombination restores the governor (R152). -/
theorem State.KeepsBut.recombine {X : List Part} {s t : State} (h : s.KeepsBut (.governor :: X) t) :
    s.KeepsBut X t.recombine where
  queue a := h.queue a
  report a := t.recombine_keeps.report (h.report a)
  places a := h.places a
  amounts a := h.amounts a
  chain a := h.chain a
  sets a := h.sets a
  slots a := h.slots a
  timed a := t.recombine_keeps.timed (h.timed a)
  limited m a := t.recombine_keeps.limited (by simp) (h.limited (by simpa using m) a)
  reserved m := h.reserved (by simpa using m)
  timers m := h.timers (by simpa using m)
  reasons r m a b d f := by
    have fits := h.reasons r (by simpa using m) a b d f
    by_cases e : r = .governor
    · subst e
      obtain ⟨changed, kept⟩ := t.recombine_governed.2.2
      show t.recombine.stands .governor ↔ t.recombine.report.gov.raised = true
      by_cases k : t.recombine.report.gov.raised = t.report.gov.raised
      · rw [kept k, k]; exact fits
      · exact changed k
    · refine (State.recombine_stands r t e).trans (fits.trans ?_)
      have same : t.recombine.report.link = t.report.link := by
        rw [State.recombine_report, Report.recombine]
        simp only []
        split_ifs <;> rfl
      cases r <;> first | exact Iff.rfl | exact absurd rfl e | (show _ ↔ _ ≤ t.recombine.report.link.queue.length; rw [same]; exact Iff.rfl)
  agrees _ _ _ := t.recombine_governed.1

/-! Each lemma below changes one block, and names what the change leaves open. -/

theorem State.queue_keepsBut (s : State) (q : DescQueue) (h : s.queue.sound → q.sound) :
    s.KeepsBut [.reason .queue] { s with queue := q } :=
  ⟨h, id, id, id, id, id, id, id, fun _ => id, fun _ => id,
    fun r m _ _ _ a => by cases r <;> first | exact a | exact absurd (by simp) m, fun _ _ a => a, fun _ => id⟩

/-- The queue changed where QUEUE's condition is not. -/
theorem State.queue_keeps (s : State) (q : DescQueue) (h : s.queue.sound → q.sound)
    (same : (q.watermark ≤ q.entries.length ∨ 0 < q.debt) ↔ (s.queue.watermark ≤ s.queue.entries.length ∨ 0 < s.queue.debt)) :
    s.Keeps { s with queue := q } :=
  ⟨h, id, id, id, id, id, id, id, fun _ => id, fun _ => id,
    fun r _ _ _ _ a => by cases r <;> first | exact a | exact Iff.trans a same.symm, fun _ _ a => a, fun _ => id⟩

/-- The parts that the operating state and its timers decide. -/
def runParts : List Part := [.timers, .reason .starting, .reason .spinUp, .reason .wake, .reason .paused, .reason .jam]

theorem State.run_keepsBut (s : State) (c : RunController) : s.KeepsBut runParts { s with run := c } :=
  ⟨id, id, id, id, id, id, id, id, fun _ => id, fun m => absurd (by simp [runParts]) m,
    fun r m _ _ _ a => by cases r <;> first | exact a | exact absurd (by simp [runParts]) m, fun _ _ a => a, fun _ => id⟩

/-- The Run Controller changed in nothing that a hold reason reads. -/
theorem State.run_keeps (s : State) (c : RunController) (op : c.op = s.run.op) (spinUp : c.spinUp = s.run.spinUp)
    (timers : s.timersSound → (c.standby ≠ none → s.run.op = .ready) ∧ (c.wake ≠ none → s.run.op = .waking)) :
    s.Keeps { s with run := c } :=
  ⟨id, id, id, id, id, id, id, id, fun _ => id,
    fun _ a => ⟨fun k => op.trans ((timers a).1 k), fun k => op.trans ((timers a).2 k), fun k => a.2.2 (op.symm.trans k)⟩,
    fun r _ _ _ _ a => by
      cases r <;> first
        | exact a
        | (show _ ↔ c.op = _; rw [op]; exact a)
        | (show _ ↔ c.spinUp ≠ none; rw [spinUp]; exact a), fun _ _ a => a, fun _ => id⟩

theorem State.jobs_keeps (s : State) (jobs : Vector JobSlot 16) (amounts : s.amountsSound → State.amountsSound { s with jobs := jobs })
    (slots : s.slotsHeld → State.slotsHeld { s with jobs := jobs }) : s.Keeps { s with jobs := jobs } :=
  ⟨id, id, id, amounts, id, id, slots, id, fun _ => id, fun _ => id, fun r _ _ _ _ a => by cases r <;> exact a, fun _ _ a => a, fun _ => id⟩

theorem State.sets_keepsBut (s : State) (x : SetTable) (sound : s.sets.sound → x.sound)
    (slots : s.slotsHeld → State.slotsHeld { s with sets := x }) :
    s.KeepsBut [.reserved, .reason .sets] { s with sets := x } :=
  ⟨id, id, id, id, id, sound, slots, id, fun m => absurd (by simp) m, fun _ => id,
    fun r m _ _ _ a => by cases r <;> first | exact a | exact absurd (by simp) m, fun _ _ a => a, fun _ => id⟩

theorem State.path_keepsBut (s : State) (p : PathMonitor) (places : s.placesSound → State.placesSound { s with path := p })
    (still : s.run.op = .starting → s.nothingMoves → p.list = [] ∧ p.s1 = none ∧ p.s2 = none ∧ p.se = none) :
    s.KeepsBut [.reason .buffer] { s with path := p } :=
  ⟨id, id, places, id, id, id, id, id, fun _ => id,
    fun _ a => ⟨a.1, a.2.1, fun k => by
      obtain ⟨h1, h2, h3, h4⟩ := still k (a.2.2 k)
      exact ⟨h1, h2, h3, h4, (a.2.2 k).2.2.2.2⟩⟩,
    fun r m _ _ _ a => by cases r <;> first | exact a | exact absurd (by simp) m, fun _ _ a => a, fun _ => id⟩

/-- The path changed with the entry buffer as it was. -/
theorem State.path_keeps (s : State) (p : PathMonitor) (buffer : p.buffer = s.path.buffer)
    (places : s.placesSound → (p.list.map PathEntry.id).Nodup ∧ p.list.length ≤ Config.pathCapacity)
    (still : s.run.op = .starting → s.nothingMoves → p.list = [] ∧ p.s1 = none ∧ p.s2 = none ∧ p.se = none) :
    s.Keeps { s with path := p } := by
  have part := s.path_keepsBut p (fun a => ⟨(places a).1, (places a).2, by
    show p.buffer.length ≤ _; rw [buffer]; exact a.2.2.1, a.2.2.2⟩) still
  refine { part with reserved := fun _ => part.reserved (by simp), timers := fun _ => part.timers (by simp),
                     reasons := fun r m a b c d => ?_, agrees := fun _ => part.agrees (by simp), limited := fun _ => part.limited (by simp) }
  by_cases e : r = .buffer
  · subst e; show _ ↔ p.buffer ≠ []; rw [buffer]; exact d
  · exact part.reasons r (by simp [e]) a b c d

theorem State.compiler_keepsBut (s : State) (c : Compiler) : s.KeepsBut [.reason .staples] { s with compiler := c } :=
  ⟨id, id, id, id, id, id, id, id, fun _ => id, fun _ => id,
    fun r m _ _ _ a => by cases r <;> first | exact a | exact absurd (by simp) m, fun _ _ a => a, fun _ => id⟩

/-- The compiler changed without entering or leaving STAPLE WAIT. -/
theorem State.compiler_keeps (s : State) (c : Compiler) (h : c.state = .stapleWait ↔ s.compiler.state = .stapleWait) :
    s.Keeps { s with compiler := c } :=
  ⟨id, id, id, id, id, id, id, id, fun _ => id, fun _ => id,
    fun r _ _ _ _ a => by cases r <;> first | exact a | exact Iff.trans a h.symm, fun _ _ a => a, fun _ => id⟩

theorem State.stapler_keepsBut (s : State) (x : Stapler) (count : s.stapler.count ≤ 5000 → x.count ≤ 5000)
    (low : s.stapler.low ≤ 1000 → x.low ≤ 1000) : s.KeepsBut [.governor] { s with stapler := x } :=
  ⟨id, id, id, fun a => ⟨a.1, count a.2.1, low a.2.2.1, a.2.2.2⟩, id, id, id, id, fun _ => id, fun _ => id,
    fun r _ _ _ _ a => by cases r <;> exact a, fun m => absurd (by simp) m, fun _ => id⟩

/-- The stapler changed with its count and its threshold as they were. -/
theorem State.stapler_keeps (s : State) (x : Stapler) (count : x.count = s.stapler.count) (low : x.low = s.stapler.low) :
    s.Keeps { s with stapler := x } := by
  have part := s.stapler_keepsBut x (by rw [count]; exact id) (by rw [low]; exact id)
  refine { part with reserved := fun _ => part.reserved (by simp), timers := fun _ => part.timers (by simp),
                     reasons := fun r _ => part.reasons r (by simp), agrees := fun _ _ a => ?_, limited := fun _ => part.limited (by simp) }
  refine (State.agrees_congr (s := s) (t := { s with stapler := x }) rfl fun i => ?_).mpr a
  match i with
  | 0 => show x.count < x.low ↔ _; rw [count, low]; exact Iff.rfl
  | 1 | 2 | 3 | 4 | 5 => exact Iff.rfl

theorem State.bins_keepsBut (s : State) (bins : Vector Bin 41)
    (amounts : s.amountsSound → ∀ b : Fin 41, bins[b].fill ≤ 9999 ∧ bins[b].capacity ≤ 9999)
    (chain : s.chainSound → State.chainSound { s with bins := bins }) :
    s.KeepsBut [.governor, .reason .overflowFull, .reserved] { s with bins := bins } :=
  ⟨id, id, id, fun a => ⟨amounts a, a.2⟩, chain, id, id, id, fun m => absurd (by simp) m, fun _ => id,
    fun r m _ _ _ a => by cases r <;> first | exact a | exact absurd (by simp) m, fun m => absurd (by simp) m, fun _ => id⟩

theorem State.chain_keepsBut (s : State) (c : TowerChain) (chain : s.chainSound → State.chainSound { s with chain := c }) :
    s.KeepsBut [.governor] { s with chain := c } :=
  ⟨id, id, id, id, chain, id, id, id, fun _ => id, fun _ => id, fun r _ _ _ _ a => by cases r <;> exact a,
    fun m => absurd (by simp) m, fun _ => id⟩

theorem State.delivery_keepsBut (s : State) (d : Delivery) (length : s.delivery.list.length ≤ 3 → d.list.length ≤ 3)
    (still : s.run.op = .starting → s.delivery.list = [] → d.list = []) : s.KeepsBut [.governor] { s with delivery := d } :=
  ⟨id, id, fun a => ⟨a.1, a.2.1, a.2.2.1, length a.2.2.2⟩, id, id, id, id, id, fun _ => id,
    fun _ a => ⟨a.1, a.2.1, fun k => by
      obtain ⟨h1, h2, h3, h4, h5⟩ := a.2.2 k
      exact ⟨h1, h2, h3, h4, still k h5⟩⟩,
    fun r _ _ _ _ a => by cases r <;> exact a, fun m => absurd (by simp) m, fun _ => id⟩

/-- The Delivery Controller changed with the shelf occupied or not as it was. -/
theorem State.delivery_keeps (s : State) (d : Delivery) (length : s.delivery.list.length ≤ 3 → d.list.length ≤ 3)
    (still : s.run.op = .starting → s.delivery.list = [] → d.list = []) (shelf : d.shelf = .occupied ↔ s.delivery.shelf = .occupied) :
    s.Keeps { s with delivery := d } := by
  have part := s.delivery_keepsBut d length still
  refine { part with reserved := fun _ => part.reserved (by simp), timers := fun _ => part.timers (by simp),
                     reasons := fun r _ => part.reasons r (by simp), agrees := fun _ _ a => ?_, limited := fun _ => part.limited (by simp) }
  refine (State.agrees_congr (s := s) (t := { s with delivery := d }) rfl fun i => ?_).mpr a
  match i with
  | 3 => exact shelf
  | 0 | 1 | 2 | 4 | 5 => exact Iff.rfl

theorem State.rejectNear_keepsBut (s : State) (q : Qual) : s.KeepsBut [.governor] { s with rejectNear := q } :=
  ⟨id, id, id, id, id, id, id, id, fun _ => id, fun _ => id, fun r _ _ _ _ a => by cases r <;> exact a, fun m => absurd (by simp) m, fun _ => id⟩

theorem State.rejectFull_keepsBut (s : State) (q : Qual) : s.KeepsBut [.reason .rejectFull] { s with rejectFull := q } :=
  ⟨id, id, id, id, id, id, id, id, fun _ => id, fun _ => id,
    fun r m _ _ _ a => by cases r <;> first | exact a | exact absurd (by simp) m, fun _ _ a => a, fun _ => id⟩

end Sys2Proof.Machine

namespace Sys2Proof.Machine

/-! ## Set records and reserved heights -/

/-- The height a record, in use or not, reserves in bin `b` (R106). -/
def heldIn (b : Fin 41) : Option SetRec → Nat
  | some x => if x.chosen = some b then x.height.getD 0 else 0
  | none => 0

theorem SetTable.reservedIn_eq (b : Fin 41) (t : SetTable) : t.reservedIn b = ∑ r : Fin 8, heldIn b t.recs[r] := by
  rw [Fin.sum_univ_def]
  rfl

/-- Two tables that differ in one record reserve the same but for that record. -/
theorem SetTable.reservedIn_but_one (b : Fin 41) (r : Fin 8) (t u : SetTable)
    (h : ∀ k : Fin 8, k ≠ r → heldIn b u.recs[k] = heldIn b t.recs[k]) :
    u.reservedIn b + heldIn b t.recs[r] = t.reservedIn b + heldIn b u.recs[r] := by
  have rest : ∑ k ∈ Finset.univ.erase r, heldIn b u.recs[k] = ∑ k ∈ Finset.univ.erase r, heldIn b t.recs[k] :=
    Finset.sum_congr rfl fun k m => h k (Finset.ne_of_mem_erase m)
  have one (x : SetTable) : heldIn b x.recs[r] + ∑ k ∈ Finset.univ.erase r, heldIn b x.recs[k] = x.reservedIn b :=
    (Finset.add_sum_erase _ (fun k : Fin 8 => heldIn b x.recs[k]) (Finset.mem_univ r)).trans (SetTable.reservedIn_eq b x).symm
  have := one t
  have := one u
  omega

/-- What one record reserves, all of them do. -/
theorem SetTable.heldIn_le (b : Fin 41) (r : Fin 8) (t : SetTable) : heldIn b t.recs[r] ≤ t.reservedIn b := by
  rw [SetTable.reservedIn_eq]
  exact Finset.single_le_sum (f := fun k : Fin 8 => heldIn b t.recs[k]) (fun _ _ => Nat.zero_le _) (Finset.mem_univ r)

/-- Writing a record reserves what the new one does in place of the old. -/
theorem State.setRec_reservedIn (b : Fin 41) (r : Fin 8) (x : SetRec) (s : State) :
    (s.setRec r x).sets.reservedIn b + heldIn b (s.getRec r) = s.sets.reservedIn b + heldIn b (some x) := by
  have := SetTable.reservedIn_but_one b r s.sets (s.setRec r x).sets fun k m => by
    exact congrArg (heldIn b) (State.setRec_getRec_ne r k m x s)
  have e : (s.setRec r x).sets.recs[r] = some x := State.setRec_getRec r x s
  rw [e] at this
  exact this

/-- The allocation order of a table and its records in use. -/
theorem SetTable.freeCount_congr (t u : SetTable) (h : ∀ r : Fin 8, u.recs[r].isNone = t.recs[r].isNone) :
    u.freeCount = t.freeCount := by
  unfold SetTable.freeCount
  simp only [h]

theorem State.setRec_used {r : Fin 8} {x : SetRec} {s : State} (h : s.getRec r = some x) (y : SetRec) (k : Fin 8) :
    (s.setRec r y).sets.recs[k].isNone = s.sets.recs[k].isNone := by
  show ((s.setRec r y).getRec k).isNone = (s.getRec k).isNone
  rw [State.setRec_getRec_ite]
  split
  · rename_i e; rw [e, h]; rfl
  · rfl

theorem SetTable.sound_congr {t u : SetTable} (order : u.order = t.order) (used : ∀ r : Fin 8, u.recs[r].isNone = t.recs[r].isNone)
    (h : t.sound) : u.sound := by
  refine ⟨order ▸ h.1, fun r => ?_⟩
  rw [order, h.2 r, ← Option.not_isNone, ← Option.not_isNone, used r]

/-- A record in use written over with one of the same slot. -/
theorem State.setRec_keepsBut {r : Fin 8} {x : SetRec} {s : State} (h : s.getRec r = some x) (y : SetRec) (slot : y.slot = x.slot) :
    s.KeepsBut [.reserved] (s.setRec r y) := by
  have part := s.sets_keepsBut (s.setRec r y).sets (SetTable.sound_congr rfl (State.setRec_used h y)) fun a k z e => by
    have e' : (s.setRec r y).getRec k = some z := e
    rw [State.setRec_getRec_ite] at e'
    split at e'
    · cases e'; simp only [slot]; exact a r x h
    · exact a k z e'
  refine { part with reserved := fun m => absurd (by simp) m, timers := fun _ => part.timers (by simp),
                     reasons := fun q m a b c d => ?_, agrees := fun _ => part.agrees (by simp), limited := fun _ => part.limited (by simp) }
  by_cases e : q = .sets
  · subst e
    show _ ↔ (s.setRec r y).sets.freeCount < 2
    rw [SetTable.freeCount_congr _ _ (State.setRec_used h y)]
    exact d
  · exact part.reasons q (by simp [e]) a b c d

/-- A record in use written over with one of the same slot, bin and height. -/
theorem State.setRec_keeps {r : Fin 8} {x : SetRec} {s : State} (h : s.getRec r = some x) (y : SetRec) (slot : y.slot = x.slot)
    (held : ∀ b, heldIn b (some y) = heldIn b (some x)) : s.Keeps (s.setRec r y) := by
  have part := State.setRec_keepsBut h y slot
  refine { part with reserved := fun _ a b => ?_, timers := fun _ => part.timers (by simp),
                     reasons := fun q _ => part.reasons q (by simp), agrees := fun _ => part.agrees (by simp), limited := fun _ => part.limited (by simp) }
  have := State.setRec_reservedIn b r y s
  rw [h, held b] at this
  exact (a b).trans (by omega)

theorem State.modRec_keeps (r : Fin 8) (f : SetRec → SetRec) (s : State)
    (keeps : ∀ x, s.getRec r = some x → (f x).slot = x.slot ∧ (f x).chosen = x.chosen ∧ (f x).height = x.height) :
    s.Keeps (s.modRec r f) := by
  unfold State.modRec
  split
  · rename_i x h
    obtain ⟨slot, chosen, height⟩ := keeps x h
    exact State.setRec_keeps h _ slot fun b => by simp only [heldIn, chosen, height]
  · exact .refl s

/-- A record marked broken keeps its slot, bin and height. -/
theorem SetRec.markBroken_same (b : BrokenReason) (x : SetRec) :
    (x.markBroken b).slot = x.slot ∧ (x.markBroken b).chosen = x.chosen ∧ (x.markBroken b).height = x.height := ⟨rfl, rfl, rfl⟩

theorem State.breakForming_keeps (b : BrokenReason) (s : State) : s.Keeps (s.breakForming b) := by
  unfold State.breakForming
  split
  · exact s.modRec_keeps _ _ fun x _ => x.markBroken_same b
  · exact .refl s

/-! ## Jobs -/

/-- The six counters are in their range (R6). -/
def Counters.bounded (c : Counters) : Prop :=
  c.opened ≤ 65535 ∧ c.delivered ≤ 65535 ∧ c.diverted ≤ 65535 ∧ c.lost ≤ 65535 ∧ c.purged ≤ 65535 ∧ c.loose ≤ 65535

/-- A slot written with bounded counters, and not FREE while a record names it. -/
theorem State.setJob_keeps (i : Fin 16) (j : JobSlot) (s : State)
    (bounded : s.jobs[i].counters.bounded → j.counters.bounded)
    (held : s.slotsHeld → (∃ r x, s.getRec r = some x ∧ x.slot = i) → j.state ≠ .free) : s.Keeps (s.setJob i j) := by
  refine s.jobs_keeps _ (fun a => ⟨a.1, a.2.1, a.2.2.1, fun k => ?_⟩) fun a r x h => ?_
  · show (s.setJob i j).jobs[k].counters.bounded
    rw [State.setJob_jobs]
    split
    · exact bounded (a.2.2.2 i)
    · exact a.2.2.2 k
  · show (s.setJob i j).jobs[x.slot].state ≠ .free
    rw [State.setJob_jobs]
    split
    · rename_i e; exact held a ⟨r, x, h, e⟩
    · exact a r x h

theorem State.bump_keeps (i : Fin 16) (f : Counters → Counters) (s : State) (h : ∀ c : Counters, c.bounded → (f c).bounded) :
    s.Keeps (s.bump i f) := by
  unfold State.bump
  simp only []
  split
  · exact .refl s
  · rename_i used
    exact s.setJob_keeps i _ (h _) fun _ _ => used

theorem count16_le (x : Nat) : count16 x ≤ 65535 := Nat.min_le_left _ _

theorem Counters.addOutcome_bounded (o : SetOutcome) (c : Counters) (h : c.bounded) : (c.addOutcome o).bounded := by
  obtain ⟨h1, h2, h3, h4, h5, h6⟩ := h
  cases o
  · exact ⟨h1, count16_le _, h3, h4, h5, h6⟩
  · exact ⟨h1, h2, count16_le _, h4, h5, h6⟩
  · exact ⟨h1, h2, h3, count16_le _, h5, h6⟩
  · exact ⟨h1, h2, h3, h4, count16_le _, h6⟩

theorem Counters.addOpened_bounded (c : Counters) (h : c.bounded) : c.addOpened.bounded := ⟨count16_le _, h.2⟩

theorem Counters.addLoose_bounded (c : Counters) (h : c.bounded) : c.addLoose.bounded := by
  obtain ⟨h1, h2, h3, h4, h5, -⟩ := h
  exact ⟨h1, h2, h3, h4, h5, count16_le _⟩

/-- Whether a table names a slot. -/
theorem SetTable.names_iff (i : Fin 16) (t : SetTable) : t.names i = true ↔ ∃ (r : Fin 8) (x : SetRec), t.recs[r] = some x ∧ x.slot = i := by
  simp only [SetTable.names, List.any_eq_true, Vector.mem_toList_iff, Vector.mem_iff_getElem]
  constructor
  · rintro ⟨o, ⟨k, hk, e⟩, h⟩
    cases o with
    | none => cases h
    | some x => exact ⟨⟨k, hk⟩, x, e, by simpa using h⟩
  · rintro ⟨r, x, e, h⟩
    exact ⟨some x, ⟨r.val, r.isLt, e⟩, by simpa using h⟩

theorem State.completionTest_keeps (i : Fin 16) (s : State) : s.Keeps (s.completionTest i) := by
  unfold State.completionTest
  simp only []
  split
  · rename_i c
    have freed : s.Keeps (s.setJob i { s.jobs[i] with state := .free }) := s.setJob_keeps i _ id fun _ n => by
      have named : s.sets.names i = true := (SetTable.names_iff i s.sets).mpr n
      simp [State.completes, named] at c
    exact freed.trans (State.notify_keeps _ _ _)
  · exact .refl s

theorem State.afterRemoval_keeps (s : State) (e : Entry) : s.Keeps (s.afterRemoval e) := by
  unfold State.afterRemoval
  split
  · exact s.completionTest_keeps _
  · exact .refl s

/-! ## Allocation and release -/

/-- A table written at FREE record `r` with a new one at the end of the order stays sound (R11). -/
theorem SetTable.allocate_sound {t : SetTable} {r : Fin 8} (x : SetRec) (free : t.recs[r] = none) (h : t.sound) :
    SetTable.sound ⟨t.recs.set r (some x), t.order ++ [r]⟩ := by
  have new : r ∉ t.order := fun m => by have := (h.2 r).mp m; rw [free] at this; cases this
  refine ⟨List.nodup_append.mpr ⟨h.1, by simp, by rintro a m _ n rfl; simp at n; exact new (n ▸ m)⟩, fun k => ?_⟩
  have e := State.setRec_getRec_ite r k x { State.reset with sets := t }
  have e' : (t.recs.set r (some x))[k] = if k = r then some x else t.recs[k] := e
  rw [List.mem_append, h.2 k, e']
  by_cases m : k = r <;> simp [m]

theorem State.allocate_keeps {s : State} {r : Fin 8} (x : SetRec) (free : s.getRec r = none) (chosen : x.chosen = none)
    (used : s.slotsHeld → s.jobs[x.slot].state ≠ .free) : s.Keeps (s.allocate r x) := by
  have recs (k : Fin 8) : (s.sets.recs.set r (some x))[k] = if k = r then some x else s.getRec k := State.setRec_getRec_ite r k x s
  have part := s.sets_keepsBut ⟨s.sets.recs.set r (some x), s.sets.order ++ [r]⟩ (SetTable.allocate_sound x free) fun a k y e => by
    have e' : (s.sets.recs.set r (some x))[k] = some y := e
    rw [recs] at e'
    split at e'
    · cases e'; exact used a
    · exact a k y e'
  have set : s.KeepsBut [.reason .sets] { s with sets := ⟨s.sets.recs.set r (some x), s.sets.order ++ [r]⟩ } :=
    { part with
      reserved := fun _ a b => by
        have := State.setRec_reservedIn b r x s
        rw [free] at this
        have none_ : heldIn b (some x) = 0 := by simp [heldIn, chosen]
        rw [none_] at this
        exact (a b).trans this.symm
      timers := fun _ => part.timers (by simp)
      reasons := fun q m => part.reasons q (by simpa using m)
      agrees := fun _ => part.agrees (by simp), limited := fun _ => part.limited (by simp) }
  exact set.setReason (by simp) fun _ _ _ => decide_eq_true_iff

theorem SetTable.without_getRec (r k : Fin 8) (t : SetTable) (y : SetRec) (h : (t.without r).recs[k] = some y) :
    k ≠ r ∧ ∃ x, t.recs[k] = some x ∧ y.slot = x.slot ∧ ∀ b, heldIn b (some y) = heldIn b (some x) := by
  rw [SetTable.without_recs] at h
  split at h
  · cases h
  · rename_i ne
    obtain ⟨x, used, e⟩ := Option.map_eq_some_iff.mp h
    refine ⟨ne, x, used, ?_⟩
    split at e <;> subst e <;> exact ⟨rfl, fun b => rfl⟩

theorem SetTable.without_heldIn (b : Fin 41) (r k : Fin 8) (t : SetTable) :
    heldIn b (t.without r).recs[k] = if k = r then 0 else heldIn b t.recs[k] := by
  rw [SetTable.without_recs]
  split
  · rfl
  · cases t.recs[k] with
    | none => rfl
    | some x => simp only [Option.map_some]; split <;> rfl

theorem SetTable.without_sound {t : SetTable} (r : Fin 8) (h : t.sound) : (t.without r).sound := by
  refine ⟨h.1.filter _, fun k => ?_⟩
  show k ∈ t.order.filter _ ↔ _
  rw [List.mem_filter, h.2 k, SetTable.without_recs]
  by_cases e : k = r <;> simp [e]

/-- What freeing record `r` takes off the reserved heights. -/
theorem SetTable.without_reservedIn (b : Fin 41) (r : Fin 8) (t : SetTable) :
    (t.without r).reservedIn b + heldIn b t.recs[r] = t.reservedIn b := by
  have := SetTable.reservedIn_but_one b r t (t.without r) fun k m => by rw [SetTable.without_heldIn, if_neg m]
  rw [SetTable.without_heldIn, if_pos rfl] at this
  exact this

/-- A record freed; its reservation has to go before or after. -/
theorem State.release_keepsBut (r : Fin 8) (i : Fin 16) (s : State) : s.KeepsBut [.reserved] (s.release r i) := by
  have part := s.sets_keepsBut (s.sets.without r) (SetTable.without_sound r) fun a k y e => by
    obtain ⟨-, x, used, slot, -⟩ := SetTable.without_getRec r k s.sets y e
    show s.jobs[y.slot].state ≠ .free
    simp only [slot]
    exact a k x used
  have set : s.KeepsBut [.reserved] ({ s with sets := s.sets.without r } : State).syncSets :=
    (part.mono (Y := [.reason .sets, .reserved]) (by simp)).setReason (by simp) fun _ _ _ => decide_eq_true_iff
  exact set.trans ((State.completionTest_keeps i _).but _) (by simp)

theorem State.produce_keepsBut (r : Fin 8) (x : SetRec) (o : SetOutcome) (d : Option (Fin 41)) (n : Nat) (f : Bool) (s : State) :
    s.KeepsBut [.reserved] (s.produce r x o d n f) := by
  unfold State.produce
  refine State.KeepsBut.trans (State.Keeps.but ?_ _) (State.release_keepsBut r x.slot _) (by simp)
  exact (s.report_keeps (s.report.dispose_keeps _ _)).trans (State.bump_keeps _ _ _ (Counters.addOutcome_bounded o))

theorem State.produceLoose_keeps (b : Bool) (q : Option Seq) (e : OrphanReason) (x : Option (Fin 16 × Nat)) (s : State) :
    s.Keeps (s.produceLoose b q e x) := s.report_keeps (s.report.dispose_keeps _ _)

end Sys2Proof.Machine

namespace Sys2Proof.Machine

/-! ## Bins -/

/-- Two bin records that derive the same state under the same tower (R103). -/
def Bin.alike (x y : Bin) : Prop :=
  x.capacity = y.capacity ∧ x.margin = y.margin ∧ x.enabled = y.enabled ∧ x.fill = y.fill ∧ x.full.state = y.full.state

theorem Bin.alike_refl (x : Bin) : x.alike x := ⟨rfl, rfl, rfl, rfl, rfl⟩

theorem State.reachable_congr {s t : State} (h : t.chain = s.chain) (b : Fin 41) : t.reachable b = s.reachable b := by
  unfold State.reachable
  rw [h]

/-- A bin's state follows its record and its tower (R103). -/
theorem State.binState_congr {s t : State} (b : Fin 41) (reach : t.reachable b = s.reachable b) (h : (t.bins[b]).alike s.bins[b]) :
    t.binState b = s.binState b := by
  obtain ⟨h1, h2, h3, h4, h5⟩ := h
  simp only [State.binState, reach, h1, h2, h3, h4, h5]

theorem State.fullCount_congr {s t : State} (h : ∀ b, t.binState b = s.binState b) : t.fullCount = s.fullCount := by
  simp only [State.fullCount, h]

/-- Bins changed in nothing that their states are derived from. -/
theorem State.alike_keepsBut (s : State) (bins : Vector Bin 41) (alike : ∀ b : Fin 41, (bins[b]).alike s.bins[b])
    (chain : s.chainSound → State.chainSound { s with bins := bins }) : s.KeepsBut [.reserved] { s with bins := bins } := by
  have states (b : Fin 41) : State.binState { s with bins := bins } b = s.binState b :=
    State.binState_congr b rfl (alike b)
  have part := s.bins_keepsBut bins (fun a b => by
    obtain ⟨h1, -, -, h4, -⟩ := alike b
    rw [h1, h4]
    exact a.1 b) chain
  refine { part with reserved := fun m => absurd (by simp) m, timers := fun _ => part.timers (by simp),
                     reasons := fun r _ a b c d => ?_, agrees := fun _ _ a => ?_, limited := fun _ => part.limited (by simp) }
  · by_cases e : r = .overflowFull
    · subst e
      show _ ↔ State.binState { s with bins := bins } 0 = .full
      rw [states]
      exact d
    · exact part.reasons r (by simp [e]) a b c d
  · refine (State.agrees_congr (s := s) (t := { s with bins := bins }) rfl fun i => ?_).mpr a
    match i with
    | 2 => show (_ = _ ∨ _ = _) ↔ _; rw [states]; exact Iff.rfl
    | 4 => show _ ≤ State.fullCount { s with bins := bins } ↔ _; rw [State.fullCount_congr states]; exact Iff.rfl
    | 0 | 1 | 3 | 5 => exact Iff.rfl

/-- One bin changed keeps what a tower that is not present has (R116), where its sensors stay or its tower is present. -/
theorem State.modBin_chainSound (b : Fin 41) (f : Bin → Bin) (s : State)
    (h : ((f s.bins[b]).present = s.bins[b].present ∧ (f s.bins[b]).full = s.bins[b].full) ∨
      ∀ k, towerOf b = some k → s.chain.towers[k].present = true) (a : s.chainSound) : (s.modBin b f).chainSound := by
  intro k absent
  obtain ⟨power, door, bins⟩ := a k absent
  refine ⟨power, door, fun c lies => ?_⟩
  rw [State.modBin_bins]
  split
  · rename_i e
    subst e
    obtain ⟨present, full⟩ | present := h
    · rw [present, full]; exact bins _ lies
    · exact absurd ((present k lies).symm.trans absent) (by simp)
  · exact bins c lies

/-- One bin changed in nothing but its reservation, its next side and its count. -/
theorem State.modBin_alike_keepsBut (b : Fin 41) (f : Bin → Bin) (s : State) (alike : (f s.bins[b]).alike s.bins[b])
    (sensors : (f s.bins[b]).present = s.bins[b].present ∧ (f s.bins[b]).full = s.bins[b].full) :
    s.KeepsBut [.reserved] (s.modBin b f) := by
  refine s.alike_keepsBut _ (fun c => ?_) (s.modBin_chainSound b f (.inl sensors))
  show ((s.modBin b f).bins[c]).alike s.bins[c]
  rw [State.modBin_bins]
  split
  · rename_i e; subst e; exact alike
  · exact Bin.alike_refl _

/-- A change of the bins that leaves every reserved height keeps the reservations exact. -/
theorem State.KeepsBut.reservedSame {X : List Part} {s t : State} (h : s.KeepsBut (.reserved :: X) t)
    (same : ∀ b : Fin 41, t.bins[b].reserved = s.bins[b].reserved) (sets : t.sets = s.sets) : s.KeepsBut X t :=
  { h with
    reserved := fun _ a b => by rw [same b, sets]; exact a b
    timers := fun m => h.timers (by simpa using m)
    reasons := fun r m => h.reasons r (by simpa using m)
    agrees := fun m => h.agrees (by simpa using m)
    limited := fun m => h.limited (by simpa using m) }

/-- A change that ends with the reservations exact keeps them so. -/
theorem State.KeepsBut.reservedExact {X : List Part} {s t : State} (h : s.KeepsBut (.reserved :: X) t)
    (exact_ : s.reservedExactly → t.reservedExactly) : s.KeepsBut X t :=
  { h with
    reserved := fun _ => exact_
    timers := fun m => h.timers (by simpa using m)
    reasons := fun r m => h.reasons r (by simpa using m)
    agrees := fun m => h.agrees (by simpa using m)
    limited := fun m => h.limited (by simpa using m) }

theorem State.cursorReturn_keeps (b : Fin 41) (s : State) : s.Keeps (s.cursorReturn b) :=
  s.free_keeps _ _ _ _ _ _ _ _ _

theorem State.takeSide_keeps (r : Fin 8) (b : Fin 41) (s : State) : s.Keeps (s.takeSide r b) := by
  unfold State.takeSide
  split
  · exact .refl s
  · rename_i x h
    split
    · have sided (side : Side) (t : State) : t.Keeps (t.modBin b fun y => { y with nextSide := side }) :=
        State.KeepsBut.reservedSame (t.modBin_alike_keepsBut b _ (Bin.alike_refl _) ⟨rfl, rfl⟩) (fun c => by
          rw [State.modBin_bins]
          split
          · rename_i e; subst e; rfl
          · rfl) rfl
      refine State.Keeps.trans ?_ (sided _ _)
      exact State.setRec_keeps h _ rfl fun _ => rfl
    · exact State.setRec_keeps h _ rfl fun _ => rfl

/-- What a record with a chosen bin reserves. -/
theorem heldIn_some (b c : Fin 41) (x : SetRec) (h : x.chosen = some c) : heldIn b (some x) = if b = c then x.height.getD 0 else 0 := by
  simp only [heldIn, h, Option.some.injEq, eq_comm]

theorem heldIn_none (b : Fin 41) (x : SetRec) (h : x.chosen = none) : heldIn b (some x) = 0 := by simp [heldIn, h]

theorem State.dropReservation_keeps (r : Fin 8) (s : State) : s.Keeps (s.dropReservation r) := by
  unfold State.dropReservation
  split
  · rename_i x h
    split
    · rename_i c chosen
      have rec_ := State.setRec_keepsBut h { x with chosen := none } rfl
      have bin : (s.setRec r { x with chosen := none }).KeepsBut [.reserved]
          ((s.setRec r { x with chosen := none }).unreserve c (x.height.getD 0)) :=
        (State.modBin_alike_keepsBut c _ _ (Bin.alike_refl _) ⟨rfl, rfl⟩).trans ((State.cursorReturn_keeps c _).but _) (by simp)
      refine (rec_.trans bin (by simp)).reservedExact fun a b => ?_
      have sum := State.setRec_reservedIn b r { x with chosen := none } s
      rw [h, heldIn_some b c x chosen, heldIn_none b _ rfl] at sum
      rw [State.unreserve_bins]
      have same : ((s.setRec r { x with chosen := none }).unreserve c (x.height.getD 0)).sets =
        (s.setRec r { x with chosen := none }).sets := rfl
      have now := a b
      rw [same]
      split
      · rename_i e
        subst e
        rw [if_pos rfl] at sum
        show s.bins[b].reserved - _ = _
        omega
      · rename_i e
        rw [if_neg e] at sum
        show s.bins[b].reserved = _
        omega
    · exact .refl s
  · exact .refl s

/-- A record without a bin is given one, and its height reserved there (R106). -/
theorem State.give_keeps {r : Fin 8} {x : SetRec} {s : State} (h : s.getRec r = some x) (free : x.chosen = none) (y : SetRec)
    (c : Fin 41) (slot : y.slot = x.slot) (chosen : y.chosen = some c) : s.Keeps ((s.setRec r y).reserve c (y.height.getD 0)) := by
  have rec_ := State.setRec_keepsBut h y slot
  have bin : (s.setRec r y).KeepsBut [.reserved] ((s.setRec r y).reserve c (y.height.getD 0)) :=
    State.modBin_alike_keepsBut c _ _ (Bin.alike_refl _) ⟨rfl, rfl⟩
  refine (rec_.trans bin (by simp)).reservedExact fun a b => ?_
  have sum := State.setRec_reservedIn b r y s
  rw [h, heldIn_none b x free, heldIn_some b c y chosen] at sum
  rw [State.reserve_bins]
  have same : ((s.setRec r y).reserve c (y.height.getD 0)).sets = (s.setRec r y).sets := rfl
  have now := a b
  rw [same]
  split
  · rename_i e
    subst e
    rw [if_pos rfl] at sum
    show s.bins[b].reserved + _ = _
    omega
  · rename_i e
    rw [if_neg e] at sum
    show s.bins[b].reserved = _
    omega

/-- After its reservation is dropped a record in use has no bin (R106). -/
theorem State.dropReservation_used {r : Fin 8} {y : SetRec} {s : State} (h : (s.dropReservation r).getRec r = some y) :
    ∃ x, s.getRec r = some x ∧ y = { x with chosen := none } := by
  cases e : s.getRec r with
  | none =>
    have : s.dropReservation r = s := by simp [State.dropReservation, e]
    rw [this, e] at h
    cases h
  | some x =>
    rw [State.dropReservation_getRec r r x s e, if_pos rfl] at h
    cases h
    exact ⟨x, rfl, rfl⟩

theorem State.choose_keeps (r : Fin 8) (b : Fin 41) (s : State) : s.Keeps (s.choose r b) := by
  have dropped := s.dropReservation_keeps r
  simp only [State.choose]
  split
  · exact dropped
  · rename_i y h
    obtain ⟨x, -, rfl⟩ := State.dropReservation_used h
    exact (dropped.trans (State.give_keeps h rfl { x with chosen := some b } b rfl rfl)).trans (State.takeSide_keeps r b _)

theorem State.retarget_keeps (r : Fin 8) (d : DivertReason) (s : State) : s.Keeps (s.retarget r d) := by
  have dropped := s.dropReservation_keeps r
  simp only [State.retarget]
  split
  · exact dropped
  · rename_i y h
    obtain ⟨x, -, rfl⟩ := State.dropReservation_used h
    exact (dropped.trans (State.give_keeps h rfl { x with divert := some (x.divert.getD d), chosen := some 0 } 0 rfl rfl)).trans
      (State.takeSide_keeps r 0 _)

theorem State.moveCursor_keeps (i : Fin 32) (b : Fin 41) (s : State) : s.Keeps (s.moveCursor i b) :=
  s.free_keeps _ _ _ _ _ _ _ _ _

theorem State.scan_keepsSound (r : Fin 8) (h : Nat) (bins : List (Fin 41)) (m : Fin 41 → State → State)
    (hm : ∀ b (s : State), s.Keeps (m b s)) (s : State) : s.Keeps (s.scan r h bins m) := by
  obtain ⟨-, e⟩ | ⟨b, -, -, e⟩ := s.scan_cases r h bins m
  · rw [e]; exact .refl s
  · rw [e]; exact (s.choose_keeps r b).trans (hm b _)

theorem State.scanSequence_keeps (r : Fin 8) (h : Nat) (i : Fin 32) (x y : Fin 41) (g : BitVec 8) (s : State) :
    s.Keeps (s.scanSequence r h i x y g) := by
  unfold State.scanSequence
  simp only []
  split
  · exact s.scan_keepsSound r h _ _ fun b t => t.moveCursor_keeps i b
  · exact s.scan_keepsSound r h _ _ fun _ t => .refl t

theorem State.selectBin_keeps (r : Fin 8) (s : State) : s.Keeps (s.selectBin r) := by
  have found (bins : List (Fin 41)) (h : Nat) : s.Keeps (s.scan r h bins fun _ s => s) := s.scan_keepsSound r h _ _ fun _ t => .refl t
  unfold State.selectBin
  split
  · exact .refl s
  simp only []
  split
  · exact s.retarget_keeps r _
  split
  · exact s.retarget_keeps r _
  split
  · split
    · exact .refl s
    · exact found _ _
  split
  · exact (s.retarget_keeps r _).trans (State.notify_keeps _ _ _)
  · exact found _ _
  · split
    · exact found _ _
    · exact s.scanSequence_keeps r _ _ _ _ _

/-- A change of a record's state, decision and the like: everything but its slot, bin and height. -/
theorem State.foundBin_keeps (r : Fin 8) (s : State) : s.Keeps (s.foundBin r) := by
  have found : s.Keeps (s.modRec r fun x => { x with state := .readyToEject }) := s.modRec_keeps r _ fun _ _ => ⟨rfl, rfl, rfl⟩
  exact found.trans (State.delivery_keeps _ _ id (fun _ => id) Iff.rfl)

theorem State.reevaluatePart_keeps (r : Fin 8) (s : State) : s.Keeps (s.reevaluatePart r) := by
  simp only [State.reevaluatePart]
  split
  · exact (s.selectBin_keeps r).trans (State.foundBin_keeps r _)
  · exact s.selectBin_keeps r

theorem State.passTo_keeps (b : Fin 41) (d : Option DivertReason) (s : State) (k : Fin 8) : s.Keeps (s.passTo b d k) := by
  unfold State.passTo
  split
  · exact .refl s
  · rename_i x h
    have passed := State.setRec_keeps h
      { x with partBin := some b, divert := x.divert.orElse fun _ => if x.state = .onBelt then none else d } rfl fun _ => rfl
    simp only []
    split
    · exact passed.trans (State.reevaluatePart_keeps k _)
    · exact passed

theorem State.passPartBin_keeps (r : Fin 8) (s : State) : s.Keeps (s.passPartBin r) := by
  unfold State.passPartBin
  split
  · split
    · split
      · exact State.Keeps.foldl _ (fun t k => t.passTo_keeps _ _ k) _ s
      · exact .refl s
    · exact .refl s
  · exact .refl s

theorem State.binChoice_keeps (r : Fin 8) (s : State) : s.Keeps (s.binChoice r) :=
  (s.selectBin_keeps r).trans (State.passPartBin_keeps r _)

theorem State.reevaluate_keeps (r : Fin 8) (s : State) : s.Keeps (s.reevaluate r) := by
  simp only [State.reevaluate]
  split
  · exact ((s.selectBin_keeps r).trans (State.foundBin_keeps r _)).trans (State.passPartBin_keeps r _)
  · exact s.selectBin_keeps r

theorem State.reevaluateFor_keeps (b : Fin 41) (r : Option (Fin 8)) (s : State) : s.Keeps (s.reevaluateFor b r) := by
  unfold State.reevaluateFor
  split
  · exact .refl s
  · split
    · split
      · exact s.reevaluate_keeps _
      · exact .refl s
    · exact .refl s

theorem State.binEvent_keeps (s : State) (b : Fin 41) : s.Keeps (s.binEvent b) :=
  (s.reevaluateFor_keeps b _).trans (State.reevaluateFor_keeps b _ _)

theorem State.divertHeld_keeps (r : Fin 8) (d : DivertReason) (s : State) : s.Keeps (s.divertHeld r d) :=
  ((s.retarget_keeps r d).trans (State.foundBin_keeps r _)).trans (State.passPartBin_keeps r _)

theorem State.holdExpires_keeps (s : State) : s.Keeps s.holdExpires := by
  unfold State.holdExpires
  split
  · exact .refl s
  · split
    · exact .refl s
    · exact (s.divertHeld_keeps _ _).trans (State.notify_keeps _ _ _)

/-! ## Bins whose states change -/

theorem State.binNotice_keeps (w : BinState) (b : Fin 41) (s : State) : s.Keeps (s.binNotice w b) := by
  simp only [State.binNotice]
  split
  · exact .refl s
  split
  · exact s.notify_keeps _ _
  split
  · exact s.notify_keeps _ _
  · exact .refl s

/-- The notices of changed bins, OVERFLOW FULL and the governor restore what a change of the bins left open (R104, R150, R152). -/
theorem State.KeepsBut.binsChanged {X : List Part} {s t : State} (h : s.KeepsBut (.governor :: .reason .overflowFull :: X) t)
    (n : .timers ∉ X) (was : State) (bs : List (Fin 41)) : s.KeepsBut X (t.binsChanged was bs) := by
  have told := State.Keeps.foldl (fun s b => s.binNotice (was.binState b) b) (fun s b => s.binNotice_keeps _ b) bs t
  refine State.KeepsBut.recombine (State.KeepsBut.setReason ?_ (by simp) fun _ _ _ => decide_eq_true_iff)
  exact (h.trans (told.but _) (by simpa using n)).mono fun p m => by
    simp only [List.mem_cons] at m ⊢
    tauto

/-- One bin changed, whatever state it derives afterwards. -/
theorem State.modBin_keepsBut (b : Fin 41) (f : Bin → Bin) (s : State) (reserved : (f s.bins[b]).reserved = s.bins[b].reserved)
    (bounds : s.bins[b].fill ≤ 9999 → s.bins[b].capacity ≤ 9999 → (f s.bins[b]).fill ≤ 9999 ∧ (f s.bins[b]).capacity ≤ 9999)
    (sensors : ((f s.bins[b]).present = s.bins[b].present ∧ (f s.bins[b]).full = s.bins[b].full) ∨
      ∀ k, towerOf b = some k → s.chain.towers[k].present = true) :
    s.KeepsBut [.governor, .reason .overflowFull] (s.modBin b f) := by
  have part := s.bins_keepsBut (s.modBin b f).bins (fun a c => by
    rw [State.modBin_bins]
    split
    · rename_i e; subst e; exact bounds (a.1 _).1 (a.1 _).2
    · exact a.1 c) (s.modBin_chainSound b f sensors)
  refine State.KeepsBut.reservedSame (part.mono (by simp)) (fun c => ?_) rfl
  show (s.modBin b f).bins[c].reserved = _
  rw [State.modBin_bins]
  split
  · rename_i e; subst e; exact reserved
  · rfl

theorem State.updateBin_keeps (b : Fin 41) (f : Bin → Bin) (s : State) (reserved : (f s.bins[b]).reserved = s.bins[b].reserved)
    (bounds : s.bins[b].fill ≤ 9999 → s.bins[b].capacity ≤ 9999 → (f s.bins[b]).fill ≤ 9999 ∧ (f s.bins[b]).capacity ≤ 9999)
    (sensors : ((f s.bins[b]).present = s.bins[b].present ∧ (f s.bins[b]).full = s.bins[b].full) ∨
      ∀ k, towerOf b = some k → s.chain.towers[k].present = true) : s.Keeps (s.updateBin b f) :=
  (s.modBin_keepsBut b f reserved bounds sensors).binsChanged (by simp) _ _

end Sys2Proof.Machine

namespace Sys2Proof.Machine

/-! ## Reasons that the choice of a bin leaves alone -/

theorem State.selectBin_stands (r : Fin 8) (x : Reason) (s : State) (h : x ≠ .backlog) : (s.selectBin r).stands x ↔ s.stands x := by
  have moved (b : Fin 41) (i : Fin 32) (t : State) : (t.moveCursor i b).report = t.report := rfl
  have scanned (bins : List (Fin 41)) (n : Nat) (m : Fin 41 → State → State) (hm : ∀ b t, (m b t).report = t.report) :
      (s.scan r n bins m).report = s.report := State.scan_keeps (·.report) r n bins m hm (by simp) s
  unfold State.selectBin State.stands
  split
  · exact Iff.rfl
  simp only []
  split
  · simp
  split
  · simp
  split
  · split
    · exact Iff.rfl
    · rw [scanned _ _ _ fun _ _ => rfl]
  split
  · exact (State.notify_stands _ _ x _ h).trans (by simp [State.stands])
  · rw [scanned _ _ _ fun _ _ => rfl]
  · split
    · rw [scanned _ _ _ fun _ _ => rfl]
    · simp

theorem State.foundBin_stands (r : Fin 8) (x : Reason) (s : State) : (s.foundBin r).stands x ↔ s.stands x := by
  simp [State.stands]

theorem State.reevaluatePart_stands (r : Fin 8) (x : Reason) (s : State) (h : x ≠ .backlog) :
    (s.reevaluatePart r).stands x ↔ s.stands x := by
  simp only [State.reevaluatePart]
  split
  · exact (State.foundBin_stands r x _).trans (s.selectBin_stands r x h)
  · exact s.selectBin_stands r x h

theorem State.passTo_stands (b : Fin 41) (d : Option DivertReason) (k : Fin 8) (x : Reason) (s : State) (h : x ≠ .backlog) :
    (s.passTo b d k).stands x ↔ s.stands x := by
  unfold State.passTo
  split
  · exact Iff.rfl
  · simp only []
    split
    · exact State.reevaluatePart_stands k x _ h
    · exact Iff.rfl

theorem foldl_stands {α : Type} (f : State → α → State) (x : Reason) (h : ∀ (s : State) a, (f s a).stands x ↔ s.stands x) (l : List α)
    (s : State) : (l.foldl f s).stands x ↔ s.stands x := by
  induction l generalizing s with
  | nil => exact Iff.rfl
  | cons a l ih => exact (ih _).trans (h s a)

theorem State.passPartBin_stands (r : Fin 8) (x : Reason) (s : State) (h : x ≠ .backlog) :
    (s.passPartBin r).stands x ↔ s.stands x := by
  unfold State.passPartBin
  split
  · split
    · split
      · exact foldl_stands _ x (fun t k => t.passTo_stands _ _ k x h) _ s
      · exact Iff.rfl
    · exact Iff.rfl
  · exact Iff.rfl

theorem State.binChoice_stands (r : Fin 8) (x : Reason) (s : State) (h : x ≠ .backlog) : (s.binChoice r).stands x ↔ s.stands x :=
  (State.passPartBin_stands r x _ h).trans (s.selectBin_stands r x h)

theorem State.reevaluate_stands (r : Fin 8) (x : Reason) (s : State) (h : x ≠ .backlog) : (s.reevaluate r).stands x ↔ s.stands x := by
  simp only [State.reevaluate]
  split
  · exact ((State.passPartBin_stands r x _ h).trans (State.foundBin_stands r x _)).trans (s.selectBin_stands r x h)
  · exact s.selectBin_stands r x h

theorem State.reevaluateFor_stands (b : Fin 41) (r : Option (Fin 8)) (x : Reason) (s : State) (h : x ≠ .backlog) :
    (s.reevaluateFor b r).stands x ↔ s.stands x := by
  unfold State.reevaluateFor
  split
  · exact Iff.rfl
  · split
    · split
      · exact s.reevaluate_stands _ x h
      · exact Iff.rfl
    · exact Iff.rfl

theorem State.binEvent_stands (b : Fin 41) (x : Reason) (s : State) (h : x ≠ .backlog) : (s.binEvent b).stands x ↔ s.stands x :=
  (State.reevaluateFor_stands b _ x _ h).trans (s.reevaluateFor_stands b _ x h)

theorem State.divertHeld_stands (r : Fin 8) (d : DivertReason) (x : Reason) (s : State) (h : x ≠ .backlog) :
    (s.divertHeld r d).stands x ↔ s.stands x :=
  ((State.passPartBin_stands r x _ h).trans (State.foundBin_stands r x _)).trans (by simp [State.stands])

/-! ## The compiler and the stapler -/

/-- A reason found exact restores it. -/
theorem State.KeepsBut.restore {X : List Part} {s t : State} {r : Reason} (h : s.KeepsBut (.reason r :: X) t)
    (e : s.sets.sound → s.queue.sound → s.timersSound → t.exactAt r) : s.KeepsBut X t :=
  { h with
    reserved := fun m => h.reserved (by simpa using m)
    timers := fun m => h.timers (by simpa using m)
    reasons := fun x m a b c d => by
      by_cases k : x = r
      · subst k; exact e a b c
      · exact h.reasons x (by simp [k, m]) a b c d
    agrees := fun m => h.agrees (by simpa using m)
    limited := fun m => h.limited (by simpa using m) }

theorem State.setCompiler_state (c : CompilerState) (s : State) : (s.setCompiler c).compiler = { s.compiler with state := c } := by
  unfold State.setCompiler
  simp only []
  split <;> rfl

theorem State.setCompiler_stands (c : CompilerState) (x : Reason) (s : State) : (s.setCompiler c).stands x ↔
    s.stands x ∧ ¬ (x = .staples ∧ s.compiler.state = .stapleWait ∧ c ≠ .stapleWait) := by
  unfold State.setCompiler
  simp only []
  split
  · rename_i leaves
    rw [State.drop_stands]
    show _ ∧ s.stands x ↔ _
    by_cases e : x = .staples <;> simp [e, leaves]
  · rename_i stays
    show s.stands x ↔ _
    tauto

theorem State.setCompiler_keepsBut (c : CompilerState) (s : State) : s.KeepsBut [.reason .staples] (s.setCompiler c) := by
  have set := s.compiler_keepsBut { s.compiler with state := c }
  unfold State.setCompiler
  simp only []
  split
  · rename_i leaves
    refine State.Keeps.but (State.KeepsBut.drop set (by simp) fun _ _ _ => ?_) _
    exact leaves.2
  · exact set

theorem State.setCompiler_keeps (c : CompilerState) (n : c ≠ .stapleWait) (s : State) : s.Keeps (s.setCompiler c) := by
  have part := s.setCompiler_keepsBut c
  refine { part with reserved := fun _ => part.reserved (by simp), timers := fun _ => part.timers (by simp),
                     reasons := fun r _ a b d e => ?_, agrees := fun _ => part.agrees (by simp), limited := fun _ => part.limited (by simp) }
  by_cases k : r = .staples
  · subst k
    unfold State.exactAt
    rw [State.setCompiler_stands]
    have h : s.stands .staples ↔ s.compiler.state = .stapleWait := e
    refine iff_of_false (fun m => ?_) (fun m => ?_)
    · exact m.2 ⟨rfl, h.mp m.1, n⟩
    · have m' : (s.setCompiler c).compiler.state = .stapleWait := m
      rw [State.setCompiler_state] at m'
      exact n m'
  · exact part.reasons r (by simp [k]) a b d e

/-- A record changed in its state, result and the like. -/
theorem State.modRec_held_keeps (r : Fin 8) (f : SetRec → SetRec) (s : State)
    (keeps : ∀ x, s.getRec r = some x → (f x).slot = x.slot ∧ ∀ b, heldIn b (some (f x)) = heldIn b (some x)) :
    s.Keeps (s.modRec r f) := by
  unfold State.modRec
  split
  · rename_i x h
    obtain ⟨slot, held⟩ := keeps x h
    exact State.setRec_keeps h _ slot held
  · exact .refl s

theorem State.awaitEject_keeps (r : Fin 8) (c : CompilerState) (n : c ≠ .stapleWait) (s : State) : s.Keeps (s.awaitEject r c) := by
  unfold State.awaitEject
  refine State.Keeps.trans ?_ (State.setCompiler_keeps c n _)
  refine State.Keeps.trans ?_ (State.delivery_keeps _ _ id (fun _ => id) Iff.rfl)
  exact s.modRec_keeps r _ fun _ _ => ⟨rfl, rfl, rfl⟩

theorem State.startStaple_keeps (s : State) : s.Keeps s.startStaple := by
  have counted := s.stapler_keepsBut
    { s.stapler with state := .stapling, count := s.stapler.count - 1, drive := true, homeTimer := some s.now }
    (fun h => le_trans (Nat.sub_le _ _) h) id
  have started := counted.trans ((State.free_keeps _ s.now s.pending (s.draws + 1) { s.pins with home := Config.headHome s.draws }
    s.media s.binder s.routes s.qualCount s.lastSample).but _) (by simp)
  have read := started.recombine
  unfold State.startStaple
  simp only []
  split
  · refine State.Keeps.trans ?_ (State.notify_keeps _ _ _)
    exact read
  · exact read

theorem State.purgedEject_keeps (r : Fin 8) (s : State) : s.Keeps (s.purgedEject r) := by
  unfold State.purgedEject
  split
  · exact .refl s
  · rename_i x h
    simp only []
    have fixed (result : StapleResult) : s.Keeps
        ((s.dropReservation r).modRec r fun x => { x with result := result, height := some (x.height.getD x.thickness) }) :=
      (s.dropReservation_keeps r).trans (State.modRec_held_keeps r _ _ fun y used => by
        obtain ⟨z, -, rfl⟩ := State.dropReservation_used used
        exact ⟨rfl, fun b => by simp [heldIn]⟩)
    have left (result : StapleResult) := ((fixed result).trans (State.retarget_keeps r .purged _)).trans
      (State.awaitEject_keeps r .ejecting (by simp) _)
    split
    · exact (left _).trans (State.binEvent_keeps _ _)
    · exact left _

theorem State.partComplete_keeps (r : Fin 8) (s : State) : s.Keeps (s.partComplete r) := by
  unfold State.partComplete
  split
  · exact .refl s
  · rename_i x h
    split
    · exact s.purgedEject_keeps r
    · simp only []
      refine State.Keeps.trans ?_ (State.setCompiler_keeps .finishing (by simp) _)
      refine State.Keeps.trans ?_ (State.compiler_keeps _ _ Iff.rfl)
      exact State.setRec_keeps h _ rfl fun _ => rfl

theorem State.closeForming_keeps (r : Fin 8) (s : State) : s.Keeps (s.closeForming r) := by
  unfold State.closeForming
  split
  · exact .refl s
  · rename_i x h
    have closed (b : Binder) : s.Keeps { s.setRec r { x with state := .gathering } with binder := b } := by
      refine State.Keeps.trans ?_ (State.free_keeps _ _ _ _ _ _ _ _ _ _)
      exact State.setRec_keeps h _ rfl fun _ => rfl
    simp only []
    split
    · exact (closed _).trans (State.partComplete_keeps r _)
    · exact closed _

theorem State.currentRec_used {s : State} {r : Fin 8} {x : SetRec} (h : s.currentRec = some (r, x)) : s.getRec r = some x := by
  unfold State.currentRec at h
  split at h
  · cases h
  · obtain ⟨y, used, e⟩ := Option.map_eq_some_iff.mp h
    cases e
    exact used

theorem State.staplingEnds_keeps (t : Bool) (s : State) : s.Keeps (s.staplingEnds t) := by
  unfold State.staplingEnds
  split
  · exact .refl s
  · rename_i r x h
    have ended (p : Stapler) (n : StapleResult) (hc : p.count = s.stapler.count) (hl : p.low = s.stapler.low) :
        s.Keeps { s.setRec r { x with result := n } with stapler := p } := by
      refine State.Keeps.trans ?_ (State.stapler_keeps _ _ hc hl)
      exact State.setRec_keeps (State.currentRec_used h) _ rfl fun _ => rfl
    simp only []
    split
    · refine State.Keeps.trans ?_ (State.purgedEject_keeps r _)
      exact ended _ _ rfl rfl
    · refine State.Keeps.trans ?_ (State.awaitEject_keeps r .ejecting (by simp) _)
      exact ended _ _ rfl rfl

theorem State.bufferTest_keeps (s : State) : s.Keeps s.bufferTest := by
  unfold State.bufferTest
  split
  · split
    · exact s.compiler_keeps _ Iff.rfl
    · exact .refl s
  · exact .refl s

theorem State.landing_keeps (r : Fin 8) (m : Media) (s : State) : s.Keeps (s.landing r m) := by
  unfold State.landing
  split
  · exact .refl s
  · rename_i x h
    let y : SetRec := { x with compiled := x.compiled + 1, thickness := x.thickness + m.thickness, place := .compiler }
    have landed (c : Compiler) (f : Option Nat) (hc : c.state = .stapleWait ↔ s.compiler.state = .stapleWait) :
        s.Keeps { s.setRec r y with compiler := c, path := { s.path with firstLen := f } } := by
      refine State.Keeps.trans (t := { s.setRec r y with compiler := c })
        (State.Keeps.trans (State.setRec_keeps h y rfl fun _ => rfl) (State.compiler_keeps _ c hc)) ?_
      exact State.path_keeps _ _ rfl (fun a => ⟨a.1, a.2.1⟩) fun _ a => ⟨a.1, a.2.1, a.2.2.1, a.2.2.2.1⟩
    have onto := landed { s.compiler with
      inFlight := s.compiler.inFlight - m.thickness
      state := if s.compiler.state = .empty then .collecting else s.compiler.state
      current := if s.compiler.state = .empty then some r else s.compiler.current
      contents := y.thickness } (if y.compiled = 1 then some m.length else s.path.firstLen)
      (by cases e : s.compiler.state <;> simp)
    simp only []
    split
    · exact onto.trans (State.partComplete_keeps r _)
    · exact onto

theorem State.arrivalEffect_keeps (e : PathEntry) (s : State) : s.Keeps (s.arrivalEffect e) := by
  unfold State.arrivalEffect
  split
  · exact (s.landing_keeps _ _).trans (State.bufferTest_keeps _)
  · exact s.produceLoose_keeps _ _ _ _

theorem State.leaveIfDone_keeps (i : EntryName) (s : State) : s.Keeps (s.leaveIfDone i) := by
  unfold State.leaveIfDone
  split
  · split
    · refine State.Keeps.trans ?_ (State.arrivalEffect_keeps _ _)
      refine State.path_keeps s _ rfl (fun a => ?_) fun _ a => ?_
      · exact ⟨(List.Sublist.map _ List.filter_sublist).nodup a.1, le_trans (List.length_filter_le _ _) a.2.1⟩
      · exact ⟨by simp [a.1], a.2.1, a.2.2.1, a.2.2.2.1⟩
    · exact .refl s
  · exact .refl s

/-! ## Jams -/

theorem State.latchOnly_keeps (c : Cause) (s : State) : s.Keeps { s with report := s.report.latchOnly c } :=
  s.report_keeps (s.report.notice_keeps _)

theorem State.notifyFault_keeps (x : Option SetRec) (n : Nat) (s : State) : s.Keeps (s.notifyFault x n) := s.notify_keeps _ _

/-- The Set Table with the result fixed of a set caught being stapled (R84). -/
def State.resultFixed (s : State) : SetTable :=
  match s.currentRec with
  | some (r, x) =>
    if x.state = .stapling then (s.setRec r { x with result := stapleResult x.pattern.staples s.stapler.made }).sets else s.sets
  | none => s.sets

/-- The part with its compiler and its stapler as a jam leaves them (R84). -/
def State.jamEmptied (s : State) : State :=
  { s with
    sets := s.resultFixed
    compiler := .reset
    stapler := if s.stapler.state = .stapling then s.stapler.leave (s.stapler.after !s.pins.home) else s.stapler }

/-- A jam fixes a result and empties the compiler, with STAPLE FAULT where the stapler is caught away from home (R84). -/
theorem State.jamFinishing_eq (s : State) : s.jamFinishing =
    if s.stapler.state = .stapling ∧ s.pins.home = false then s.jamEmptied.notifyFault (s.currentRec.map Prod.snd) 0
    else s.jamEmptied := by
  unfold State.jamFinishing State.jamEmptied State.resultFixed
  cases s.currentRec with
  | none => by_cases h : s.stapler.state = .stapling <;> cases e : s.pins.home <;> simp [h, e]
  | some y =>
    obtain ⟨r, x⟩ := y
    by_cases g : x.state = .stapling <;> by_cases h : s.stapler.state = .stapling <;> cases e : s.pins.home <;>
      simp [g, h, e, State.setRec]

/-- The set caught being stapled keeps all but its result. -/
theorem State.resultFixed_keeps (s : State) : s.Keeps { s with sets := s.resultFixed } := by
  unfold State.resultFixed
  split
  · rename_i r x h
    split
    · exact State.setRec_keeps (State.currentRec_used h) { x with result := stapleResult x.pattern.staples s.stapler.made } rfl fun _ => rfl
    · exact .refl s
  · exact .refl s

theorem State.jamFinishing_keepsBut (s : State) : s.KeepsBut [.reason .staples] s.jamFinishing := by
  have emptied := (s.resultFixed_keeps.but [.reason .staples]).trans (State.compiler_keepsBut _ .reset) (by simp)
  have left : s.KeepsBut [.reason .staples] s.jamEmptied := by
    refine emptied.trans (State.Keeps.but (State.stapler_keeps _ _ ?_ ?_) _) (by simp)
    · simp only []; split <;> rfl
    · simp only []; split <;> rfl
  rw [State.jamFinishing_eq]
  split
  · exact left.trans ((State.notifyFault_keeps _ _ _).but _) (by simp)
  · exact left

theorem State.produce_sets (r : Fin 8) (x : SetRec) (o : SetOutcome) (d : Option (Fin 41)) (n : Nat) (f : Bool) (s : State) :
    (s.produce r x o d n f).sets = s.sets.without r := by
  simp [State.produce, State.release]

/-- A set that leaves with its reservation leaves the reservations exact (R106). -/
theorem State.produce_reservedExactly {r : Fin 8} {x : SetRec} {s t : State} (h : s.getRec r = some x) (o : SetOutcome)
    (d : Option (Fin 41)) (n : Nat) (f : Bool) (sets : t.sets = s.sets)
    (bins : ∀ b : Fin 41, t.bins[b].reserved = s.bins[b].reserved - heldIn b (some x)) (a : s.reservedExactly) :
    (t.produce r x o d n f).reservedExactly := by
  intro b
  have without := SetTable.without_reservedIn b r s.sets
  have used : s.sets.recs[r] = some x := h
  rw [used] at without
  have e : (t.produce r x o d n f).bins = t.bins := by simp
  rw [e, bins b, State.produce_sets, sets, a b]
  omega

theorem State.loseSet_keeps (s : State) (r : Fin 8) : s.Keeps (s.loseSet r) := by
  unfold State.loseSet
  split
  · exact .refl s
  · rename_i x h
    simp only []
    split
    · rename_i c chosen
      have bin : s.KeepsBut [.reserved] (s.unreserve c (x.height.getD 0)) :=
        (State.modBin_alike_keepsBut c _ _ (Bin.alike_refl _) ⟨rfl, rfl⟩).trans ((State.cursorReturn_keeps c _).but _) (by simp)
      refine (bin.trans (State.produce_keepsBut r x .lost none x.bound false _) (by simp)).reservedExact fun a => ?_
      refine State.produce_reservedExactly h .lost none x.bound false rfl (fun b => ?_) a
      rw [State.unreserve_bins, heldIn_some b c x chosen]
      split
      · rename_i e; subst e; rfl
      · rfl
    · rename_i chosen
      refine (State.produce_keepsBut r x .lost none x.bound false s).reservedExact fun a => ?_
      exact State.produce_reservedExactly h .lost none x.bound false rfl (fun b => by rw [heldIn_none b x chosen]; rfl) a

theorem State.loseEntry_keeps (s : State) (e : PathEntry) : s.Keeps (s.loseEntry e) := by
  unfold State.loseEntry
  split
  · exact s.produceLoose_keeps _ _ _ _
  · exact .refl s

/-- A set lost leaves its own record FREE, and no FREE one in use (R62). -/
theorem State.loseSet_getRec_none (s : State) (r k : Fin 8) : (s.loseSet r).getRec k = none ↔ k = r ∨ s.getRec k = none := by
  unfold State.loseSet
  split
  · rename_i h
    exact ⟨.inr, by rintro (rfl | e); exacts [h, e]⟩
  · simp only [State.getRec]
    rw [State.produce_sets]
    split
    · have same (c : Fin 41) (h : Nat) : (s.unreserve c h).sets = s.sets := rfl
      rw [SetTable.without_recs, same]
      split <;> simp_all
    · rw [SetTable.without_recs]
      split <;> simp_all

theorem State.foldl_loseSet_getRec_none (l : List (Fin 8)) (s : State) (k : Fin 8) :
    (l.foldl State.loseSet s).getRec k = none ↔ k ∈ l ∨ s.getRec k = none := by
  induction l generalizing s with
  | nil => simp
  | cons r l ih => rw [List.foldl_cons, ih, State.loseSet_getRec_none, List.mem_cons]; tauto

theorem State.loseSet_order (s : State) (r : Fin 8) (h : s.getRec r ≠ none) : (s.loseSet r).sets.order = s.sets.order.filter (· ≠ r) := by
  unfold State.loseSet
  split
  · rename_i e; exact absurd e h
  · simp only []
    rw [State.produce_sets]
    split <;> rfl

theorem SetTable.freeCount_eq_eight (t : SetTable) (h : ∀ k : Fin 8, t.recs[k] = none) : t.freeCount = 8 := by
  unfold SetTable.freeCount
  simp [h]

theorem State.jamFinishing_tables (s : State) : s.jamFinishing.sets = s.resultFixed ∧ s.jamFinishing.compiler = .reset := by
  rw [State.jamFinishing_eq]
  split
  · simp [State.jamEmptied]
  · exact ⟨rfl, rfl⟩

/-- Fixing a result changes no record's being in use. -/
theorem State.resultFixed_used (s : State) : s.resultFixed.order = s.sets.order ∧
    ∀ k : Fin 8, s.resultFixed.recs[k].isNone = s.sets.recs[k].isNone := by
  unfold State.resultFixed
  split
  · rename_i r x h
    split
    · exact ⟨rfl, State.setRec_used (State.currentRec_used h) _⟩
    · exact ⟨rfl, fun _ => rfl⟩
  · exact ⟨rfl, fun _ => rfl⟩

/-! A jam's declaration, stage by stage. -/

/-- The operating state JAM with its hold reasons, and the Descriptor Queue flushed (R31, R149). -/
def State.jamEntered (s : State) : State :=
  State.drop .queue { (((({ s with run := s.run.jammed } : State).raise .jam).drop .spinUp).drop .wake).drop .paused with
    queue := s.queue.flushed }

/-- The JAM notice, and the completion tests of the flushed descriptors (R31, R60). -/
def State.jamTold (k : JamKind) (x : Sensor) (s : State) : State :=
  s.queue.entries.foldl State.afterRemoval (s.jamEntered.notify
    ⟨.jam k, some k.code, some x.code, some s.queue.entries.length, (s.queue.entries.head?.bind Entry.seq?).map BitVec.toNat⟩ none)

/-- The compiler emptied, and every set and orphan lost (R61, R62, R84). -/
def State.jamLost (k : JamKind) (x : Sensor) (s : State) : State :=
  s.path.list.foldl State.loseEntry ((s.jamTold k x).jamFinishing.sets.order.foldl State.loseSet (s.jamTold k x).jamFinishing)

/-- Nothing in flight any more (R62, R139). -/
def State.jamCleared (s : State) : State :=
  { s with
    path := { s.path with list := [], buffer := [], s1 := none, s2 := none, firstLen := none, se := none }
    binder := { s.binder with forming := none }
    delivery := { s.delivery with
      shelf := .free, shelfSet := none, holdTimer := none, compilerHold := none, list := [], g0Busy := none, jogger := none } }

/-- A jam declared outside JAM is its four stages, with what they leave of the hold reasons and the governor. -/
theorem State.jam_eq (k : JamKind) (x : Sensor) (s : State) (h : s.run.op ≠ .jam) :
    s.jam k x = ((((s.jamLost k x).jamCleared.drop .buffer).drop .sets).drop .staples).recombine := by
  unfold State.jam
  rw [if_neg h]
  rfl

theorem State.jamEntered_keepsBut (X : List Part) (n : .timers ∉ X) (s : State)
    (h : s.run.op ≠ .starting ∨ .reason .starting ∈ X) : s.KeepsBut X s.jamEntered := by
  have run : s.KeepsBut (.reason .jam :: .reason .spinUp :: .reason .wake :: .reason .paused :: X) { s with run := s.run.jammed } := by
    have part := s.run_keepsBut s.run.jammed
    refine { part with reserved := fun _ => part.reserved (by simp [runParts]), timers := fun _ _ => ?_,
                       reasons := fun r m a b c d => ?_, agrees := fun _ => part.agrees (by simp [runParts]), limited := fun _ => part.limited (by simp [runParts]) }
    · exact ⟨by simp [RunController.jammed], by simp [RunController.jammed], by simp [RunController.jammed]⟩
    · by_cases e : r = .starting
      · subst e
        have op : s.run.op ≠ .starting := h.resolve_right (by simpa using m)
        exact d.trans (iff_of_false op (by simp [State.holds, RunController.jammed]))
      · simp only [List.mem_cons, Part.reason.injEq, not_or] at m
        exact part.reasons r (by simp [runParts, e, m]) a b c d
  have raised := (((run.raise (by simp) fun _ _ _ => rfl).drop (by simp) fun _ _ _ => not_not.mpr rfl).drop (by simp)
    fun _ _ _ => by simp [State.holds, RunController.jammed]).drop (by simp) fun _ _ _ => by simp [State.holds, RunController.jammed]
  refine State.KeepsBut.drop ((raised.mono (Y := .reason .queue :: X) (by simp)).trans ((State.queue_keepsBut _ s.queue.flushed
    fun a => ?_).mono (by simp)) (by simpa using n)) (by simp) fun _ q _ => ?_
  · exact ⟨Nat.zero_le _, Nat.zero_le _, fun z => absurd z (Nat.lt_irrefl 0), fun _ => rfl, a.2.2.2.2⟩
  · have low := q.2.2.2.2.1
    simp only [State.holds, DescQueue.flushed, List.length_nil, Nat.le_zero, Nat.lt_irrefl, or_false]
    exact Nat.ne_of_gt low

theorem State.jamTold_keepsBut (k : JamKind) (x : Sensor) (X : List Part) (n : .timers ∉ X) (s : State)
    (h : s.run.op ≠ .starting ∨ .reason .starting ∈ X) : s.KeepsBut X (s.jamTold k x) :=
  ((s.jamEntered_keepsBut X n h).trans ((State.notify_keeps _ _ _).but X) n).trans
    ((State.Keeps.foldl _ State.afterRemoval_keeps s.queue.entries _).but X) n

theorem State.jamTold_sets (k : JamKind) (x : Sensor) (s : State) : (s.jamTold k x).sets = s.sets := by
  simp [State.jamTold, State.jamEntered]

/-- In a part with a sound Set Table, a jam leaves no set record in use (R62). -/
theorem State.jamLost_getRec (k : JamKind) (x : Sensor) (s : State) (sound : s.sets.sound) (r : Fin 8) :
    (s.jamLost k x).getRec r = none := by
  have same : (s.jamLost k x).getRec r =
      ((s.jamTold k x).jamFinishing.sets.order.foldl State.loseSet (s.jamTold k x).jamFinishing).getRec r := by
    simp [State.jamLost, State.getRec]
  obtain ⟨order, used⟩ := (s.jamTold k x).resultFixed_used
  rw [State.jamTold_sets] at order used
  rw [same, State.foldl_loseSet_getRec_none, State.getRec, (State.jamFinishing_tables _).1, order]
  by_cases m : r ∈ s.sets.order
  · exact .inl m
  · refine .inr (Option.isNone_iff_eq_none.mp ((used r).trans ?_))
    simpa using (sound.2 r).not.mp m

theorem State.jamLost_keepsBut (k : JamKind) (x : Sensor) (X : List Part) (n : .timers ∉ X) (s : State)
    (h : s.run.op ≠ .starting ∨ .reason .starting ∈ X) : s.KeepsBut (.reason .staples :: X) (s.jamLost k x) := by
  have n' : .timers ∉ .reason .staples :: X := by simpa using n
  have finished := ((s.jamTold_keepsBut k x X n h).mono (by simp)).trans
    (((s.jamTold k x).jamFinishing_keepsBut).mono (Y := .reason .staples :: X) (by simp)) n'
  exact (finished.trans ((State.Keeps.foldl _ State.loseSet_keeps _ _).but _) n').trans
    ((State.Keeps.foldl _ State.loseEntry_keeps s.path.list _).but _) n'

theorem State.jamCleared_keepsBut (s : State) : s.KeepsBut [.reason .buffer, .governor] s.jamCleared := by
  have path := s.path_keepsBut { s.path with list := [], buffer := [], s1 := none, s2 := none, firstLen := none, se := none }
    (fun a => ⟨List.nodup_nil, Nat.zero_le _, Nat.zero_le _, a.2.2.2⟩) fun _ _ => ⟨rfl, rfl, rfl, rfl⟩
  have binder := path.trans ((State.free_keeps _ s.now s.pending s.draws s.pins s.media { s.binder with forming := none }
    s.routes s.qualCount s.lastSample).but _) (by simp)
  exact (binder.mono (by simp)).trans ((State.delivery_keepsBut _ { s.delivery with
    shelf := .free, shelfSet := none, holdTimer := none, compilerHold := none, list := [], g0Busy := none, jogger := none }
    (fun _ => Nat.zero_le _) fun _ _ => rfl).mono (by simp)) (by simp)

theorem State.jam_keepsBut (k : JamKind) (x : Sensor) (X : List Part) (n : .timers ∉ X) (s : State)
    (h : s.run.op ≠ .starting ∨ .reason .starting ∈ X) : s.KeepsBut X (s.jam k x) := by
  by_cases second : s.run.op = .jam
  · rw [State.jam_second k x s second]
    exact (s.latchOnly_keeps _).but X
  rw [State.jam_eq k x s second]
  have lost := (s.jamLost_keepsBut k x X n h).mono (Y := .reason .buffer :: .reason .sets :: .reason .staples :: .governor :: X)
    fun p m => by simp only [List.mem_cons] at m ⊢; tauto
  have cleared := lost.trans ((s.jamLost k x).jamCleared_keepsBut.mono (by simp)) (by simpa using n)
  have compiler : (s.jamLost k x).compiler = .reset := by
    simp only [State.jamLost, State.foldl_loseEntry_frame, State.foldl_loseSet_frame, (State.jamFinishing_tables _).2]
  refine State.KeepsBut.recombine (State.KeepsBut.drop (State.KeepsBut.drop (State.KeepsBut.drop cleared (by simp) ?_) (by simp) ?_)
    (by simp) ?_)
  · exact fun _ _ _ m => m rfl
  · intro sound _ _ m
    have all := SetTable.freeCount_eq_eight (s.jamLost k x).sets fun r => s.jamLost_getRec k x sound r
    have m' : (s.jamLost k x).sets.freeCount < 2 := m
    omega
  · intro _ _ _ m
    have m' : (s.jamLost k x).compiler.state = .stapleWait := m
    rw [compiler] at m'
    cases m'

/-- A jam outside STARTING keeps the part sound. -/
theorem State.jam_keeps (k : JamKind) (x : Sensor) (s : State) (h : s.run.op ≠ .starting) : s.Keeps (s.jam k x) :=
  s.jam_keepsBut k x [] (by simp) (.inl h)

end Sys2Proof.Machine

namespace Sys2Proof.Machine

/-! ## Confirmation -/

theorem State.updateBin_bins (b k : Fin 41) (f : Bin → Bin) (s : State) :
    (s.updateBin b f).bins[k] = if k = b then f s.bins[b] else s.bins[k] := by
  have same : (s.updateBin b f).bins = (s.modBin b f).bins := (State.binsChanged_frame s [b] (s.modBin b f)).2.2.2.2.2.2.2.2.2.2.2.2.2.2.1
  rw [same]
  exact State.modBin_bins b k f s

/-- One bin changed with its reservation too, and its state derived again. -/
theorem State.updateBin_keepsBut (b : Fin 41) (f : Bin → Bin) (s : State)
    (bounds : s.bins[b].fill ≤ 9999 → s.bins[b].capacity ≤ 9999 → (f s.bins[b]).fill ≤ 9999 ∧ (f s.bins[b]).capacity ≤ 9999)
    (sensors : (f s.bins[b]).present = s.bins[b].present ∧ (f s.bins[b]).full = s.bins[b].full) :
    s.KeepsBut [.reserved] (s.updateBin b f) := by
  have part := s.bins_keepsBut (s.modBin b f).bins (fun a c => by
    rw [State.modBin_bins]
    split
    · rename_i e; subst e; exact bounds (a.1 _).1 (a.1 _).2
    · exact a.1 c) (s.modBin_chainSound b f (.inl sensors))
  exact State.KeepsBut.binsChanged part (by simp) s [b]

/-- A set whose height passes from its bin's reservation into its fill, and which leaves with its DISPOSITION (R107). -/
theorem State.fill_keeps {r : Fin 8} {b : Fin 41} {x : SetRec} {s : State} (used : s.getRec r = some x) (chosen : x.chosen = some b)
    (o : SetOutcome) (n : Nat) (f : Bool) :
    s.Keeps (((s.updateBin b fun y =>
      { y with fill := min 9999 (y.fill + x.height.getD 0), reserved := y.reserved - x.height.getD 0, count := count16 y.count }).cursorReturn
        b).produce r x o (some b) n f) := by
  have filled := s.updateBin_keepsBut b
    (fun y => { y with fill := min 9999 (y.fill + x.height.getD 0), reserved := y.reserved - x.height.getD 0, count := count16 y.count })
    (fun _ c => ⟨Nat.min_le_left _ _, c⟩) ⟨rfl, rfl⟩
  have moved := filled.trans ((State.cursorReturn_keeps b _).but _) (by simp)
  refine (moved.trans (State.produce_keepsBut r x _ _ _ _ _) (by simp)).reservedExact fun a => ?_
  refine State.produce_reservedExactly used _ _ _ _ (by simp) (fun c => ?_) a
  simp only [State.cursorReturn_frame, State.updateBin_bins, heldIn_some c b x chosen]
  split
  · rename_i e; subst e; rfl
  · rfl

theorem State.confirm_keeps (r : Fin 8) (s : State) : s.Keeps (s.confirm r) := by
  have left : s.Keeps { s with delivery := { s.delivery with list := s.delivery.list.filter fun e => e.set ≠ r } } :=
    s.delivery_keeps _ (fun a => le_trans (List.length_filter_le _ _) a) (fun _ a => by simp [a]) Iff.rfl
  unfold State.confirm
  simp only []
  split
  · exact left
  rename_i x used
  split
  · exact left
  rename_i b chosen
  refine State.Keeps.trans ?_ (State.fill_keeps (by exact used) chosen _ _ _)
  exact left.trans (State.delivery_keeps _ _ id (fun _ => id) Iff.rfl)

theorem State.working_op {s : State} (h : s.working = true) : s.run.op = .running ∨ s.run.op = .paused := by
  simpa [State.working] using h

theorem State.working_not_starting {s : State} (h : s.working = true) : s.run.op ≠ .starting := by
  obtain e | e := State.working_op h <;> simp [e]

theorem State.arrive_keeps (t : Target) (s : State) : s.Keeps (s.arrive t) := by
  unfold State.arrive
  split
  · rename_i w
    split
    · exact s.confirm_keeps _
    · exact s.jam_keeps _ _ (State.working_not_starting w)
  · exact .refl s

/-- A jam declared for something on its way keeps the part sound, for in STARTING nothing is (R57, R142). -/
theorem State.jam_moving_keeps (k : JamKind) (x : Sensor) (s : State) (h : ¬ s.nothingMoves) : s.Keeps (s.jam k x) := by
  by_cases op : s.run.op = .starting
  · exact (s.jam_keepsBut k x [.reason .starting] (by simp) (.inr (by simp))).restore fun _ _ t => absurd (t.2.2 op) h
  · exact s.jam_keeps k x op

/-! ## Split ejects, staples, ejects and releases -/

theorem SetTable.freeIndex_free {t : SetTable} {r : Fin 8} (h : t.freeIndex = some r) : t.recs[r] = none := by
  have := List.find?_some h
  simpa using this

theorem State.splitReady_cases {s : State} {r c : Fin 8} {x : SetRec} (h : s.splitReady = some (r, x, c)) :
    s.compiler.splitSheet.isSome ∧ s.compiler.state = .collecting ∧ s.compiler.inFlight = 0 ∧ s.currentRec = some (r, x) ∧
      s.sets.freeIndex = some c := by
  unfold State.splitReady at h
  split at h
  · rename_i ready
    simp only [Bool.and_eq_true, decide_eq_true_eq] at ready
    split at h
    · rename_i cur free
      cases h
      exact ⟨ready.1.1, ready.1.2, ready.2, cur, free⟩
    · cases h
  · cases h

/-- A split eject, of the set in the compiler and into a FREE record (R71). -/
theorem State.splitEject_keeps (r c : Fin 8) (x : SetRec) (s : State) (used : s.getRec r = some x) (free : s.getRec c = none) :
    s.Keeps (s.splitEject r x c) := by
  have ne : c ≠ r := by rintro rfl; rw [used] at free; cases free
  unfold State.splitEject
  simp only []
  refine State.Keeps.trans ?_ (State.awaitEject_keeps r .splitEject (by simp) _)
  refine State.Keeps.trans ?_ (State.binChoice_keeps r _)
  have compiler := (s.compiler_keeps { s.compiler with splitSheet := none } Iff.rfl).trans
    (State.setCompiler_keeps .splitEject (by simp) _)
  revert compiler
  generalize hv : ({ s with compiler := { s.compiler with splitSheet := none } } : State).setCompiler .splitEject = v
  intro compiler
  have sets : v.sets = s.sets := by rw [← hv]; simp
  have used' : v.getRec r = some x := by simp only [State.getRec, sets]; exact used
  have free' : v.getRec c = none := by simp only [State.getRec, sets]; exact free
  have dropped := compiler.trans (v.dropReservation_keeps r)
  have recs := fun k => State.dropReservation_getRec r k x v used'
  have allocated := dropped.trans (State.allocate_keeps (s := v.dropReservation r) x.continuing
    ((recs c).trans ((if_neg ne).trans free')) rfl fun a => a r { x with chosen := none } ((recs r).trans (if_pos rfl)))
  have still : ((v.dropReservation r).allocate c x.continuing).getRec r = some { x with chosen := none } := by
    have e : ((v.dropReservation r).allocate c x.continuing).getRec r = ((v.dropReservation r).setRec c x.continuing).getRec r := rfl
    rw [e, State.setRec_getRec_ne c r ne.symm, recs r, if_pos rfl]
  have ejected := allocated.trans (State.setRec_keeps still (x.ejected c).splitDecided rfl fun b => by
    rw [heldIn_none b _ rfl, heldIn_none b _ rfl])
  have rename_id (e : PathEntry) : (PathEntry.rename r c e).id = e.id := by
    unfold PathEntry.rename
    split
    · split <;> rfl
    · rfl
  refine State.Keeps.trans (ejected.trans (State.path_keeps _ { v.path with list := v.path.list.map (PathEntry.rename r c) } (by simp)
    (fun a => ?_) fun _ a => ?_)) ?_
  · have ids : (v.path.list.map (PathEntry.rename r c)).map PathEntry.id = v.path.list.map PathEntry.id := by
      simp [Function.comp_def, rename_id]
    have a' : v.placesSound := by simpa [State.placesSound] using a
    exact ⟨by rw [ids]; exact a'.1, by simpa using a'.2.1⟩
  · have a' : v.nothingMoves := by simpa [State.nothingMoves] using a
    exact ⟨by simp [a'.1], a'.2.1, a'.2.2.1, a'.2.2.2.1⟩
  · have e : ((v.dropReservation r).allocate c x.continuing).path = v.path := by simp
    have := State.free_keeps ({ ((v.dropReservation r).allocate c x.continuing).setRec r (x.ejected c).splitDecided with
      path := { v.path with list := v.path.list.map (PathEntry.rename r c) } } : State)
    simp only [State.setRec_frame, e]
    exact this _ _ _ _ _ _ _ _ _

theorem State.beginStapling_keeps (r : Fin 8) (s : State) : s.Keeps (s.beginStapling r) := by
  unfold State.beginStapling
  refine State.Keeps.trans ?_ (State.startStaple_keeps _)
  refine State.Keeps.trans ?_ (State.setCompiler_keeps .stapling (by simp) _)
  exact s.modRec_keeps r _ fun _ _ => ⟨rfl, rfl, rfl⟩

theorem State.decideSet_keeps (r : Fin 8) (x : SetRec) (s : State) : s.Keeps (s.decideSet r x) := by
  have decided (d : StapleDecision) (k : Option SkipReason) : s.Keeps ((s.dropReservation r).modRec r (SetRec.decided d k)) :=
    (s.dropReservation_keeps r).trans (State.modRec_held_keeps r _ _ fun y used => by
      obtain ⟨z, -, rfl⟩ := State.dropReservation_used used
      exact ⟨rfl, fun b => by rw [heldIn_none b _ rfl, heldIn_none b _ rfl]⟩)
  unfold State.decideSet
  simp only []
  split
  · exact ((decided _ _).trans (State.binChoice_keeps r _)).trans (State.beginStapling_keeps r _)
  · have waits := (decided (x.decide s.stapler).1 (x.decide s.stapler).2).trans
      (State.modRec_keeps r (fun x => { x with state := .stapleWait }) _ fun _ _ => ⟨rfl, rfl, rfl⟩)
    refine State.KeepsBut.raise ((waits.but _).trans (State.setCompiler_keepsBut .stapleWait _) (by simp)) (by simp) fun _ _ _ => ?_
    show (State.compiler _).state = _
    rw [State.setCompiler_state]
  · exact ((decided _ _).trans (State.binChoice_keeps r _)).trans (State.awaitEject_keeps r .ejecting (by simp) _)

theorem State.reach_keeps (n : Nat) (s : State) : s.Keeps (s.reach n) := s.free_keeps _ _ _ _ _ _ _ _ _

theorem State.goodStaple_keeps (s : State) : s.Keeps s.goodStaple := by
  have made : s.Keeps { s with stapler := { s.stapler with made := s.stapler.made + 1, drive := false, homeTimer := none } } :=
    s.stapler_keeps _ rfl rfl
  unfold State.goodStaple
  simp only []
  split
  · split
    · exact made.trans (State.startStaple_keeps _)
    · exact made.trans (State.staplingEnds_keeps _ _)
  · exact made.trans (State.staplingEnds_keeps _ _)

theorem State.shelfReady_cases {s : State} {r : Fin 8} {b : Fin 41} (h : s.shelfReady = some (r, b)) :
    s.delivery.shelf = .occupied ∧ s.delivery.shelfSet = some r ∧
      (∃ x, s.getRec r = some x ∧ x.chosen = some b ∧ x.state = .readyToEject) ∧ s.path.se = none ∧ s.working = true ∧
      s.listTakes b = true := by
  unfold State.shelfReady at h
  split at h
  · cases h
  rename_i q onShelf
  split at h
  · cases h
  rename_i x used
  split at h
  · rename_i c chosen
    split at h
    · rename_i ready
      cases h
      simp only [Bool.and_eq_true, decide_eq_true_eq, Option.isNone_iff_eq_none] at ready
      unfold Delivery.onShelf at onShelf
      split at onShelf
      · rename_i occupied
        exact ⟨occupied, onShelf, ⟨x, used, chosen, ready.1.1.1⟩, ready.1.1.2, ready.1.2, ready.2⟩
      · cases onShelf
    · cases h
  · cases h

theorem State.ejectReady_cases {s : State} {r : Fin 8} {b : Option (Fin 41)} (h : s.ejectReady = some (r, b)) :
    s.working = true ∧ s.path.se = none ∧ (∃ x, s.getRec r = some x ∧ x.chosen = b) ∧
      match b with
      | some b => s.listTakes b = true
      | none => s.delivery.shelf = .free := by
  unfold State.ejectReady at h
  split at h
  · cases h
  rename_i q current
  split at h
  · cases h
  rename_i x used
  split at h
  · rename_i ready
    simp only [Bool.and_eq_true, Option.isNone_iff_eq_none] at ready
    cases chosen : x.chosen with
    | some c =>
      simp only [chosen] at h
      split at h
      · rename_i takes
        cases h
        exact ⟨ready.1.2, ready.1.1.2, ⟨x, used, chosen⟩, (Bool.and_eq_true_iff.mp takes).2⟩
      · cases h
    | none =>
      simp only [chosen] at h
      split at h
      · rename_i shelf
        cases h
        exact ⟨ready.1.2, ready.1.1.2, ⟨x, used, chosen⟩, shelf⟩
      · cases h
  · cases h

theorem State.listTakes_length {s : State} {b : Fin 41} (h : s.listTakes b = true) : s.delivery.list.length < 3 := by
  simp only [State.listTakes, Bool.and_eq_true, decide_eq_true_eq] at h
  exact h.1.1

theorem State.eject_keeps (r : Fin 8) (b : Option (Fin 41)) (s : State) (h : s.ejectReady = some (r, b)) : s.Keeps (s.eject r b) := by
  obtain ⟨working, -, -, place⟩ := State.ejectReady_cases h
  have op := State.working_not_starting working
  unfold State.eject
  have path : s.Keeps _ := s.path_keeps
    { s.path with se := some ⟨r, s.path.firstLen.getD 0, false, some ⟨s.now, Config.ejectLimit⟩, none⟩ } rfl (fun a => ⟨a.1, a.2.1⟩)
    fun k => absurd k op
  have compiler := path.trans (State.compiler_keeps _ { s.compiler with ejectDrive := true } Iff.rfl)
  cases b with
  | some b =>
    refine compiler.trans (State.delivery_keeps _ { s.delivery with list := s.delivery.list ++ [⟨r, none⟩] } (fun _ => ?_)
      (fun k => absurd k op) Iff.rfl)
    simpa using State.listTakes_length place
  | none =>
    have free : s.delivery.shelf = .free := place
    exact compiler.trans (State.delivery_keeps _ { s.delivery with shelf := .incoming, shelfSet := some r } id (fun _ => id)
      (iff_of_false (by simp) (by simp [free])))

theorem State.releaseShelf_keeps (r : Fin 8) (b : Fin 41) (s : State) (h : s.shelfReady = some (r, b)) :
    s.Keeps (s.releaseShelf r b) := by
  obtain ⟨-, -, -, -, working, takes⟩ := State.shelfReady_cases h
  have op := State.working_not_starting working
  have released : s.Keeps (s.modRec r fun x => { x with state := .onBelt, place := .list }) :=
    s.modRec_keeps r _ fun _ _ => ⟨rfl, rfl, rfl⟩
  unfold State.releaseShelf
  simp only []
  refine State.KeepsBut.recombine ((released.but _).trans (State.delivery_keepsBut _ _ (fun _ => ?_) fun k => ?_) (by simp))
  · have room := State.listTakes_length takes
    simpa [Delivery.setG0] using room
  · exact absurd (by simpa using k) op

/-! ## The cartridge -/

theorem State.pins_keeps (p : Pins) (s : State) : s.Keeps { s with pins := p } := s.free_keeps _ _ _ p _ _ _ _ _

theorem State.setCartridge_keeps (v : Bool) (s : State) : s.Keeps (s.setCartridge v) :=
  (s.stapler_keeps { s.stapler with cartridge := .qualified v } rfl rfl).trans (State.pins_keeps _ _)

theorem State.setEmptySensor_keeps (v : Bool) (s : State) : s.Keeps (s.setEmptySensor v) :=
  (s.stapler_keeps { s.stapler with emptySensor := .qualified v } rfl rfl).trans (State.pins_keeps _ _)

/-- The stapler's count changed within its range, and the governor computed again. -/
theorem State.staplerCount_keeps (x : Stapler) (s : State) (count : x.count ≤ 5000) (low : x.low = s.stapler.low) :
    s.Keeps ({ s with stapler := x } : State).recombine :=
  State.KeepsBut.recombine (s.stapler_keepsBut x (fun _ => count) fun a => by rw [low]; exact a)

theorem State.startStaple_stands (x : Reason) (s : State) (h : x ≠ .backlog) (g : x ≠ .governor) :
    s.startStaple.stands x ↔ s.stands x := by
  unfold State.startStaple
  simp only []
  split
  · exact (State.notify_stands _ _ x _ h).trans (State.recombine_stands x _ g)
  · exact State.recombine_stands x _ g

theorem State.startStaple_compiler (s : State) : s.startStaple.compiler = s.compiler := by
  unfold State.startStaple
  simp only []
  split <;> rfl

theorem State.beginStapling_compiler (r : Fin 8) (s : State) : (s.beginStapling r).compiler.state = .stapling := by
  unfold State.beginStapling
  rw [State.startStaple_compiler, State.setCompiler_state]

/-- A reason dropped leaves it open alone. -/
theorem State.drop_keepsBut (s : State) (r : Reason) (n : r ≠ .backlog) : s.KeepsBut [.reason r] (s.drop r) := by
  have part : s.KeepsBut [.reason r] s := (State.Keeps.refl s).but _
  refine { part with report := fun a => ?_, reasons := fun x m a b c d => ?_ }
  · obtain ⟨bound, backlog, feed⟩ := (Report.sound_iff _).mp a
    exact ⟨bound, by simpa [State.drop, Report.drop, Config.backlogMark, n.symm] using backlog, Feed.drop_sound _ _ feed⟩
  · have ne : x ≠ r := by simpa using m
    refine (State.drop_stands _ _ _).trans ((and_iff_right ne).trans (Iff.trans d ?_))
    cases x <;> exact Iff.rfl

theorem State.waitTest_keeps (s : State) : s.Keeps s.waitTest := by
  unfold State.waitTest
  split
  · exact .refl s
  rename_i r x current
  split
  · simp only []
    have dropped := s.drop_keepsBut .staples (by simp)
    have used : (s.drop .staples).getRec r = some x := State.currentRec_used current
    have decided := dropped.trans ((State.setRec_keeps used { x with decision := some .staple } rfl fun _ => rfl).but _) (by simp)
    have chosen := decided.trans ((State.binChoice_keeps r _).but _) (by simp)
    refine (chosen.trans ((State.beginStapling_keeps r _).but _) (by simp)).restore fun _ _ _ => iff_of_false ?_ ?_
    · rw [State.beginStapling, State.startStaple_stands _ _ (by simp) (by simp), State.setCompiler_stands]
      rintro ⟨stood, -⟩
      have stood' : State.stands .staples (State.modRec r (fun x => { x with state := .stapling })
        (State.binChoice r ((s.drop .staples).setRec r { x with decision := some .staple }))) := stood
      rw [State.stands, (State.modRec_frame r _ _).2.2.2.2.1, ← State.stands, State.binChoice_stands r _ _ (by simp)] at stood'
      have := (State.drop_stands .staples .staples s).mp stood'
      exact this.1 rfl
    · intro m
      have m' : (State.compiler _).state = .stapleWait := m
      rw [State.beginStapling_compiler] at m'
      cases m'
  · exact .refl s

theorem Stapler.insert_count (p : Stapler) : p.insert.count ≤ 5000 := by
  simp only [Stapler.insert]
  split <;> simp [Config.freshCartridge]

end Sys2Proof.Machine

namespace Sys2Proof.Machine

/-! ## Resets and operating states -/

/-- A part at its reset values is sound in every way, whatever its clock and pins. -/
theorem State.hold_sound (c : ResetCause) (l : Bool) (s : State) :
    (s.hold c l).queue.sound ∧ (s.hold c l).report.sound ∧ (s.hold c l).placesSound ∧ (s.hold c l).amountsSound ∧
      (s.hold c l).chainSound ∧ (s.hold c l).sets.sound ∧ (s.hold c l).slotsHeld ∧ (s.hold c l).report.gov.timed ∧
      (s.hold c l).reservedExactly ∧ (s.hold c l).timersSound ∧ (∀ r, (s.hold c l).exactAt r) ∧ (s.hold c l).agrees ∧
      (s.hold c l).report.gov.limited := by
  have bin (b : Fin 41) : resetBins[b] = if b = 0 then Bin.reset 6000 600 else Bin.reset 1500 150 := by
    by_cases e : b = 0
    · subst e; rfl
    · have : (0 : Nat) ≠ b.val := fun k => e (Fin.ext k.symm)
      simp [resetBins, e, this]
  have free (r : Fin 8) : (s.hold c l).getRec r = none := by simp [State.getRec]
  refine ⟨⟨Nat.zero_le _, Nat.zero_le _, by simp [DescQueue.reset], fun _ => rfl, by simp [DescQueue.reset], by simp [DescQueue.reset]⟩,
    ⟨by simp [Report.reset, Config.outboundCapacity], by simp [Report.reset, Config.backlogMark],
      by simp [Report.reset, FeedRec.starting], .inr rfl⟩, ⟨List.nodup_nil, Nat.zero_le _, Nat.zero_le _, Nat.zero_le _⟩,
    ⟨fun b => ?_, Nat.zero_le _, by simp [Stapler.reset], fun i => ?_⟩, fun k _ => ⟨?_, ?_, fun b _ => ?_⟩, ⟨List.nodup_nil, fun r => ?_⟩,
    fun r x e => ?_, by simp [Report.reset, Governor.reset, Governor.timed], fun b => ?_, ⟨?_, ?_, fun _ => ⟨rfl, rfl, rfl, rfl, rfl⟩⟩,
    fun r => ?_, iff_of_false (by simp [Report.reset, Governor.reset]) ?_, fun m => absurd rfl m⟩
  · rw [State.hold_bins, bin]; split <;> exact ⟨Nat.zero_le _, by decide⟩
  · simp [JobSlot.reset]
  · simp [Tower.reset]
  · simp [Tower.reset]
  · rw [State.hold_bins, bin]; split <;> exact ⟨rfl, rfl⟩
  · simp
  · rw [free] at e; cases e
  · rw [State.hold_bins, bin, SetTable.reservedIn_eq]
    simp only [State.hold_sets, Fin.getElem_fin, Vector.getElem_replicate, heldIn, Finset.sum_const_zero]
    split <;> rfl
  · simp [RunController.reset]
  · simp [RunController.reset]
  · have full : (s.hold c l).binState 0 ≠ .full := by
      simp [State.binState, State.reachable, towerOf, bin 0, Bin.reset, Qual.unqualified]
    have none_ : ¬ (s.hold c l).holds .sets := by
      have count : (s.hold c l).sets.freeCount = 8 := SetTable.freeCount_eq_eight _ free
      simp only [State.holds, count]
      decide
    cases r <;> first | exact iff_of_false (by simp [State.stands, Report.reset]) none_ |
      simp [State.exactAt, State.stands, State.holds, Report.reset, RunController.reset, DescQueue.reset, PathMonitor.reset,
        Compiler.reset, Qual.unqualified, full, Governor.reset, Config.backlogMark]
  · rintro ⟨⟨i, m⟩, -⟩
    fin_cases i <;> simp [Report.reset, Governor.reset] at m

theorem State.hold_keeps (c : ResetCause) (l : Bool) (s : State) : s.Keeps (s.hold c l) := by
  obtain ⟨h1, h2, h3, h4, h5, h6, h7, h8, h9, h10, h11, h12, h13⟩ := s.hold_sound c l
  exact ⟨fun _ => h1, fun _ => h2, fun _ => h3, fun _ => h4, fun _ => h5, fun _ => h6, fun _ => h7, fun _ => h8, fun _ _ => h9,
    fun _ _ => h10, fun r _ _ _ _ _ => h11 r, fun _ _ _ => h12, fun _ _ => h13⟩

/-- Towers changed in nothing that their states or their soundness are derived from. -/
theorem State.chain_alike_keeps (s : State) (c : TowerChain)
    (same : ∀ k : Fin 4, c.towers[k].present = s.chain.towers[k].present ∧ c.towers[k].power.state = s.chain.towers[k].power.state ∧
      c.towers[k].door.state = s.chain.towers[k].door.state)
    (absent : ∀ k : Fin 4, s.chain.towers[k].present = false → c.towers[k].power = s.chain.towers[k].power ∧
      c.towers[k].door = s.chain.towers[k].door) : s.Keeps { s with chain := c } := by
  have states (k : Fin 4) : c.towers[k].state = s.chain.towers[k].state := by
    obtain ⟨h1, h2, h3⟩ := same k
    simp only [Tower.state, h1, h2, h3]
  have part := s.chain_keepsBut c fun a k gone => by
    have gone' := (same k).1.symm.trans gone
    obtain ⟨h2, h3⟩ := absent k gone'
    obtain ⟨power, door, bins⟩ := a k gone'
    exact ⟨h2.trans power, h3.trans door, bins⟩
  have reach (b : Fin 41) : State.reachable { s with chain := c } b = s.reachable b := by
    unfold State.reachable
    split
    · rfl
    · simp only [states]
  have bins (b : Fin 41) : State.binState { s with chain := c } b = s.binState b :=
    State.binState_congr b (reach b) (Bin.alike_refl _)
  refine { part with reserved := fun _ => part.reserved (by simp), timers := fun _ => part.timers (by simp),
                     reasons := fun r _ => part.reasons r (by simp), agrees := fun _ _ a => ?_, limited := fun _ => part.limited (by simp) }
  refine (State.agrees_congr (s := s) (t := { s with chain := c }) rfl fun i => ?_).mpr a
  match i with
  | 2 => show (_ = _ ∨ _ = _) ↔ _; rw [bins]; exact Iff.rfl
  | 4 => show _ ≤ State.fullCount { s with chain := c } ↔ _; rw [State.fullCount_congr bins]; exact Iff.rfl
  | 5 => show (∃ k : Fin 4, c.towers[k].state = _) ↔ _; simp only [states]; exact Iff.rfl
  | 0 | 1 | 3 => exact Iff.rfl

theorem State.chain_keeps (s : State) (c : TowerChain)
    (same : ∀ k : Fin 4, c.towers[k].present = s.chain.towers[k].present ∧ c.towers[k].power = s.chain.towers[k].power ∧
      c.towers[k].door = s.chain.towers[k].door) : s.Keeps { s with chain := c } :=
  s.chain_alike_keeps c (fun k => ⟨(same k).1, congrArg Qual.state (same k).2.1, congrArg Qual.state (same k).2.2⟩) fun k _ => (same k).2

theorem State.start_keeps (s : State) : s.Keeps s.start := by
  refine State.Keeps.trans (State.Keeps.trans (s.run_keeps { s.run with startup := some s.now } rfl rfl fun a => ⟨a.1, a.2.1⟩)
    (State.chain_keeps _ { s.chain with enum := some ⟨true, 0, s.now⟩ } fun _ => ⟨rfl, rfl, rfl⟩)) ?_
  exact State.free_keeps _ _ _ _ _ _ _ _ _ s.now

theorem State.syncIdle_keeps (s : State) : s.Keeps s.syncIdle := s.run_keeps _ rfl rfl fun a => ⟨a.1, a.2.1⟩

theorem State.frameTaken_keeps (s : State) : s.Keeps s.frameTaken := by
  have link := s.report_keeps (s.report.link_keeps { s.report.link with receiver := .hunt, byteTimer := none } rfl)
  refine link.trans (State.run_keeps _ _ rfl rfl fun a => ⟨?_, a.2.1⟩)
  by_cases e : s.run.op = .ready
  · exact fun _ => e
  · have same : State.timersSound { s with report := { s.report with link := { s.report.link with receiver := .hunt, byteTimer := none } } } := a
    simpa [e] using same.1

/-- The operating state changed, where its hold reasons are left open or agree before and after. -/
theorem State.op_keepsBut (s : State) (c : RunController) (X : List Part)
    (op : ∀ r ∈ [Reason.starting, .spinUp, .wake, .paused, .jam], .reason r ∈ X ∨ (State.holds { s with run := c } r ↔ s.holds r))
    (timers : s.timersSound → State.timersSound { s with run := c }) : s.KeepsBut X { s with run := c } := by
  have part := s.run_keepsBut c
  refine { part with reserved := fun _ => part.reserved (by simp [runParts]), timers := fun _ => timers,
                     reasons := fun r m a b d e => ?_, agrees := fun _ => part.agrees (by simp [runParts]),
                     limited := fun _ => part.limited (by simp [runParts]) }
  by_cases k : r ∈ [Reason.starting, .spinUp, .wake, .paused, .jam]
  · exact Iff.trans e ((op r k).resolve_left m).symm
  · simp only [List.mem_cons, List.not_mem_nil, or_false, not_or] at k
    exact part.reasons r (by simp [runParts, k]) a b d e

/-- READY entered from a state whose own hold reason is left open or that has none (R146). -/
theorem State.enterReady_keepsBut (X : List Part) (s : State) (from_ : ∀ r ∈ [Reason.starting, .wake, .paused, .jam], .reason r ∈ X ∨ ¬ s.holds r)
    (wake : s.run.op = .waking → s.run.wake = none) : s.KeepsBut X s.enterReady := by
  refine s.op_keepsBut _ X (fun r m => ?_) fun a => ⟨fun _ => rfl, fun w => ?_, fun e => by cases e⟩
  · by_cases e : r = .spinUp
    · subst e; exact .inr Iff.rfl
    · refine (from_ r (by simp_all)).imp id fun n => ?_
      refine iff_of_false ?_ n
      simp only [List.mem_cons, List.not_mem_nil, or_false] at m
      obtain rfl | rfl | rfl | rfl | rfl := m <;> simp_all [State.holds]
  · exact absurd (wake (a.2.1 w)) w

/-- RUNNING entered so, SPIN-UP standing with its timer (R144). -/
theorem State.enterRunning_keepsBut (X : List Part) (s : State) (from_ : ∀ r ∈ [Reason.starting, .wake, .paused, .jam], .reason r ∈ X ∨ ¬ s.holds r)
    (wake : s.run.op = .waking → s.run.wake = none) : s.KeepsBut X s.enterRunning := by
  refine State.KeepsBut.raise (s.op_keepsBut _ (.reason .spinUp :: X) (fun r m => ?_)
    fun a => ⟨fun n => absurd rfl n, fun w => ?_, fun e => by cases e⟩) (by simp) fun _ _ _ => by simp [State.holds]
  · by_cases e : r = .spinUp
    · subst e; exact .inl (by simp)
    · refine (from_ r (by simp_all)).imp (List.mem_cons_of_mem _) fun n => ?_
      refine iff_of_false ?_ n
      simp only [List.mem_cons, List.not_mem_nil, or_false] at m
      obtain rfl | rfl | rfl | rfl | rfl := m <;> simp_all [State.holds]
  · exact absurd (wake (a.2.1 w)) w

/-- WAKING entered from READY or STANDBY, WAKE standing (R147). -/
theorem State.enterWaking_keeps (s : State) (from_ : s.run.op = .standby) : s.Keeps s.enterWaking := by
  refine State.KeepsBut.raise (s.op_keepsBut _ [.reason .wake] (fun r m => ?_)
    fun a => ⟨fun n => absurd rfl n, fun _ => rfl, fun e => by cases e⟩) (by simp) fun _ _ _ => rfl
  simp only [List.mem_cons, List.not_mem_nil, or_false] at m
  obtain rfl | rfl | rfl | rfl | rfl := m <;> simp [State.holds, from_]

theorem State.enterStandby_keeps (s : State) (from_ : s.run.op = .ready) : s.Keeps s.enterStandby := by
  refine s.op_keepsBut _ [] (fun r m => .inr ?_) fun a => ⟨fun n => absurd rfl n, fun w => ?_, fun e => by cases e⟩
  · simp only [List.mem_cons, List.not_mem_nil, or_false] at m
    obtain rfl | rfl | rfl | rfl | rfl := m <;> simp [State.holds, from_]
  · have := a.2.1 w
    rw [from_] at this
    cases this

/-! ## Start-up and enumeration -/

theorem State.jam_op (k : JamKind) (x : Sensor) (s : State) : (s.jam k x).run.op = .jam := by
  by_cases h : s.run.op = .jam
  · rw [State.jam_second k x s h]; exact h
  · rw [State.jam_eq k x s h]
    simp [State.jamCleared, State.jamLost, State.jamTold, State.jamEntered, RunController.jammed]

theorem State.startingEnds_keeps (s : State) (op : s.run.op = .starting) : s.Keeps s.startingEnds := by
  have stopped := s.run_keeps { s.run with startup := none } rfl rfl fun a => ⟨a.1, a.2.1⟩
  unfold State.startingEnds
  simp only []
  split
  · refine State.KeepsBut.drop ((stopped.but _).trans (State.jam_keepsBut _ _ _ (by simp) _ (.inr (by simp))) (by simp)) (by simp)
      fun _ _ _ m => ?_
    have m' : (State.jam _ _ _).run.op = .starting := m
    rw [State.jam_op] at m'
    cases m'
  · refine State.KeepsBut.drop ((stopped.but _).trans (State.enterReady_keepsBut _ _ (fun r m => ?_) fun w => ?_) (by simp)) (by simp)
      fun _ _ _ m => by cases m
    · simp only [List.mem_cons, List.not_mem_nil, or_false] at m
      obtain rfl | rfl | rfl | rfl := m <;> simp [State.holds, op]
    · have w' : s.run.op = .waking := w
      rw [op] at w'
      cases w'

theorem State.enumerate_keeps (b : Bool) (s : State) : s.Keeps (s.enumerate b) := by
  have towers (k : Fin 4) : (Vector.ofFn fun t : Fin 4 => s.chain.towers[t].unqualify)[k] = s.chain.towers[k].unqualify := by simp
  have bins (c : Fin 41) : (Vector.ofFn fun b : Fin 41 => if (towerOf b).isSome then s.bins[b].unqualify else s.bins[b])[c] =
      if (towerOf c).isSome then s.bins[c].unqualify else s.bins[c] := by simp
  have changed : s.KeepsBut [.governor, .reason .overflowFull] { s with
      chain := ⟨Vector.ofFn fun t : Fin 4 => s.chain.towers[t].unqualify, some ⟨b, 0, s.now⟩⟩
      bins := Vector.ofFn fun b : Fin 41 => if (towerOf b).isSome then s.bins[b].unqualify else s.bins[b] } := by
    have part := (s.bins_keepsBut (Vector.ofFn fun b : Fin 41 => if (towerOf b).isSome then s.bins[b].unqualify else s.bins[b])
      (fun a c => by rw [bins]; split <;> exact a.1 c) fun a k absent => by
        obtain ⟨power, door, clear⟩ := a k absent
        refine ⟨power, door, fun c lies => ?_⟩
        rw [bins, if_pos (by simp [lies])]
        exact ⟨rfl, rfl⟩).trans ((State.chain_keepsBut _ ⟨Vector.ofFn fun t : Fin 4 => s.chain.towers[t].unqualify, some ⟨b, 0, s.now⟩⟩
      fun a k _ => ⟨by rw [towers]; rfl, by rw [towers]; rfl, fun c lies => by rw [bins, if_pos (by simp [lies])]; exact ⟨rfl, rfl⟩⟩).mono
        (by simp)) (by simp)
    refine (part.mono (Y := [.reserved, .governor, .reason .overflowFull]) (by simp)).reservedSame (fun c => ?_) rfl
    rw [bins]
    split <;> rfl
  exact State.KeepsBut.binsChanged changed (by simp) s towerBins

theorem State.enumerationEnds_keeps (b : Bool) (s : State) : s.Keeps (s.enumerationEnds b) := by
  have ended := s.chain_keeps { s.chain with enum := none } fun _ => ⟨rfl, rfl, rfl⟩
  unfold State.enumerationEnds
  simp only []
  split
  · exact ended.trans (State.report_keeps _ (Report.link_keeps _ _ (by simp)))
  · exact ended.trans (State.notify_keeps _ _ _)

/-- A tower that answers becomes present with its inputs unqualified, which leaves it and its bins as closed as they were (R117, R119). -/
theorem State.answers_keeps (t : Fin 4) (s : State) : s.Keeps { s with
    chain := { s.chain with towers := s.chain.towers.set t { s.chain.towers[t] with present := true, missed := 0 } } } := by
  have tower (k : Fin 4) : (s.chain.towers.set t { s.chain.towers[t] with present := true, missed := 0 })[k] =
      if k = t then { s.chain.towers[t] with present := true, missed := 0 } else s.chain.towers[k] := by
    by_cases h : k = t
    · subst h; simp
    · have : t.val ≠ k.val := fun e => h (Fin.ext e.symm)
      simp [this, h]
  have part := s.chain_keepsBut { s.chain with towers := s.chain.towers.set t { s.chain.towers[t] with present := true, missed := 0 } }
    fun a k absent => by
      have absent' := absent
      simp only [tower] at absent' ⊢
      split at absent'
      · cases absent'
      · rename_i ne
        rw [if_neg ne]
        exact a k absent'
  refine { part with reserved := fun _ => part.reserved (by simp), timers := fun _ => part.timers (by simp),
                     reasons := fun r _ => part.reasons r (by simp), agrees := fun _ sound a => ?_, limited := fun _ => part.limited (by simp) }
  have states (k : Fin 4) (v : TowerState) (h : v = .ready ∨ v = .doorOpen) :
      (s.chain.towers.set t { s.chain.towers[t] with present := true, missed := 0 })[k].state = v ↔ s.chain.towers[k].state = v := by
    rw [tower]
    split
    · rename_i e
      subst e
      have unpowered := sound k
      generalize s.chain.towers[k] = w at unpowered
      cases p : w.present with
      | true => simp [Tower.state, p]
      | false =>
        obtain ⟨power, -, -⟩ := unpowered p
        obtain rfl | rfl := h <;> simp [Tower.state, p, power, Qual.unqualified]
    · exact Iff.rfl
  have reach (b : Fin 41) : State.reachable { s with
      chain := { s.chain with towers := s.chain.towers.set t { s.chain.towers[t] with present := true, missed := 0 } } } b = s.reachable b := by
    unfold State.reachable
    split
    · rfl
    · simp only [states _ .ready (.inl rfl)]
  have bins (b : Fin 41) := State.binState_congr b (reach b) (Bin.alike_refl _)
  refine (State.agrees_congr (s := s) (t := { s with
    chain := { s.chain with towers := s.chain.towers.set t { s.chain.towers[t] with present := true, missed := 0 } } }) rfl fun i => ?_).mpr a
  match i with
  | 2 => show (_ = _ ∨ _ = _) ↔ _; rw [bins]; exact Iff.rfl
  | 4 => show _ ≤ State.fullCount _ ↔ _; rw [State.fullCount_congr bins]; exact Iff.rfl
  | 5 => exact exists_congr fun k => states k .doorOpen (.inr rfl)
  | 0 | 1 | 3 => exact Iff.rfl

/-! ## SHEET and job records -/

/-- The queue changed, and QUEUE set to its condition (R30). -/
theorem State.syncQueue_keeps (s : State) (q : DescQueue) (h : s.queue.sound → q.sound) :
    s.Keeps ({ s with queue := q } : State).syncQueue :=
  State.KeepsBut.setReason (s.queue_keepsBut q h) (by simp) fun _ _ _ => by simp [State.holds]

theorem State.appendPos_keeps (e : Entry) (q : Seq) (s : State) : s.Keeps (s.appendPos e q) := by
  unfold State.appendPos
  simp only []
  split
  · rename_i room
    refine s.syncQueue_keeps _ fun a => ⟨?_, a.2.1, fun d => ?_, a.2.2.2⟩
    · simpa using room
    · have : s.queue.entries.length = Config.queueCapacity := a.2.2.1 d
      omega
  · rename_i full
    have most (a : s.queue.sound) : s.queue.entries.length = Config.queueCapacity := by
      have := a.1
      omega
    split
    · refine State.Keeps.trans ?_ (State.notify_keeps _ _ _)
      exact s.syncQueue_keeps _ fun a => ⟨a.1, by simp, fun _ => most a, by simp, a.2.2.2.2⟩
    · refine s.syncQueue_keeps _ fun a => ⟨a.1, Nat.min_le_left _ _, fun _ => most a, fun z => ?_, a.2.2.2.2⟩
      simp only [] at z
      omega

theorem State.expectAfter_keeps (q : Seq) (s : State) : s.Keeps (s.expectAfter q) := s.queue_keeps _ id Iff.rfl

theorem State.sheetRecord_keeps (q : Seq) (rest : List Byte) (s : State) : s.Keeps (s.sheetRecord q rest) := by
  unfold State.sheetRecord
  split
  swap
  · exact s.refuse_keeps _ _ _
  simp only []
  split
  · exact (s.appendPos_keeps _ _).trans (State.expectAfter_keeps _ _)
  split
  · refine State.Keeps.trans ?_ (State.notify_keeps _ _ _)
    exact ((State.Keeps.foldl _ (fun t i => t.appendPos_keeps _ _) _ s).trans (State.appendPos_keeps _ _ _)).trans
      (State.expectAfter_keeps _ _)
  split
  · refine State.Keeps.trans ?_ (State.notify_keeps _ _ _)
    refine State.Keeps.trans ?_ (State.expectAfter_keeps _ _)
    refine State.Keeps.trans ?_ (State.appendPos_keeps _ _ _)
    split
    · exact s.queue_keeps _ (fun a => ⟨a.1, a.2.1, a.2.2.1, fun _ => rfl, a.2.2.2.2⟩) Iff.rfl
    · exact .refl s
  · exact s.notify_keeps _ _

theorem State.jobOpened_keeps (s : State) : s.Keeps s.jobOpened := by
  unfold State.jobOpened
  split
  · rename_i op
    refine s.enterRunning_keepsBut [] (fun r m => .inr ?_) (by simp [op])
    simp only [List.mem_cons, List.not_mem_nil, or_false] at m
    obtain rfl | rfl | rfl | rfl := m <;> simp [State.holds, op]
  · rename_i op; exact s.enterWaking_keeps op
  · exact .refl s

theorem State.jobOpenRecord_keeps (tag : Byte) (rest : List Byte) (s : State) : s.Keeps (s.jobOpenRecord tag rest) := by
  unfold State.jobOpenRecord
  split
  · exact s.refuse_keeps _ _ _
  split
  · split
    · exact s.refuse_keeps _ _ _
    split
    · exact s.refuse_keeps _ _ _
    split
    · exact s.refuse_keeps _ _ _
    split
    · exact s.refuse_keeps _ _ _
    · refine State.Keeps.trans ?_ (State.jobOpened_keeps _)
      exact s.setJob_keeps _ _ (fun _ => by simp [Counters.bounded]) fun _ _ => by simp
  · exact s.refuse_keeps _ _ _

theorem State.jobCloseRecord_keeps (tag : Byte) (rest : List Byte) (s : State) : s.Keeps (s.jobCloseRecord tag rest) := by
  unfold State.jobCloseRecord
  split
  · exact s.refuse_keeps _ _ _
  · exact s.refuse_keeps _ _ _
  simp only []
  split
  · exact s.refuse_keeps _ _ _
  · refine State.Keeps.trans ?_ (State.completionTest_keeps _ _)
    exact s.setJob_keeps _ _ id fun _ _ => by simp
  · exact s.refuse_keeps _ _ _
  · rename_i purging
    refine State.Keeps.trans ?_ (State.completionTest_keeps _ _)
    exact s.setJob_keeps _ _ id fun _ _ free => by cases free.symm.trans purging

theorem State.awaitEject_compiler (r : Fin 8) (c : CompilerState) (s : State) : (s.awaitEject r c).compiler.state = c := by
  unfold State.awaitEject
  rw [State.setCompiler_state]

theorem State.awaitEject_stands (r : Fin 8) (c : CompilerState) (x : Reason) (s : State) (h : (s.awaitEject r c).stands x) : s.stands x := by
  unfold State.awaitEject at h
  have stood := ((State.setCompiler_stands _ _ _).mp h).1
  simpa [State.stands] using stood

/-- A purged set leaves the compiler ejecting, and gives no reason (R83). -/
theorem State.purgedEject_compiler {s : State} {r : Fin 8} {x : SetRec} (used : s.getRec r = some x) :
    (s.purgedEject r).compiler.state = .ejecting := by
  simp only [State.purgedEject, used]
  split
  · simp [State.awaitEject_compiler]
  · exact State.awaitEject_compiler _ _ _

theorem State.purgedEject_stands (r : Fin 8) (x : Reason) (s : State) (h : x ≠ .backlog) (stood : (s.purgedEject r).stands x) :
    s.stands x := by
  unfold State.purgedEject at stood
  split at stood
  · exact stood
  · simp only [] at stood
    have before {result : StapleResult} (k : ((((s.dropReservation r).modRec r fun x =>
        { x with result := result, height := some (x.height.getD x.thickness) }).retarget r .purged).awaitEject r .ejecting).stands x) :
        s.stands x := by
      simpa [State.stands] using State.awaitEject_stands _ _ _ _ k
    split at stood
    · exact before ((State.binEvent_stands _ x _ h).mp stood)
    · exact before stood

theorem State.purgeRec_keeps (s : State) (r : Fin 8) : s.Keeps (s.purgeRec r) := by
  unfold State.purgeRec
  split
  · exact .refl s
  rename_i x used
  split
  · exact s.closeForming_keeps r
  · have dropped := s.drop_keepsBut .staples (by simp)
    refine State.KeepsBut.restore (r := .staples) (dropped.trans ((State.purgedEject_keeps r _).but _) (by simp)) fun _ _ _ => ?_
    refine iff_of_false (fun stood => ?_) fun m => ?_
    · exact ((State.drop_stands .staples .staples s).mp (State.purgedEject_stands r .staples _ (by simp) stood)).1 rfl
    · have m' : (State.purgedEject r (s.drop .staples)).compiler.state = .stapleWait := m
      rw [State.purgedEject_compiler (s := s.drop .staples) used] at m'
      cases m'
  · exact s.retarget_keeps r _
  · exact (s.retarget_keeps r _).trans (State.foundBin_keeps _ _)
  · exact .refl s

theorem State.purgeSets_keeps (i : Fin 16) (s : State) : s.Keeps (s.purgeSets i) := by
  unfold State.purgeSets
  simp only []
  refine State.Keeps.trans ?_ (State.Keeps.foldl _ State.binEvent_keeps _ _)
  refine State.Keeps.trans ?_ (State.Keeps.foldl _ (fun t r => t.passPartBin_keeps r) _ _)
  refine State.Keeps.trans ?_ (State.Keeps.foldl _ State.purgeRec_keeps _ _)
  exact State.Keeps.foldl _ (fun t r => t.modRec_keeps r SetRec.markPurged fun _ _ => ⟨rfl, rfl, rfl⟩) _ s

theorem State.purgeJob_keeps (i : Fin 16) (b : Bool) (s : State) : s.Keeps (s.purgeJob i b) :=
  ((s.setJob_keeps i { s.jobs[i] with state := .purging, closeSeen := b } id fun _ _ => by simp).trans (State.purgeSets_keeps i _)).trans
    (State.completionTest_keeps i _)

theorem State.jobPurgeRecord_keeps (tag : Byte) (rest : List Byte) (s : State) : s.Keeps (s.jobPurgeRecord tag rest) := by
  unfold State.jobPurgeRecord
  split
  · exact s.refuse_keeps _ _ _
  · exact s.refuse_keeps _ _ _
  split
  · exact s.refuse_keeps _ _ _
  · exact s.purgeJob_keeps _ _
  · exact s.purgeJob_keeps _ _
  · exact .refl s

end Sys2Proof.Machine

namespace Sys2Proof.Machine

/-! ## Table writes -/

theorem State.tableWrite_keeps {α : Type} (tag : Byte) (rest : List Byte) (entries : List Byte → Option (List α))
    (ok : Nat → List α → Bool) (write : Nat → List α → State → State)
    (h : ∀ n xs (s : State), s.run.op ≠ .starting → ok n xs = true → s.Keeps (write n xs s)) (s : State) :
    s.Keeps (s.tableWrite tag rest entries ok write) := by
  unfold State.tableWrite
  split
  · exact s.refuse_keeps _ _ _
  split
  · exact s.refuse_keeps _ _ _
  split
  · exact s.refuse_keeps _ _ _
  · rename_i fine running
    exact h _ _ s running (by simpa using fine)

/-- What each entry's write keeps of its element, the writes keep of every element. -/
theorem writeAll_rel {α β : Type} {n : Nat} (f : β → α → β) (R : β → β → Prop) (refl : ∀ b, R b b)
    (step : ∀ a b x, R a b → R a (f b x)) (i : Nat) (xs : List α) (v : Vector β n) (k : Fin n) : R v[k] (writeAll f i xs v)[k] := by
  suffices h : ∀ (w : Vector β n), R v[k] w[k] → R v[k] (writeAll f i xs w)[k] from h v (refl _)
  induction xs generalizing i with
  | nil => exact fun w h => h
  | cons x xs ih =>
    intro w h
    refine ih (i + 1) _ ?_
    split
    · rename_i lt
      by_cases e : i = k.val
      · subst e
        simpa using step _ _ x h
      · simpa [e] using h
    · exact h

theorem State.mediaRecord_keeps (tag : Byte) (rest : List Byte) (s : State) : s.Keeps (s.mediaRecord tag rest) :=
  State.tableWrite_keeps tag rest _ _ _ (fun _ _ s _ _ => s.free_keeps _ _ _ _ _ _ _ _ _) s

theorem State.timingRecord_keeps (tag : Byte) (rest : List Byte) (s : State) : s.Keeps (s.timingRecord tag rest) := by
  refine State.tableWrite_keeps tag rest _ _ _ (fun n xs s _ _ => ?_) s
  simp only []
  split
  · exact s.refuse_keeps _ _ _
  · exact s.path_keeps _ rfl (fun a => ⟨a.1, a.2.1⟩) fun _ a => ⟨a.1, a.2.1, a.2.2.1, a.2.2.2.1⟩

theorem State.routeRecord_keeps (tag : Byte) (rest : List Byte) (s : State) : s.Keeps (s.routeRecord tag rest) :=
  State.tableWrite_keeps tag rest _ _ _ (fun _ _ s _ _ => s.free_keeps _ _ _ _ _ _ _ _ _) s

/-- A bin as a write leaves it: its fill, its reservation and its sensors, and a capacity within range. -/
def Bin.keptByWrite (old new : Bin) : Prop :=
  new.fill = old.fill ∧ new.reserved = old.reserved ∧ new.present = old.present ∧ new.full = old.full ∧
    (old.capacity ≤ 9999 → new.capacity ≤ 9999)

theorem State.writeBins_keeps (n : Nat) (xs : List BinWrite) (s : State) : s.Keeps (s.writeBins n xs) := by
  have kept (b : Fin 41) : (s.bins[b]).keptByWrite (writeAll Bin.write n xs s.bins)[b] :=
    writeAll_rel Bin.write Bin.keptByWrite (fun _ => ⟨rfl, rfl, rfl, rfl, id⟩)
      (fun _ _ _ ⟨h1, h2, h3, h4, _⟩ => ⟨h1, h2, h3, h4, fun _ => Nat.min_le_left _ _⟩) n xs s.bins b
  have part := s.bins_keepsBut (writeAll Bin.write n xs s.bins)
    (fun a b => by
      obtain ⟨fill, -, -, -, capacity⟩ := kept b
      rw [fill]
      exact ⟨(a.1 b).1, capacity (a.1 b).2⟩)
    fun a k absent => by
      obtain ⟨power, door, bins⟩ := a k absent
      refine ⟨power, door, fun b lies => ?_⟩
      obtain ⟨-, -, present, full, -⟩ := kept b
      exact ⟨present.trans (bins b lies).1, full.trans (bins b lies).2⟩
  have written : s.KeepsBut [.governor, .reason .overflowFull] { s with bins := writeAll Bin.write n xs s.bins } :=
    (part.mono (Y := [.reserved, .governor, .reason .overflowFull]) (by simp)).reservedSame (fun b => (kept b).2.1) rfl
  exact State.Keeps.trans (State.KeepsBut.binsChanged written (by simp) s _) (State.Keeps.foldl _ State.binEvent_keeps _ _)

theorem State.binRecord_keeps (tag : Byte) (rest : List Byte) (s : State) : s.Keeps (s.binRecord tag rest) :=
  State.tableWrite_keeps tag rest _ _ _ (fun n xs s _ _ => s.writeBins_keeps n xs) s

theorem State.towerRecord_keeps (tag : Byte) (rest : List Byte) (s : State) : s.Keeps (s.towerRecord tag rest) := by
  refine State.tableWrite_keeps tag rest _ _ _ (fun n xs s _ _ => s.chain_keeps _ fun k => ?_) s
  exact writeAll_rel (fun (t : Tower) (x : Byte) => { t with wakeEnable := x = 1 })
    (fun a b => b.present = a.present ∧ b.power = a.power ∧ b.door = a.door) (fun _ => ⟨rfl, rfl, rfl⟩) (fun _ _ _ h => h) _ _ _ k

theorem State.noticeRecord_keeps (tag : Byte) (rest : List Byte) (s : State) : s.Keeps (s.noticeRecord tag rest) :=
  State.tableWrite_keeps tag rest _ _ _
    (fun _ _ s _ _ => s.report_keeps ((s.report.notice_keeps _).trans (Report.sendingTest_keeps _))) s

/-! ## SETTINGS -/

/-- What a SETTINGS write leaves open until its owners act (R170). -/
def settingParts : List Part := [.limits, .governor, .reason .queue]

/-- Governor settings changed beside its combination, raised and its timer. -/
theorem State.modGov_keepsBut (f : Governor → Governor) (s : State)
    (same : (f s.report.gov).comb = s.report.gov.comb ∧ (f s.report.gov).raised = s.report.gov.raised ∧
      (f s.report.gov).timer = s.report.gov.timer) : s.KeepsBut settingParts (s.modGov f) := by
  obtain ⟨comb, raised, timer⟩ := same
  refine ⟨id, id, id, id, id, id, id, fun a => ?_, fun _ => id, fun _ => id, fun r _ _ _ _ a => ?_, fun m => absurd (by simp [settingParts]) m,
    fun m => absurd (by simp [settingParts]) m⟩
  · show (f s.report.gov).timer ≠ none ↔ (f s.report.gov).raised ≠ (f s.report.gov).comb
    rw [comb, raised, timer]; exact a
  · cases r <;> first | exact a | (show _ ↔ (f s.report.gov).raised = true; rw [raised]; exact a)

theorem State.writeSetting_keepsBut (i x : Nat) (s : State) : s.KeepsBut settingParts (s.writeSetting i x) := by
  unfold State.writeSetting
  split
  · refine State.KeepsBut.mono (X := [.reason .queue]) ?_ (by simp [settingParts])
    refine s.queue_keepsBut _ fun a => ⟨a.1, a.2.1, a.2.2.1, a.2.2.2.1, ?_, ?_⟩
    · simp only [clamp]; omega
    · simp only [clamp]; omega
  · refine State.Keeps.but ?_ _
    exact s.delivery_keeps _ id (fun _ => id) Iff.rfl
  · refine State.KeepsBut.mono (X := [.governor]) ?_ (by simp [settingParts])
    exact s.stapler_keepsBut _ id fun _ => Nat.min_le_left _ _
  · refine State.Keeps.but ?_ _
    exact s.run_keeps _ rfl rfl fun a => ⟨a.1, a.2.1⟩
  · exact (s.free_keeps _ _ _ _ _ _ _ _ _).but _
  · exact (s.free_keeps _ _ _ _ _ _ _ _ _).but _
  · exact (s.free_keeps _ _ _ _ _ _ _ _ _).but _
  · exact s.modGov_keepsBut _ ⟨rfl, rfl, rfl⟩
  · exact s.modGov_keepsBut _ ⟨rfl, rfl, rfl⟩
  · exact s.modGov_keepsBut _ ⟨rfl, rfl, rfl⟩
  · exact s.modGov_keepsBut _ ⟨rfl, rfl, rfl⟩
  · exact s.modGov_keepsBut _ ⟨rfl, rfl, rfl⟩
  · exact (State.Keeps.refl s).but _

theorem State.writeSettings_keepsBut (i : Nat) (xs : List Nat) (s : State) : s.KeepsBut settingParts (State.writeSettings i xs s) := by
  induction xs generalizing i s with
  | nil => exact (State.Keeps.refl s).but _
  | cons x xs ih => exact (s.writeSetting_keepsBut i x).trans (ih (i + 1) _) (by simp [settingParts])

theorem State.writeSetting_gov (i x : Nat) (s : State) (h : i < 7 ∨ 12 ≤ i) : (s.writeSetting i x).report = s.report := by
  unfold State.writeSetting
  split <;> first | rfl | omega

theorem State.writeSettings_gov (i : Nat) (xs : List Nat) (s : State) (h : ∀ j < 5, covers i xs.length (7 + j) = false) :
    (State.writeSettings i xs s).report = s.report := by
  induction xs generalizing i s with
  | nil => rfl
  | cons x xs ih =>
    have outside : i < 7 ∨ 12 ≤ i := by
      by_contra inside
      have := h (i - 7) (by omega)
      simp [covers, List.length_cons] at this
      omega
    refine (ih (i + 1) _ fun j lt => ?_).trans (s.writeSetting_gov i x outside)
    have := h j lt
    simp only [covers, List.length_cons, Bool.and_eq_false_iff, decide_eq_false_iff_not] at this ⊢
    omega

/-- GOVERNOR following raised keeps the outbound side. -/
theorem Report.setRaised_sound (v : Bool) (p : Report) (h : p.sound) : (p.setRaised v).sound := by
  obtain ⟨bound, backlog, feed⟩ := (Report.sound_iff _).mp h
  exact ⟨bound, by simpa [Report.setRaised, Report.setReason, Config.backlogMark] using backlog, Feed.set_sound _ _ _ feed⟩

/-- The governor's timer at its limit (R153): raised becomes the combination. -/
theorem State.governorExpires_keeps (s : State) (runs : s.report.gov.timer ≠ none) :
    s.Keeps { s with report := s.report.governorExpires } where
  queue := id
  report a := Report.setRaised_sound _ _ a
  places := id
  amounts := id
  chain := id
  sets := id
  slots := id
  timed a := by
    have differs := a.mp runs
    refine iff_of_false (fun n => n rfl) fun n => n ?_
    show (!s.report.gov.raised) = s.report.gov.comb
    exact Bool.not_eq_eq_eq_not.mpr (by cases h : s.report.gov.raised <;> cases k : s.report.gov.comb <;> simp_all)
  reserved _ := id
  timers _ := id
  reasons r _ _ _ _ a := by
    show r ∈ (s.report.feed.set .governor (!s.report.gov.raised)).reasons ↔ _
    rw [Feed.set_mem]
    by_cases e : r = .governor
    · subst e
      simp only [if_true]
      exact Iff.rfl
    · rw [if_neg e]
      refine a.trans ?_
      cases r <;> first | exact Iff.rfl | exact absurd rfl e
  agrees _ _ a := a
  limited _ _ n := absurd rfl n

/-- What a write of the governor's settings restores (R154). -/
theorem State.KeepsBut.governorWritten {X : List Part} {s t : State} (h : s.KeepsBut (.limits :: .governor :: X) t) (n : .timers ∉ X) :
    s.KeepsBut X { t with report := t.report.governorWritten t.govCond t.now } := by
  have whole {u : State} (k : s.KeepsBut (.limits :: X) u) (limited : u.report.gov.limited) : s.KeepsBut X u :=
    { k with
      reserved := fun m => k.reserved (by simpa using m)
      timers := fun m => k.timers (by simpa using m)
      reasons := fun r m => k.reasons r (by simpa using m)
      agrees := fun m => k.agrees (by simpa using m)
      limited := fun _ _ => limited }
  have same (unchanged : t.report.gov.combine t.govCond = t.report.gov.comb) : s.KeepsBut (.limits :: X) t :=
    { h with
      reserved := fun m => h.reserved (by simpa using m)
      timers := fun m => h.timers (by simpa using m)
      reasons := fun r m => h.reasons r (by simpa using m)
      agrees := fun _ _ _ => by rw [State.agrees, ← unchanged]; exact t.combine_iff
      limited := fun m => absurd (by simp) m }
  unfold Report.governorWritten
  split
  · rename_i changed
    have restored : s.KeepsBut (.limits :: X) t.recombine :=
      State.KeepsBut.recombine (h.mono fun p m => by simp only [List.mem_cons] at m ⊢; tauto)
    refine whole restored ?_
    show (t.report.recombine t.govCond t.now).gov.limited
    unfold Report.recombine
    simp only [changed, if_false]
    split
    · exact fun m => absurd rfl m
    split
    · exact fun m => absurd rfl m
    · rename_i timed
      simp only [Bool.or_eq_true, decide_eq_true_eq, Bool.and_eq_true, Bool.not_eq_true', not_or, not_and, Bool.not_eq_false] at timed
      exact fun _ => ⟨Nat.pos_of_ne_zero timed.1, timed.2⟩
  rename_i unchanged
  split
  · rename_i due
    simp only [Bool.and_eq_true] at due
    have runs : t.report.gov.timer ≠ none := Option.isSome_iff_ne_none.mp due.1
    exact whole ((same (not_not.mp unchanged)).trans ((t.governorExpires_keeps runs).but _) (by simpa using n)) fun m => absurd rfl m
  · rename_i early
    refine whole (same (not_not.mp unchanged)) fun runs => ?_
    simp only [Bool.and_eq_true, Bool.or_eq_true, decide_eq_true_eq, not_and, not_or, Option.isSome_iff_ne_none, Bool.not_eq_true'] at early
    obtain ⟨wait, time⟩ := early runs
    exact ⟨Nat.pos_of_ne_zero fun z => by rw [z] at time; simp at time, fun r => by simpa using wait r⟩

theorem State.settingsWritten_keeps {s t : State} (start n : Nat) (h : s.KeepsBut settingParts t)
    (gov : (∀ j < 5, covers start n (7 + j) = false) → t.report.gov = s.report.gov) : s.Keeps (t.settingsWritten start n) := by
  have synced : s.KeepsBut [.limits, .governor] t.syncQueue :=
    State.KeepsBut.setReason (h.mono (by simp [settingParts])) (by simp) fun _ _ _ => by simp [State.holds]
  have gov' : (∀ j < 5, covers start n (7 + j) = false) → t.syncQueue.report.gov = s.report.gov := gov
  unfold State.settingsWritten
  simp only []
  generalize t.syncQueue = u at synced gov'
  have governed : s.Keeps (if (List.range 5).any fun i => covers start n (7 + i) then
      { u with report := u.report.governorWritten u.govCond u.now } else u.recombine) := by
    split
    · exact State.KeepsBut.governorWritten synced (by simp)
    · rename_i none_
      have same := gov' fun j lt => by
        by_contra covered
        exact none_ (List.any_eq_true.mpr ⟨j, List.mem_range.mpr lt, by simpa using covered⟩)
      refine State.KeepsBut.recombine { synced with
        reserved := fun m => synced.reserved (by simp), timers := fun m => synced.timers (by simp)
        reasons := fun r m => synced.reasons r (by simp), agrees := fun m => absurd (by simp) m, limited := fun _ a => ?_ }
      rw [same]; exact a
  have last {v : State} (k : s.Keeps v) : s.Keeps (if covers start n 1 && v.delivery.holdDue v.now then v.holdExpires else v) := by
    split
    · exact k.trans v.holdExpires_keeps
    · exact k
  exact last governed

theorem State.settingsRecord_keeps (tag : Byte) (rest : List Byte) (s : State) : s.Keeps (s.settingsRecord tag rest) :=
  State.tableWrite_keeps tag rest _ _ _ (fun n xs s _ _ => State.settingsWritten_keeps n xs.length (s.writeSettings_keepsBut n xs)
    fun h => by rw [s.writeSettings_gov n xs h]) s

theorem State.tableRecord_keeps (tag table : Byte) (rest : List Byte) (s : State) : s.Keeps (s.tableRecord tag table rest) := by
  unfold State.tableRecord
  split
  · exact s.mediaRecord_keeps _ _
  · exact s.timingRecord_keeps _ _
  · exact s.routeRecord_keeps _ _
  · exact s.binRecord_keeps _ _
  · exact s.towerRecord_keeps _ _
  · exact s.noticeRecord_keeps _ _
  · exact s.settingsRecord_keeps _ _
  · split <;> exact s.refuse_keeps _ _ _

/-! ## Queries -/

theorem State.reply_keeps (subject idx tag : Byte) (fields : List Byte) (s : State) : s.Keeps (s.reply subject idx tag fields) :=
  s.report_keeps (s.report.answer_keeps _ _ _)

theorem State.queryPlain_keeps (subject tag : Byte) (rest : List Byte) (fields : State → List Byte) (s : State) :
    s.Keeps (s.queryPlain subject tag rest fields) := by
  unfold State.queryPlain
  split
  · exact s.reply_keeps _ _ _ _
  · exact s.refuse_keeps _ _ _

theorem State.queryIndexed_keeps (subject tag : Byte) (rest : List Byte) (fields : Nat → State → Option (List Byte)) (s : State) :
    s.Keeps (s.queryIndexed subject tag rest fields) := by
  unfold State.queryIndexed
  split
  · split
    · exact s.reply_keeps _ _ _ _
    · exact s.refuse_keeps _ _ _
  · exact s.refuse_keeps _ _ _

theorem State.peekRecord_keeps (tag : Byte) (extra : List Byte) (s : State) : s.Keeps (s.peekRecord tag extra) := by
  unfold State.peekRecord
  split
  · exact s.reply_keeps _ _ _ _
  · exact s.refuse_keeps _ _ _

theorem State.takeRecord_keeps (tag : Byte) (extra : List Byte) (s : State) : s.Keeps (s.takeRecord tag extra) := by
  have cleared : s.Keeps s.clearSummary := s.report_keeps (s.report.notice_keeps _)
  unfold State.takeRecord
  split
  · simp only []
    split
    · exact cleared.trans (State.reply_keeps _ _ _ _ _)
    · exact s.reply_keeps _ _ _ _
  · exact s.refuse_keeps _ _ _

theorem State.attentionRecord_keeps (tag mode : Byte) (s : State) : s.Keeps (s.attentionRecord tag mode) := by
  unfold State.attentionRecord
  split
  · exact s.peekRecord_keeps _ _
  split
  · exact s.takeRecord_keeps _ _
  · exact s.refuse_keeps _ _ _

theorem State.queryRecord_keeps (tag subject idx mode : Byte) (s : State) : s.Keeps (s.queryRecord tag subject idx mode) := by
  unfold State.queryRecord
  split
  · exact s.queryPlain_keeps _ _ _ _
  · exact s.queryPlain_keeps _ _ _ _
  · exact s.queryIndexed_keeps _ _ _ _
  · exact s.queryPlain_keeps _ _ _ _
  · exact s.queryPlain_keeps _ _ _ _
  · exact s.queryIndexed_keeps _ _ _ _
  · exact s.queryIndexed_keeps _ _ _ _
  · exact s.queryIndexed_keeps _ _ _ _
  · exact s.queryIndexed_keeps _ _ _ _
  · exact s.attentionRecord_keeps _ _
  · exact s.queryIndexed_keeps _ _ _ _
  · exact s.queryIndexed_keeps _ _ _ _
  · exact s.queryPlain_keeps _ _ _ _
  · exact s.refuse_keeps _ _ _

/-! ## Controls -/

theorem State.control_keeps (tag : Byte) (extra : List Byte) (f : State → State) (s : State) (h : s.Keeps (f s)) :
    s.Keeps (s.control tag extra f) := by
  unfold State.control
  split
  · exact h
  · exact s.refuse_keeps _ _ _

theorem State.pauseRecord_keeps (tag : Byte) (extra : List Byte) (s : State) : s.Keeps (s.pauseRecord tag extra) := by
  refine s.control_keeps tag extra _ ?_
  split
  · rename_i op
    refine State.KeepsBut.raise (s.op_keepsBut _ [.reason .paused] (fun r m => ?_) fun a => ?_) (by simp) fun _ _ _ => rfl
    · simp only [List.mem_cons, List.not_mem_nil, or_false] at m
      obtain rfl | rfl | rfl | rfl | rfl := m <;> simp [State.holds, op]
    · exact ⟨fun n => by have := a.1 n; simp_all, fun n => by have := a.2.1 n; simp_all, fun e => by cases e⟩
  · exact s.refuse_keeps _ _ _

theorem State.resumeRecord_keeps (tag : Byte) (extra : List Byte) (s : State) : s.Keeps (s.resumeRecord tag extra) := by
  refine s.control_keeps tag extra _ ?_
  split
  · rename_i op
    refine State.KeepsBut.drop (s.op_keepsBut _ [.reason .paused] (fun r m => ?_) fun a => ?_) (by simp) fun _ _ _ m => by cases m
    · simp only [List.mem_cons, List.not_mem_nil, or_false] at m
      obtain rfl | rfl | rfl | rfl | rfl := m <;> simp [State.holds, op]
    · exact ⟨fun n => by have := a.1 n; simp_all, fun n => by have := a.2.1 n; simp_all, fun e => by cases e⟩
  · exact s.refuse_keeps _ _ _

theorem State.leaveJam_keeps (s : State) (op : s.run.op = .jam) : s.Keeps s.leaveJam := by
  have unset : s.Keeps { s with queue := { s.queue with expected := none } } := s.queue_keeps _ id Iff.rfl
  have from_ : ∀ r ∈ [Reason.starting, .wake, .paused, .jam], (Part.reason r ∈ [Part.reason .jam]) ∨
      ¬ State.holds { s with queue := { s.queue with expected := none } } r := fun r m => by
    simp only [List.mem_cons, List.not_mem_nil, or_false] at m
    obtain rfl | rfl | rfl | rfl := m <;> simp [State.holds, op]
  have wake (w : s.run.op = .waking) : s.run.wake = none := by rw [op] at w; cases w
  unfold State.leaveJam
  simp only []
  split
  · exact State.KeepsBut.drop ((unset.but _).trans (State.enterReady_keepsBut _ _ from_ wake) (by simp)) (by simp) fun _ _ _ m => by cases m
  · exact State.KeepsBut.drop ((unset.but _).trans (State.enterRunning_keepsBut _ _ from_ wake) (by simp)) (by simp) fun _ _ _ m => by cases m

theorem State.clearJamRecord_keeps (tag : Byte) (extra : List Byte) (s : State) : s.Keeps (s.clearJamRecord tag extra) := by
  refine s.control_keeps _ _ _ ?_
  split
  · rename_i op
    simp only [Bool.and_eq_true, decide_eq_true_eq] at op
    exact s.leaveJam_keeps op.1
  · exact s.refuse_keeps _ _ _

theorem State.releaseHoldRecord_keeps (tag : Byte) (extra : List Byte) (s : State) : s.Keeps (s.releaseHoldRecord tag extra) := by
  refine s.control_keeps _ _ _ ?_
  split
  · exact s.divertHeld_keeps _ _
  · exact s.refuse_keeps _ _ _

theorem State.towerResetRecord_keeps (tag : Byte) (extra : List Byte) (s : State) : s.Keeps (s.towerResetRecord tag extra) := by
  refine s.control_keeps _ _ _ ?_
  split
  · exact s.refuse_keeps _ _ _
  split
  · exact s.refuse_keeps _ _ _
  · exact s.enumerate_keeps _

theorem State.standbyRecord_keeps (tag : Byte) (extra : List Byte) (s : State) : s.Keeps (s.standbyRecord tag extra) := by
  refine s.control_keeps _ _ _ ?_
  split
  · rename_i op
    exact s.enterStandby_keeps op
  · exact s.refuse_keeps _ _ _

theorem State.wakeRecord_keeps (tag : Byte) (extra : List Byte) (s : State) : s.Keeps (s.wakeRecord tag extra) := by
  refine s.control_keeps _ _ _ ?_
  split
  · rename_i op
    exact s.enterWaking_keeps op
  · exact s.refuse_keeps _ _ _

theorem State.resetControl_keeps (tag : Byte) (extra : List Byte) (s : State) : s.Keeps (s.resetControl tag extra) :=
  s.control_keeps _ _ _ ((s.hold_keeps _ _).trans (State.start_keeps _))

theorem State.controlRecord_keeps (tag code : Byte) (s : State) : s.Keeps (s.controlRecord tag code) := by
  unfold State.controlRecord
  split
  · exact s.pauseRecord_keeps _ _
  · exact s.resumeRecord_keeps _ _
  · exact s.clearJamRecord_keeps _ _
  · exact s.releaseHoldRecord_keeps _ _
  · exact s.towerResetRecord_keeps _ _
  · exact s.standbyRecord_keeps _ _
  · exact s.wakeRecord_keeps _ _
  · exact s.resetControl_keeps _ _
  · exact s.refuse_keeps _ _ _

/-! ## The link -/

theorem State.record_keeps (kind tag : Byte) (rest : List Byte) (s : State) : s.Keeps (s.record kind tag rest) := by
  unfold State.record
  split
  · exact s.sheetRecord_keeps _ _
  · exact s.jobOpenRecord_keeps _ _
  · exact s.jobCloseRecord_keeps _ _
  · exact s.jobPurgeRecord_keeps _ _
  · split
    · exact s.tableRecord_keeps _ _ _
    · exact s.refuse_keeps _ _ _
  · split
    · exact s.queryRecord_keeps _ _ _ _
    · exact s.refuse_keeps _ _ _
  · split
    · exact s.controlRecord_keeps _ _
    · exact s.refuse_keeps _ _ _
  · exact s.refuse_keeps _ _ _

theorem State.receive_keeps (r : Receiver) (s : State) : s.Keeps (s.receive r) := s.report_keeps (s.report.link_keeps _ rfl)

theorem State.hunt_keeps (s : State) : s.Keeps s.hunt :=
  s.report_keeps (s.report.link_keeps { s.report.link with receiver := .hunt, byteTimer := none } rfl)

theorem State.frameError_keeps (k : Nat) (s : State) : s.Keeps (s.frameError k) :=
  State.Keeps.trans s.hunt_keeps (State.notify_keeps _ _ _)

theorem State.checkByte_keeps (len kind : Byte) (got : List Byte) (b : Byte) (s : State) : s.Keeps (s.checkByte len kind got b) := by
  unfold State.checkByte
  split
  · split
    · exact s.frameTaken_keeps.trans (State.record_keeps _ _ _ _)
    · exact s.frameTaken_keeps
  · exact s.frameError_keeps _

theorem State.takeByte_keeps (b : Byte) (stopLow : Bool) (s : State) : s.Keeps (s.takeByte b stopLow) := by
  unfold State.takeByte
  split
  · split
    · exact s.receive_keeps _
    · exact .refl s
  · split
    · exact s.frameError_keeps _
    split
    · exact s.receive_keeps _
    · exact s.frameError_keeps _
  · split
    · exact s.frameError_keeps _
    · exact s.receive_keeps _
  · split
    · exact s.frameError_keeps _
    · simp only [State.bodyByte]
      split <;> exact s.receive_keeps _
  · split
    · exact s.frameError_keeps _
    · exact s.checkByte_keeps _ _ _ _

end Sys2Proof.Machine

namespace Sys2Proof.Machine

/-! ## Classification at S1 -/

/-- The path list has room for a sheet, and the part has left STARTING. -/
def State.takesSheet (s : State) : Prop := s.path.list.length < 6 ∧ s.run.op ≠ .starting

theorem State.takesSheet_congr {s t : State} (path : t.path = s.path) (run : t.run = s.run) (h : s.takesSheet) : t.takesSheet := by
  rw [State.takesSheet, path, run]; exact h

theorem State.enterPath_keeps (q : Option Seq) (o : Option (Fin 16 × Nat)) (n : Option Nat) (b : SheetBody) (s : State) (h : s.takesSheet) :
    s.Keeps (s.enterPath q o n b) := by
  obtain ⟨fresh, -⟩ := s.path.freeId_fresh h.1
  unfold State.enterPath
  simp only []
  have gate : s.Keeps { s with binder := { s.binder with g1 := if b.isBound then .main else .reject } } := s.free_keeps _ _ _ _ _ _ _ _ _
  refine gate.trans (State.path_keeps _ _ ?_ (fun a => ?_) fun k => absurd k h.2)
  · rfl
  have room := h.1
  refine ⟨?_, by simp [Config.pathCapacity]; omega⟩
  simp only [List.map_append, List.map_cons, List.map_nil]
  refine List.nodup_append.mpr ⟨a.1, by simp, fun i m j n => ?_⟩
  obtain ⟨e, on, rfl⟩ := List.mem_map.mp m
  rw [List.mem_singleton.mp n]
  exact fresh e on

theorem State.makeOrphan_keeps (o : OrphanReason) (q : Option Seq) (s : State) (h : s.takesSheet) : s.Keeps (s.makeOrphan o q) :=
  s.enterPath_keeps _ _ _ _ h

theorem State.looseOf_keeps (o : OrphanReason) (d : Descriptor) (s : State) (h : s.takesSheet) : s.Keeps (s.looseOf o d) :=
  (s.bump_keeps d.slot _ Counters.addLoose_bounded).trans (State.enterPath_keeps _ _ _ _ _ (s.takesSheet_congr (by simp) (by simp) h))

theorem State.takeHead_keeps (s : State) (some_ : s.queue.entries ≠ []) : s.Keeps s.takeHead := by
  refine s.syncQueue_keeps _ fun a => ?_
  obtain ⟨bound, most, full, owed, low, high⟩ := a
  have shorter : s.queue.entries.tail.length + 1 = s.queue.entries.length := by
    obtain ⟨e, l, q⟩ := List.exists_cons_of_ne_nil some_
    simp [q]
  unfold DescQueue.taken
  simp only []
  split
  · rename_i none_
    exact ⟨by simp only []; omega, most, fun d => by simp only [] at d; omega, owed, low, high⟩
  · rename_i some_
    have debt := full (Nat.pos_of_ne_zero some_)
    refine ⟨?_, ?_, fun d => ?_, fun z => ?_, low, high⟩
    · simp only [List.length_append, List.length_singleton]; omega
    · simp only []; omega
    · simp only [List.length_append, List.length_singleton]; omega
    · simp only [] at z
      exact if_pos (by omega)

theorem State.endForming_keeps (b : BrokenReason) (s : State) : s.Keeps (s.endForming b) := by
  unfold State.endForming
  split
  · exact (s.modRec_keeps _ _ fun x _ => x.markBroken_same b).trans (State.closeForming_keeps _ _)
  · exact .refl s

theorem State.endForming_frame (b : BrokenReason) (s : State) :
    (s.endForming b).path = s.path ∧ (s.endForming b).run = s.run ∧ (s.endForming b).jobs = s.jobs := by
  unfold State.endForming
  split <;> simp

theorem State.takesSheet_endForming (b : BrokenReason) {s : State} (h : s.takesSheet) : (s.endForming b).takesSheet :=
  State.takesSheet_congr (s.endForming_frame b).1 (s.endForming_frame b).2.1 h

theorem State.bind_keeps (d : Descriptor) (r : Fin 8) (s : State) (h : s.takesSheet) : s.Keeps (s.bind d r) :=
  (s.enterPath_keeps _ _ _ _ h).trans (State.modRec_keeps _ _ _ fun _ _ => ⟨rfl, rfl, rfl⟩)

theorem State.lastBound_keeps (d : Descriptor) (r : Fin 8) (s : State) : s.Keeps (s.lastBound d r) := by
  unfold State.lastBound
  split
  · exact .refl s
  · rename_i x used
    refine State.Keeps.trans ?_ (State.closeForming_keeps _ _)
    split
    · exact State.setRec_keeps used _ rfl fun _ => rfl
    · exact .refl s

theorem State.openSet_keeps (d : Descriptor) (s : State) (h : s.takesSheet) (opened : s.jobs[d.slot].state = .opened) :
    s.Keeps (s.openSet d) := by
  have ended := s.endForming_keeps .missingEnd
  have room := State.takesSheet_endForming .missingEnd h
  have jobs := (s.endForming_frame .missingEnd).2.2
  unfold State.openSet
  simp only []
  generalize s.endForming .missingEnd = t at ended room jobs
  split
  · exact ended.trans (t.looseOf_keeps _ _ room)
  · rename_i r free
    have allocated : t.Keeps (t.allocate r (t.newRec d)) := State.allocate_keeps _ (SetTable.freeIndex_free free) rfl fun _ => by
      show t.jobs[d.slot].state ≠ .free
      rw [jobs, opened]; simp
    have counted := (ended.trans allocated).trans (State.bump_keeps d.slot _ _ Counters.addOpened_bounded)
    have bound := (counted.trans (State.free_keeps _ _ _ _ _ _ _ _ _ _)).trans
      (State.bind_keeps d r { (t.allocate r (t.newRec d)).bump d.slot Counters.addOpened with
        binder := { ((t.allocate r (t.newRec d)).bump d.slot Counters.addOpened).binder with forming := some r } }
        (t.takesSheet_congr (by simp) (by simp) room))
    split
    · exact bound.trans (State.lastBound_keeps _ _ _)
    · exact bound

theorem SetRec.join_same (d : Descriptor) (x : SetRec) :
    (x.join d).slot = x.slot ∧ (x.join d).chosen = x.chosen ∧ (x.join d).height = x.height := by
  unfold SetRec.join
  simp only []
  split_ifs <;> exact ⟨rfl, rfl, rfl⟩

theorem State.extendSet_keeps (d : Descriptor) (s : State) (h : s.takesSheet) : s.Keeps (s.extendSet d) := by
  unfold State.extendSet
  split
  · exact s.looseOf_keeps _ _ h
  split
  · exact s.looseOf_keeps _ _ h
  rename_i r _ _ x used
  split
  · exact (s.endForming_keeps _).trans (State.looseOf_keeps _ _ _ (State.takesSheet_endForming _ h))
  split
  · exact (s.endForming_keeps _).trans (State.looseOf_keeps _ _ _ (State.takesSheet_endForming _ h))
  obtain ⟨slot, chosen, height⟩ := x.join_same d
  have joined : s.Keeps (s.setRec r (x.join d)) := State.setRec_keeps used _ slot fun b => by simp [heldIn, chosen, height]
  have bound := joined.trans (State.bind_keeps d r _ (s.takesSheet_congr (by simp) (by simp) h))
  simp only []
  split
  · exact bound.trans (State.lastBound_keeps _ _ _)
  · exact bound

theorem State.unopened_keeps (d : Descriptor) (s : State) (h : s.takesSheet) : s.Keeps (s.unopened d) := by
  unfold State.unopened
  split
  · exact s.enterPath_keeps _ _ _ _ h
  · exact s.looseOf_keeps _ _ h
  split
  · exact (s.endForming_keeps _).trans (State.looseOf_keeps _ _ _ (State.takesSheet_endForming _ h))
  · exact s.looseOf_keeps _ _ h

theorem State.classifyDescriptor_keeps (d : Descriptor) (s : State) (h : s.takesSheet) : s.Keeps (s.classifyDescriptor d) := by
  unfold State.classifyDescriptor
  refine State.Keeps.trans ?_ (State.completionTest_keeps _ _)
  split
  · exact s.unopened_keeps _ h
  rename_i opened
  split
  · exact s.openSet_keeps _ h (not_not.mp opened)
  · exact s.extendSet_keeps _ h

theorem State.classify_keeps (s : State) (h : s.takesSheet) : s.Keeps s.classify := by
  have room : s.takeHead.takesSheet := s.takesSheet_congr (by simp [State.takeHead, State.syncQueue]) (by simp [State.takeHead, State.syncQueue]) h
  have broken : (s.takeHead.breakForming .sheetMissing).takesSheet := by
    refine State.takesSheet_congr ?_ ?_ room <;> unfold State.breakForming <;> split <;> simp
  unfold State.classify
  split
  · refine State.Keeps.trans ?_ (State.makeOrphan_keeps _ _ _ (State.takesSheet_congr rfl rfl h))
    exact s.queue_keeps _ id Iff.rfl
  all_goals
    rename_i entries
    have taken := s.takeHead_keeps (by simp [entries])
  · exact (taken.trans (State.breakForming_keeps _ _)).trans (State.makeOrphan_keeps _ _ _ broken)
  · exact (taken.trans (State.breakForming_keeps _ _)).trans (State.makeOrphan_keeps _ _ _ broken)
  · exact taken.trans (State.classifyDescriptor_keeps _ _ room)

theorem State.s1Sheet_keeps (s : State) (op : s.run.op ≠ .starting) : s.Keeps s.s1Sheet := by
  unfold State.s1Sheet
  split
  · rename_i room
    exact s.classify_keeps ⟨room, op⟩
  · exact s.jam_keeps _ _ op

/-! ## Edges of the path sensors -/

/-- Entries changed under their names keep the path list. -/
theorem State.modEntry_keeps (i : EntryName) (f : PathEntry → PathEntry) (s : State) (name : ∀ e, (f e).id = e.id) :
    s.Keeps { s with path := s.path.modEntry i f } := by
  refine s.path_keeps _ rfl (fun a => ?_) fun _ a => ⟨by simp [PathMonitor.modEntry, a.1], a.2.1, a.2.2.1, a.2.2.2.1⟩
  have names : (s.path.modEntry i f).list.map PathEntry.id = s.path.list.map PathEntry.id := by
    simp only [PathMonitor.modEntry, List.map_map]
    refine List.map_congr_left fun e _ => ?_
    simp only [Function.comp]
    split
    · exact name e
    · rfl
  exact ⟨names ▸ a.1, by simpa [PathMonitor.modEntry] using a.2.1⟩

theorem State.lengthCheck_keeps (e : PathEntry) (a : AtS1) (s : State) : s.Keeps (s.lengthCheck e a) := by
  unfold State.lengthCheck
  split
  · simp only []
    have flagged := s.modEntry_keeps a.id (fun e => { e with mismatch := true }) fun _ => rfl
    split
    · exact flagged.trans (State.modRec_keeps _ _ _ fun x _ => x.markBroken_same _)
    · exact flagged
  · exact .refl s

theorem State.s1Clears_keeps (a : AtS1) (s : State) : s.Keeps (s.s1Clears a) := by
  have left : s.Keeps { s with path := { s.path with s1 := none } } :=
    s.path_keeps _ rfl (fun a => ⟨a.1, a.2.1⟩) fun _ a => ⟨a.1, rfl, a.2.2.1, a.2.2.2.1⟩
  unfold State.s1Clears
  simp only []
  split
  · exact left
  · refine State.Keeps.trans ?_ (State.leaveIfDone_keeps _ _)
    exact (left.trans (State.lengthCheck_keeps _ _ _)).trans (State.modEntry_keeps _ _ _ fun _ => rfl)

theorem State.sendToSC_keeps (e : PathEntry) (m : Media) (b : Bool) (s : State) : s.Keeps (s.sendToSC e m b) := by
  refine State.Keeps.trans (s.modEntry_keeps e.id (fun e =>
    { e with stage := .toSC, window := some ⟨s.now, s.path.lateLimit s.path.timing[5]⟩, released := b }) fun _ => rfl) ?_
  exact State.compiler_keeps _ _ Iff.rfl

/-- The entry buffer changed with BUFFER set to its condition (R53). -/
theorem State.KeepsBut.syncBuffer {s t : State} (h : s.KeepsBut [.reason .buffer] t) : s.Keeps t.syncBuffer :=
  State.KeepsBut.setReason h (by simp) fun _ _ _ => by simp [State.holds]

theorem State.sendToBuffer_keeps (e : PathEntry) (s : State) (op : s.run.op ≠ .starting) : s.Keeps (s.sendToBuffer e) := by
  unfold State.sendToBuffer
  split
  · exact s.jam_keeps _ _ op
  rename_i room
  have moved := s.modEntry_keeps e.id (fun e => { e with stage := .onBuffer, window := none }) fun _ => rfl
  have joined : s.Keeps ({ s with path :=
      { s.path.modEntry e.id (fun e => { e with stage := .onBuffer, window := none }) with buffer := s.path.buffer ++ [e.id] } } : State).syncBuffer := by
    refine State.KeepsBut.syncBuffer ((moved.but _).trans (State.path_keepsBut _ _ (fun a => ⟨a.1, a.2.1, ?_, a.2.2.2⟩) fun k => absurd k op) (by simp))
    simp only [List.length_append, List.length_singleton]
    omega
  simp only []
  split
  · exact joined.trans (State.bufferTest_keeps _)
  · exact joined

theorem State.s2Sheet_keeps (e : PathEntry) (r : Fin 8) (m : Media) (s : State) (op : s.run.op ≠ .starting) : s.Keeps (s.s2Sheet e r m) := by
  have at_ (x : Option AtS2) : s.Keeps { s with path := { s.path with s2 := x } } :=
    s.path_keeps _ rfl (fun a => ⟨a.1, a.2.1⟩) fun k => absurd k op
  unfold State.s2Sheet
  simp only []
  split
  · exact (at_ _).trans (State.sendToSC_keeps _ _ _ _)
  · exact (at_ _).trans (State.sendToBuffer_keeps _ _ op)

theorem State.sheetArrives_keeps (st : Stage) (x : Sensor) (s : State) (op : s.run.op ≠ .starting) : s.Keeps (s.sheetArrives st x) := by
  unfold State.sheetArrives
  split
  · exact s.jam_keeps _ _ op
  · exact (s.modEntry_keeps _ (fun e => { e with stage := .arrived, window := none }) fun _ => rfl).trans (State.leaveIfDone_keeps _ _)

theorem State.release_buffer_keeps (e : PathEntry) (m : Media) (s : State) :
    s.Keeps ({ s with path := { s.path with buffer := s.path.buffer.tail } }.sendToSC e m true).syncBuffer := by
  have left : s.KeepsBut [.reason .buffer] { s with path := { s.path with buffer := s.path.buffer.tail } } := by
    refine s.path_keepsBut _ (fun a => ⟨a.1, a.2.1, ?_, a.2.2.2⟩) fun _ a => ⟨a.1, a.2.1, a.2.2.1, a.2.2.2.1⟩
    have := a.2.2.1
    simp only [List.length_tail]
    omega
  exact State.KeepsBut.syncBuffer (left.trans ((State.sendToSC_keeps _ _ _ _).but _) (by simp))

theorem State.vacate_keeps (s : State) : s.Keeps s.vacate := by
  refine State.Keeps.trans ?_ (State.setCompiler_keeps _ (by simp) _)
  exact s.compiler_keeps _ Iff.rfl

theorem State.setTravels_keeps {r : Fin 8} {x : SetRec} {s : State} (used : s.getRec r = some x) : s.Keeps (s.setTravels r x) := by
  unfold State.setTravels
  refine State.Keeps.trans (State.setRec_keeps used { x with state := .onBelt, place := .list } rfl fun _ => rfl) ?_
  refine State.delivery_keeps _ _ (fun a => ?_) (fun _ a => ?_) Iff.rfl
  · simpa [Delivery.travels, Delivery.setG0] using a
  · simpa [Delivery.travels, Delivery.setG0] using a

theorem State.setShelved_keeps {r : Fin 8} {x : SetRec} {s : State} (used : s.getRec r = some x) : s.Keeps (s.setShelved r x) := by
  have set := State.setRec_keeps used { x with state := if x.chosen.isNone then .held else .readyToEject, place := .shelf } rfl fun _ => rfl
  unfold State.setShelved
  simp only []
  generalize x.chosen.isNone = held at set ⊢
  refine State.KeepsBut.recombine ?_
  have shelved {t : State} (k : s.Keeps t) (timer : Timer) (hold : Option (Fin 8)) : s.KeepsBut [.governor] { t with
      delivery := { t.delivery with shelf := .occupied, holdTimer := timer, compilerHold := hold } } :=
    State.KeepsBut.trans (k.but _) (State.delivery_keepsBut _ _ id fun _ => id) (by simp)
  cases held
  · exact shelved set _ _
  · exact (shelved set _ _).trans ((State.notify_keeps _ _ _).but _) (by simp)

theorem State.setAtSE_keeps (w : SEWatch) (s : State) (op : s.run.op ≠ .starting) : s.Keeps (s.setAtSE w) := by
  have watched (p : PathMonitor) (list : p.list = s.path.list) (buffer : p.buffer = s.path.buffer) : s.Keeps ({ s with path := p } : State).vacate := by
    refine State.Keeps.trans ?_ (State.vacate_keeps _)
    exact s.path_keeps _ buffer (fun a => by rw [list]; exact ⟨a.1, a.2.1⟩) fun k => absurd k op
  unfold State.setAtSE
  simp only []
  have taken := watched { s.path with
    firstLen := none
    se := some { w with edgeTaken := true, window := none, stall := some ⟨s.now, s.path.stallLimit w.len⟩ } } rfl rfl
  split
  · exact taken
  · rename_i x used
    split
    · exact taken.trans (State.setTravels_keeps used)
    · exact taken.trans (State.setShelved_keeps used)

theorem State.seClears_keeps (s : State) : s.Keeps ({ s with
    path := { s.path with se := none }, compiler := { s.compiler with ejectDrive := false } } : State).bufferTest := by
  refine State.Keeps.trans ?_ (State.bufferTest_keeps _)
  refine State.Keeps.trans (s.path_keeps { s.path with se := none } rfl (fun a => ⟨a.1, a.2.1⟩)
    fun _ a => ⟨a.1, a.2.1, a.2.2.1, rfl⟩) ?_
  exact State.compiler_keeps _ _ Iff.rfl

end Sys2Proof.Machine

namespace Sys2Proof.Machine

/-! ## Timers -/

/-- A change of the operating state in a part whose timers are not sound has no reason to keep. -/
theorem State.run_keeps_of_unsound (s : State) (c : RunController) (bad : ¬ s.timersSound) : s.Keeps { s with run := c } :=
  { s.run_keepsBut c with
    reserved := fun _ => id, timers := fun _ a => absurd a bad, reasons := fun _ _ _ _ a => absurd a bad, agrees := fun _ _ a => a
    limited := fun _ => id }

theorem PathMonitor.windowAt_some {p : PathMonitor} {st : Stage} {w : Window} (h : p.windowAt st = some w) : p.list ≠ [] := by
  intro empty
  simp [PathMonitor.windowAt, empty] at h

theorem State.lateWindow_moves {s : State} {w : PathWindow} {x : Window} (h : s.path.lateWindow w = some x) : ¬ s.nothingMoves := by
  rintro ⟨list, -, -, se, -⟩
  cases w with
  | se => simp [PathMonitor.lateWindow, se] at h
  | s2 | sc | sr => exact PathMonitor.windowAt_some h list

theorem State.deliveryWindow_moves {s : State} {t : Target} {x : Window} (h : s.delivery.lateWindow t = some x) : ¬ s.nothingMoves := by
  rintro ⟨-, -, -, -, list⟩
  simp [Delivery.lateWindow, Delivery.expecting, list] at h

theorem State.stall_moves {s : State} {w : StallSensor} {x : Window} (h : s.path.stall w = some x) : ¬ s.nothingMoves := by
  rintro ⟨-, s1, s2, se, -⟩
  cases w <;> simp [PathMonitor.stall, s1, s2, se] at h

theorem State.stallExpires_keeps (w : StallSensor) (s : State) (moves : ¬ s.nothingMoves) : s.Keeps (s.stallExpires w) := by
  unfold State.stallExpires
  split
  · exact s.jam_moving_keeps _ _ moves
  · refine s.path_keeps _ ?_ (fun a => ?_) fun _ a => absurd a moves
    · cases w <;> rfl
    · cases w <;> exact ⟨a.1, a.2.1⟩

theorem State.spinUpEnds_keeps (s : State) : s.Keeps ({ s with run := { s.run with spinUp := none } }.drop .spinUp) := by
  refine State.KeepsBut.drop (s.op_keepsBut _ [.reason .spinUp] (fun r m => ?_) fun a => a) (by simp) fun _ _ _ m => m rfl
  simp only [List.mem_cons, List.not_mem_nil, or_false] at m
  obtain rfl | rfl | rfl | rfl | rfl := m <;> simp [State.holds]

theorem State.idleExpires_keeps (s : State) (op : s.run.op = .running) : s.Keeps s.enterReady :=
  s.enterReady_keepsBut [] (fun r m => by
    simp only [List.mem_cons, List.not_mem_nil, or_false] at m
    obtain rfl | rfl | rfl | rfl := m <;> simp [State.holds, op]) fun w => by rw [op] at w; cases w

theorem State.standbyExpires_keeps (s : State) (runs : s.run.standby ≠ none) : s.Keeps s.enterStandby := by
  by_cases op : s.run.op = .ready
  · exact s.enterStandby_keeps op
  · exact s.run_keeps_of_unsound _ fun a => op (a.1 runs)

theorem State.wakeEnds_keeps (s : State) (runs : s.run.wake ≠ none) : s.Keeps s.wakeEnds := by
  have entered (t : State) (k : s.KeepsBut [.reason .wake] t) (n : t.run.op ≠ .waking) : s.Keeps (t.drop .wake) :=
    State.KeepsBut.drop k (by simp) fun _ _ _ => n
  by_cases op : s.run.op = .waking
  · have stopped : s.KeepsBut [.reason .wake] { s with run := { s.run with wake := none } } := by
      refine (State.Keeps.but (s.run_keeps { s.run with wake := none } rfl rfl fun a => ⟨a.1, fun n => absurd rfl n⟩) _)
    have from_ : ∀ r ∈ [Reason.starting, .wake, .paused, .jam], (Part.reason r ∈ [Part.reason .wake]) ∨
        ¬ State.holds { s with run := { s.run with wake := none } } r := fun r m => by
      simp only [List.mem_cons, List.not_mem_nil, or_false] at m
      obtain rfl | rfl | rfl | rfl := m <;> simp [State.holds, op]
    unfold State.wakeEnds
    simp only []
    split
    · exact entered _ (stopped.trans (State.enterReady_keepsBut _ _ from_ fun _ => rfl) (by simp)) (by simp [State.enterReady])
    · exact entered _ (stopped.trans (State.enterRunning_keepsBut _ _ from_ fun _ => rfl) (by simp)) (by simp [State.enterRunning, State.raise])
  · have bad : ¬ s.timersSound := fun a => op (a.2.1 runs)
    unfold State.wakeEnds
    simp only []
    split
    · exact entered _ ((s.run_keeps_of_unsound _ bad).but _) (by simp [State.enterReady])
    · refine entered _ ?_ (by simp [State.enterRunning, State.raise])
      refine State.KeepsBut.raise ((s.run_keeps_of_unsound _ bad).but _) (by simp) fun _ _ a => absurd a bad

/-! ## Bin sensors -/

/-- A bin whose sensors alone are changed, in a tower that is present. -/
theorem State.modBin_sensor_keeps (b : Fin 41) (f : Bin → Bin) (s : State) (alike : (f s.bins[b]).alike s.bins[b])
    (reserved : (f s.bins[b]).reserved = s.bins[b].reserved) (present : ∀ k, towerOf b = some k → s.chain.towers[k].present = true) :
    s.Keeps (s.modBin b f) := by
  refine State.KeepsBut.reservedSame (s.alike_keepsBut _ (fun c => ?_) (s.modBin_chainSound b f (.inr present))) (fun c => ?_) rfl
  · show ((s.modBin b f).bins[c]).alike s.bins[c]
    rw [State.modBin_bins]
    split
    · rename_i e; subst e; exact alike
    · exact Bin.alike_refl _
  · show (s.modBin b f).bins[c].reserved = _
    rw [State.modBin_bins]
    split
    · rename_i e; subst e; exact reserved
    · rfl

theorem State.binEmptied_keeps (b : Fin 41) (s : State) : s.Keeps (s.binEmptied b) := by
  unfold State.binEmptied
  simp only []
  refine State.Keeps.trans ?_ (State.binEvent_keeps _ _)
  refine State.Keeps.trans ?_ (State.cursorReturn_keeps _ _)
  exact (s.notify_keeps _ _).trans (State.updateBin_keeps _ _ _ rfl (fun _ k => ⟨Nat.zero_le _, k⟩) (.inl ⟨rfl, rfl⟩))

/-- The bin's tower, if it has one, is present. -/
def State.sees (b : Fin 41) (s : State) : Prop := ∀ k, towerOf b = some k → s.chain.towers[k].present = true

theorem State.presentQualified_keeps (b : Fin 41) (v : Bool) (s : State) (sees : s.sees b) : s.Keeps (s.presentQualified b v) := by
  have set := (s.modBin_sensor_keeps b (fun x => { x with present := .qualified v }) (Bin.alike_refl _) rfl sees).trans
    (State.pins_keeps { s.pins with bin0Present := if b = 0 then v else s.pins.bin0Present } _)
  unfold State.presentQualified
  simp only []
  split
  · exact set.trans (State.binEmptied_keeps _ _)
  · exact set

theorem State.fullQualified_keeps (b : Fin 41) (v : Bool) (s : State) (sees : s.sees b) : s.Keeps (s.fullQualified b v) := by
  have set := (s.updateBin_keeps b (Bin.fullQualified v) rfl (fun fill capacity => ⟨by
    simp only [Bin.fullQualified, Bin.rereferenced]
    split_ifs <;> omega, capacity⟩) (.inr sees)).trans
    (State.pins_keeps { s.pins with bin0Full := if b = 0 then v else s.pins.bin0Full } _)
  have same : (s.updateBin b (Bin.fullQualified v)).pins = s.pins := by simp
  unfold State.fullQualified
  simp only [same]
  split
  · exact (set.trans (State.cursorReturn_keeps _ _)).trans (State.binEvent_keeps _ _)
  · exact set

theorem State.wakeEvent_keeps (t : Fin 4) (s : State) : s.Keeps (s.wakeEvent t) := by
  unfold State.wakeEvent
  split
  · rename_i h
    simp only [Bool.and_eq_true, decide_eq_true_eq] at h
    exact s.enterWaking_keeps h.1
  · exact .refl s

theorem State.wakeByBin_keeps (b : Fin 41) (s : State) : s.Keeps (s.wakeByBin b) := by
  unfold State.wakeByBin
  split
  · exact s.wakeEvent_keeps _
  · exact .refl s

theorem State.sampled_sees {b : Fin 41} {s : State} (h : s.sampled b = true) : s.sees b := by
  intro k lies
  simp only [State.sampled, lies, Bool.and_eq_true, State.polled] at h
  exact h.1.1

theorem State.rejectNearChange_keeps (v : Bool) (s : State) : s.Keeps ({ s with
    rejectNear := .qualified v, pins := { s.pins with rejectNear := v } } : State).recombine :=
  State.KeepsBut.recombine ((s.rejectNear_keepsBut (.qualified v)).trans ((State.pins_keeps _ _).but _) (by simp))

theorem State.rejectFullChange_keeps (v : Bool) (s : State) : s.Keeps (({ s with
    rejectFull := .qualified v, pins := { s.pins with rejectFull := v } } : State).setReason .rejectFull v) :=
  State.KeepsBut.setReason ((s.rejectFull_keepsBut (.qualified v)).trans ((State.pins_keeps _ _).but _) (by simp)) (by simp)
    fun _ _ _ => by simp [State.holds, Qual.qualified]

end Sys2Proof.Machine

namespace Sys2Proof.Machine

/-! ## Towers -/

theorem State.modTower_tower (t k : Fin 4) (f : Tower → Tower) (s : State) :
    (s.modTower t f).chain.towers[k] = if k = t then f s.chain.towers[t] else s.chain.towers[k] := by
  by_cases h : k = t
  · subst h; simp [State.modTower]
  · have : t.val ≠ k.val := fun e => h (Fin.ext e.symm)
    simp [State.modTower, this, h]

/-- A tower changed in nothing that its state is derived from, its inputs' run counts only where it is present. -/
theorem State.modTower_keeps (t : Fin 4) (f : Tower → Tower) (s : State)
    (same : (f s.chain.towers[t]).present = s.chain.towers[t].present ∧ (f s.chain.towers[t]).power.state = s.chain.towers[t].power.state ∧
      (f s.chain.towers[t]).door.state = s.chain.towers[t].door.state)
    (absent : s.chain.towers[t].present = false → (f s.chain.towers[t]).power = s.chain.towers[t].power ∧
      (f s.chain.towers[t]).door = s.chain.towers[t].door) : s.Keeps (s.modTower t f) := by
  refine s.chain_alike_keeps _ (fun k => ?_) fun k gone => ?_
  all_goals
    have tower := s.modTower_tower t k f
    simp only [State.modTower] at tower
    rw [tower]
    split
  · rename_i e; subst e; exact same
  · exact ⟨rfl, rfl, rfl⟩
  · rename_i e; subst e; exact absent gone
  · exact ⟨rfl, rfl⟩

theorem State.towerNotice_keeps (t : Fin 4) (c : Cause) (s : State) : s.Keeps (s.towerNotice t c) := s.notify_keeps _ _

/-- The bins of a changed tower, with what its state was before, restore the governor (R103, R152). -/
theorem State.KeepsBut.towerChanged {s t : State} (h : s.KeepsBut [.governor, .reason .overflowFull] t) (k : Fin 4) (was : State) :
    s.Keeps (t.towerChanged k was) := by
  have derived : s.Keeps (t.binsChanged was (binsOf k)) := State.KeepsBut.binsChanged h (by simp) was _
  unfold State.towerChanged
  simp only []
  split
  · exact derived.trans (State.Keeps.foldl _ State.binEvent_keeps _ _)
  · exact derived

theorem State.towerJam_keeps (t : Fin 4) (k : JamKind) (s : State) : s.Keeps (s.towerJam t k) := by
  unfold State.towerJam
  split
  · rename_i held
    refine s.jam_moving_keeps _ _ ?_
    rintro ⟨-, -, -, -, list⟩
    simp [State.listHolds, list] at held
  · exact .refl s

/-- A present tower changed, its place in the chain kept. -/
theorem State.modTower_keepsBut (t : Fin 4) (f : Tower → Tower) (s : State) (present : s.chain.towers[t].present = true)
    (same : (f s.chain.towers[t]).present = true) : s.KeepsBut [.governor] (s.modTower t f) := by
  refine s.chain_keepsBut _ fun a k gone => ?_
  have gone' : (s.modTower t f).chain.towers[k].present = false := gone
  have tower := s.modTower_tower t k f
  by_cases e : k = t
  · subst e
    rw [tower, if_pos rfl, same] at gone'
    cases gone'
  · rw [if_neg e] at tower
    rw [tower] at gone'
    obtain ⟨power, door, bins⟩ := a k gone'
    exact ⟨(congrArg Tower.power tower).trans power, (congrArg Tower.door tower).trans door, bins⟩

theorem State.inputQualified_keeps (t : Fin 4) (i : TowerInput) (v : Bool) (s : State) (present : s.chain.towers[t].present = true) :
    s.Keeps (s.inputQualified t i v) := by
  have set := s.modTower_keepsBut t (Tower.setInput i (.qualified v)) present (by cases i <;> exact present)
  have noticed (c : Bool) : s.KeepsBut [.governor] (if c then (s.modTower t (Tower.setInput i (.qualified v))).towerNotice t (inputCause i v)
      else s.modTower t (Tower.setInput i (.qualified v))) := by
    split
    · exact set.trans ((State.towerNotice_keeps _ _ _).but _) (by simp)
    · exact set
  unfold State.inputQualified
  refine State.Keeps.trans ?_ (State.wakeEvent_keeps _ _)
  have changed := State.KeepsBut.towerChanged ((noticed (decide ((s.modTower t (Tower.setInput i (.qualified v))).chain.towers[t].state ≠
    s.chain.towers[t].state))).mono (by simp)) t s
  simp only [decide_eq_true_eq] at changed
  split
  · exact changed
  · exact changed.trans (State.towerJam_keeps _ _ _)

/-! ## Samples -/

/-- A sample that qualifies nothing leaves what an input is qualified as (R109). -/
theorem Qual.sample_state {n : Nat} {v : Bool} {q : Qual} (h : (q.sample n v).2 = false) : (q.sample n v).1.state = q.state := by
  unfold Qual.sample at h ⊢
  simp only [] at h ⊢
  split_ifs at h ⊢ <;> rfl

theorem Qual.counted_state (n : Nat) (v : Bool) (q : Qual) : (q.counted n v).state = q.state := by
  unfold Qual.counted Qual.qualifies
  split
  · rfl
  · rename_i h
    exact Qual.sample_state (by simpa using h)

theorem State.sampleInput_keeps (t : Fin 4) (i : TowerInput) (v : Bool) (s : State) (present : s.chain.towers[t].present = true) :
    s.Keeps (s.sampleInput t i v) := by
  unfold State.sampleInput
  simp only []
  split
  · exact s.inputQualified_keeps t i v present
  · rename_i same
    have state := Qual.sample_state (by simpa using same)
    refine s.modTower_keeps t _ ?_ fun gone => by rw [present] at gone; cases gone
    cases i
    · exact ⟨rfl, state, rfl⟩
    · exact ⟨rfl, rfl, state⟩

theorem State.samplePresent_keeps (b : Fin 41) (v : Bool) (s : State) (sees : s.sees b) : s.Keeps (s.samplePresent b v) := by
  unfold State.samplePresent
  simp only []
  split
  · exact (s.presentQualified_keeps b v sees).trans (State.wakeByBin_keeps _ _)
  · exact s.modBin_sensor_keeps b _ (Bin.alike_refl _) rfl sees

theorem State.sampleFull_keeps (b : Fin 41) (v : Bool) (s : State) (sees : s.sees b) : s.Keeps (s.sampleFull b v) := by
  unfold State.sampleFull
  simp only []
  split
  · exact (s.fullQualified_keeps b v sees).trans (State.wakeByBin_keeps _ _)
  · rename_i same
    exact s.modBin_sensor_keeps b _ ⟨rfl, rfl, rfl, rfl, Qual.sample_state (by simpa using same)⟩ rfl sees

theorem State.wakeEvent_chain (t : Fin 4) (s : State) : (s.wakeEvent t).chain = s.chain := by
  unfold State.wakeEvent
  split <;> simp

theorem State.wakeByBin_chain (b : Fin 41) (s : State) : (s.wakeByBin b).chain = s.chain := by
  unfold State.wakeByBin
  split
  · exact s.wakeEvent_chain _
  · rfl

theorem State.presentQualified_chain (b : Fin 41) (v : Bool) (s : State) : (s.presentQualified b v).chain = s.chain := by
  unfold State.presentQualified State.binEmptied
  simp only []
  split <;> simp

theorem State.fullQualified_chain (b : Fin 41) (v : Bool) (s : State) : (s.fullQualified b v).chain = s.chain := by
  unfold State.fullQualified
  simp only []
  split <;> simp

theorem State.samplePresent_chain (b : Fin 41) (v : Bool) (s : State) : (s.samplePresent b v).chain = s.chain := by
  unfold State.samplePresent
  simp only []
  split
  · rw [State.wakeByBin_chain, State.presentQualified_chain]
  · simp

theorem State.sampleFull_chain (b : Fin 41) (v : Bool) (s : State) : (s.sampleFull b v).chain = s.chain := by
  unfold State.sampleFull
  simp only []
  split
  · rw [State.wakeByBin_chain, State.fullQualified_chain]
  · simp

theorem towerOf_binAt (t : Fin 4) (i : Fin 10) : towerOf (binAt t i) = some t := by
  have some_ : (binAt t i).val ≠ 0 := by simp [binAt]
  have tower : ((binAt t i).val - 1) / 10 = t.val := by simp only [binAt]; omega
  simp [towerOf, some_, tower]

theorem State.sees_binAt {t : Fin 4} {s : State} (present : s.chain.towers[t].present = true) (i : Fin 10) : s.sees (binAt t i) := by
  intro k lies
  rw [towerOf_binAt] at lies
  cases lies
  exact present

theorem State.sampleBin_keeps (t : Fin 4) (reply : PollReply) (s : State) (i : Fin 10) (present : s.chain.towers[t].present = true) :
    s.Keeps (s.sampleBin t reply i) := by
  have sees := State.sees_binAt present i
  unfold State.sampleBin
  simp only []
  split
  · refine (s.sampleFull_keeps _ _ sees).trans (State.samplePresent_keeps _ _ _ ?_)
    rw [State.sees, State.sampleFull_chain]; exact sees
  · refine (s.samplePresent_keeps _ _ sees).trans (State.sampleFull_keeps _ _ _ ?_)
    rw [State.sees, State.samplePresent_chain]; exact sees

theorem State.sampleBin_chain (t : Fin 4) (reply : PollReply) (s : State) (i : Fin 10) : (s.sampleBin t reply i).chain = s.chain := by
  unfold State.sampleBin
  simp only []
  split
  · rw [State.samplePresent_chain, State.sampleFull_chain]
  · rw [State.sampleFull_chain, State.samplePresent_chain]

theorem State.sampleBins_keeps (t : Fin 4) (reply : PollReply) (l : List (Fin 10)) (s : State) (present : s.chain.towers[t].present = true) :
    s.Keeps (l.foldl (State.sampleBin t reply) s) ∧ (l.foldl (State.sampleBin t reply) s).chain = s.chain := by
  induction l generalizing s with
  | nil => exact ⟨.refl s, rfl⟩
  | cons i l ih =>
    have chain := s.sampleBin_chain t reply i
    obtain ⟨keeps, same⟩ := ih (s.sampleBin t reply i) (by rw [chain]; exact present)
    exact ⟨(s.sampleBin_keeps t reply i present).trans keeps, same.trans chain⟩

theorem State.towerChanged_chain (t : Fin 4) (s was : State) : (s.towerChanged t was).chain = s.chain := by
  unfold State.towerChanged
  simp only []
  split <;> simp

theorem State.towerJam_chain (t : Fin 4) (k : JamKind) (s : State) : (s.towerJam t k).chain = s.chain := by
  unfold State.towerJam
  split <;> simp

theorem State.inputQualified_tower (t : Fin 4) (i : TowerInput) (v : Bool) (s : State) :
    (s.inputQualified t i v).chain = (s.modTower t (Tower.setInput i (.qualified v))).chain := by
  have noticed : (if (s.modTower t (Tower.setInput i (.qualified v))).chain.towers[t].state ≠ s.chain.towers[t].state then
      (s.modTower t (Tower.setInput i (.qualified v))).towerNotice t (inputCause i v)
      else s.modTower t (Tower.setInput i (.qualified v))).chain = (s.modTower t (Tower.setInput i (.qualified v))).chain := by
    split <;> simp [State.towerNotice]
  unfold State.inputQualified
  simp only []
  rw [State.wakeEvent_chain]
  cases v
  · exact (State.towerJam_chain _ _ _).trans ((State.towerChanged_chain _ _ _).trans noticed)
  · exact (State.towerChanged_chain _ _ _).trans noticed

theorem State.sampleInput_present (t : Fin 4) (i : TowerInput) (v : Bool) (s : State) (present : s.chain.towers[t].present = true) :
    (s.sampleInput t i v).chain.towers[t].present = true := by
  have set (q : Qual) : (s.modTower t (Tower.setInput i q)).chain.towers[t].present = true := by
    rw [State.modTower_tower, if_pos rfl]
    cases i <;> exact present
  have chain : ∃ q, (s.sampleInput t i v).chain = (s.modTower t (Tower.setInput i q)).chain := by
    unfold State.sampleInput
    simp only []
    split
    · exact ⟨_, s.inputQualified_tower t i v⟩
    · exact ⟨_, rfl⟩
  obtain ⟨q, e⟩ := chain
  rw [e]
  exact set q

theorem State.takeSamples_keeps (t : Fin 4) (reply : PollReply) (s : State) (present : s.chain.towers[t].present = true) :
    s.Keeps (s.takeSamples t reply) := by
  have inputs (u : State) (k : s.Keeps u) (p : u.chain.towers[t].present = true) : s.Keeps (if reply.doorFirst then
      (u.sampleInput t .door reply.doorClosed).sampleInput t .power reply.powerOn
      else (u.sampleInput t .power reply.powerOn).sampleInput t .door reply.doorClosed) := by
    split
    · exact (k.trans (State.sampleInput_keeps _ _ _ _ p)).trans (State.sampleInput_keeps _ _ _ _ (State.sampleInput_present _ _ _ _ p))
    · exact (k.trans (State.sampleInput_keeps _ _ _ _ p)).trans (State.sampleInput_keeps _ _ _ _ (State.sampleInput_present _ _ _ _ p))
  unfold State.takeSamples
  simp only []
  by_cases off : s.chain.towers[t].state = .unpowered
  · simp only [off, if_true]
    exact inputs s (.refl s) present
  · simp only [off, if_false]
    obtain ⟨keeps, chain⟩ := s.sampleBins_keeps t reply (List.finRange 10) present
    exact inputs _ keeps (by rw [chain]; exact present)

theorem State.takeArrivals_keeps (t : Fin 4) (reply : PollReply) (s : State) : s.Keeps (s.takeArrivals t reply) := by
  unfold State.takeArrivals
  exact State.Keeps.trans (s.modTower_keeps t _ ⟨rfl, rfl, rfl⟩ fun _ => ⟨rfl, rfl⟩) (State.Keeps.foldl _ (fun u _ => u.arrive_keeps _) _ _)

theorem State.foldl_arrive_chain (t : Target) (l : List Nat) (s : State) : (l.foldl (fun s _ => s.arrive t) s).chain = s.chain := by
  induction l generalizing s with
  | nil => rfl
  | cons a l ih => exact (ih _).trans (by simp)

theorem State.takeArrivals_present (t : Fin 4) (reply : PollReply) (s : State) (present : s.chain.towers[t].present = true) :
    (s.takeArrivals t reply).chain.towers[t].present = true := by
  unfold State.takeArrivals
  rw [State.foldl_arrive_chain, State.modTower_tower, if_pos rfl]
  exact present

theorem State.goodReply_keeps (t : Fin 4) (reply : PollReply) (s : State) (present : s.chain.towers[t].present = true) :
    s.Keeps (s.goodReply t reply) := by
  have answered : s.Keeps (s.modTower t fun x => { x with missed := 0, lastGood := true, answered := true }) :=
    s.modTower_keeps t _ ⟨rfl, rfl, rfl⟩ fun _ => ⟨rfl, rfl⟩
  have present' : (s.modTower t fun x => { x with missed := 0, lastGood := true, answered := true }).chain.towers[t].present = true := by
    rw [State.modTower_tower, if_pos rfl]; exact present
  unfold State.goodReply
  simp only []
  split
  · exact (answered.trans (State.takeArrivals_keeps _ _ _)).trans (State.takeSamples_keeps _ _ _ (State.takeArrivals_present _ _ _ present'))
  · exact (answered.trans (State.takeSamples_keeps _ _ _ present')).trans (State.takeArrivals_keeps _ _ _)

theorem State.loseTower_keeps (t : Fin 4) (s : State) : s.Keeps (s.loseTower t) := by
  have towers (k : Fin 4) : (s.chain.towers.set t s.chain.towers[t].unqualify)[k] =
      if k = t then s.chain.towers[t].unqualify else s.chain.towers[k] := by
    have := s.modTower_tower t k Tower.unqualify
    simpa only [State.modTower] using this
  have bins (c : Fin 41) : (Vector.ofFn fun b : Fin 41 => if towerOf b = some t then s.bins[b].unqualify else s.bins[b])[c] =
      if towerOf c = some t then s.bins[c].unqualify else s.bins[c] := by simp
  have lost : s.KeepsBut [.governor, .reason .overflowFull] { s with
      chain := { s.chain with towers := s.chain.towers.set t s.chain.towers[t].unqualify }
      bins := Vector.ofFn fun b : Fin 41 => if towerOf b = some t then s.bins[b].unqualify else s.bins[b] } := by
    have part := (s.bins_keepsBut (Vector.ofFn fun b : Fin 41 => if towerOf b = some t then s.bins[b].unqualify else s.bins[b])
      (fun a c => by rw [bins]; split <;> exact a.1 c) fun a k absent => by
        obtain ⟨power, door, clear⟩ := a k absent
        refine ⟨power, door, fun c lies => ?_⟩
        rw [bins]
        split
        · exact ⟨rfl, rfl⟩
        · exact clear c lies).trans ((State.chain_keepsBut _ { s.chain with towers := s.chain.towers.set t s.chain.towers[t].unqualify }
      fun a k gone => by
        have gone' : (s.chain.towers.set t s.chain.towers[t].unqualify)[k].present = false := gone
        rw [towers] at gone'
        by_cases e : k = t
        · subst e
          refine ⟨by rw [towers, if_pos rfl]; rfl, by rw [towers, if_pos rfl]; rfl, fun c lies => ?_⟩
          rw [bins, if_pos lies]
          exact ⟨rfl, rfl⟩
        · rw [if_neg e] at gone'
          obtain ⟨power, door, clear⟩ := a k gone'
          exact ⟨by rw [towers, if_neg e]; exact power, by rw [towers, if_neg e]; exact door, clear⟩).mono (by simp)) (by simp)
    refine (part.mono (Y := [.reserved, .governor, .reason .overflowFull]) (by simp)).reservedSame (fun c => ?_) rfl
    rw [bins]
    split <;> rfl
  exact State.Keeps.trans (State.KeepsBut.towerChanged (lost.trans ((State.towerNotice_keeps _ _ _).but _) (by simp)) t s)
    (State.towerJam_keeps _ _ _)

/-! ## The tick -/

theorem State.rejectNear_keeps (s : State) (q : Qual) (h : q.state = s.rejectNear.state) : s.Keeps { s with rejectNear := q } := by
  have part := s.rejectNear_keepsBut q
  refine { part with reserved := fun _ => part.reserved (by simp), timers := fun _ => part.timers (by simp),
                     reasons := fun r _ => part.reasons r (by simp), agrees := fun _ _ a => ?_, limited := fun _ => part.limited (by simp) }
  refine (State.agrees_congr (s := s) (t := { s with rejectNear := q }) rfl fun i => ?_).mpr a
  match i with
  | 1 => show q.state = _ ↔ _; rw [h]; exact Iff.rfl
  | 0 | 2 | 3 | 4 | 5 => exact Iff.rfl

theorem State.rejectFull_keeps (s : State) (q : Qual) (h : q.state = s.rejectFull.state) : s.Keeps { s with rejectFull := q } := by
  have part := s.rejectFull_keepsBut q
  refine { part with reserved := fun _ => part.reserved (by simp), timers := fun _ => part.timers (by simp),
                     reasons := fun r _ a b c d => ?_, agrees := fun _ => part.agrees (by simp), limited := fun _ => part.limited (by simp) }
  by_cases e : r = .rejectFull
  · subst e; show _ ↔ q.state = _; rw [h]; exact d
  · exact part.reasons r (by simp [e]) a b c d

theorem State.takeSample_keeps (s : State) : s.Keeps s.takeSample := by
  have bin := s.modBin_sensor_keeps 0 (fun b => { b with
      present := b.present.counted s.qualCount s.pins.bin0Present, full := b.full.counted s.qualCount s.pins.bin0Full })
    ⟨rfl, rfl, rfl, rfl, Qual.counted_state _ _ _⟩ rfl (by simp [towerOf])
  have near := bin.trans (State.rejectNear_keeps _ (s.rejectNear.counted s.qualCount s.pins.rejectNear) (Qual.counted_state _ _ _))
  have full := near.trans (State.rejectFull_keeps _ (s.rejectFull.counted s.qualCount s.pins.rejectFull) (Qual.counted_state _ _ _))
  have stapler := full.trans (State.stapler_keeps _ { s.stapler with
    cartridge := s.stapler.cartridge.counted s.qualCount s.pins.cartridge
    emptySensor := s.stapler.emptySensor.counted s.qualCount s.pins.emptySensor } rfl rfl)
  unfold State.takeSample
  simp only []
  split
  · exact stapler.trans (State.free_keeps _ s.now s.pending s.draws s.pins s.media s.binder s.routes s.qualCount s.now)
  · exact .refl s

theorem State.makePolls_keeps (s : State) : s.Keeps s.makePolls := by
  refine s.chain_keeps _ fun k => ?_
  simp only [Fin.getElem_fin, Vector.getElem_ofFn, State.pollTower]
  split <;> exact ⟨rfl, rfl, rfl⟩

theorem State.tick_keeps (s : State) : s.Keeps s.tick := by
  unfold State.tick
  refine State.Keeps.trans ?_ (State.free_keeps _ _ _ _ _ _ _ _ _ _)
  split
  · exact .refl s
  · exact s.takeSample_keeps.trans (State.makePolls_keeps _)

end Sys2Proof.Machine

namespace Sys2Proof.Machine

/-! ## Commands -/

/-- A command that acts on a live part alone, and keeps its soundness. -/
def State.keptIn (s : State) (o : Host.Outcome State Fault Refusal) : Prop := ∃ f : State → State, o = s.does f ∧ s.Keeps (f s)

abbrev State.keptBy (s : State) (i : Instr) : Prop := s.keptIn (exec i s)

/-- A command that an accepted frame carries. -/
theorem State.keptBy_record {s : State} {i : Instr} (f : State → State) (h : exec i s = s.does fun s => f s.frameTaken)
    (keeps : ∀ s : State, s.Keeps (f s)) : s.keptBy i := ⟨_, h, s.frameTaken_keeps.trans (keeps _)⟩

theorem State.keptBy_enumerationReply (s : State) : s.keptBy .enumerationReply := by
  show s.keptIn (execEnumerationReply s)
  unfold execEnumerationReply
  refine ⟨_, rfl, ?_⟩
  split
  · exact .refl s
  · rename_i e _
    split
    · exact (s.answers_keeps e.tower).trans (State.chain_keeps _ _ fun _ => ⟨rfl, rfl, rfl⟩)
    · exact (s.answers_keeps e.tower).trans (State.enumerationEnds_keeps _ _)

theorem State.keptBy_enumerationSlotTimeout (s : State) : s.keptBy .enumerationSlotTimeout := by
  show s.keptIn (execEnumerationSlotTimeout s)
  unfold execEnumerationSlotTimeout
  refine ⟨_, rfl, ?_⟩
  split
  · exact .refl s
  · exact (s.reach_keeps _).trans (State.enumerationEnds_keeps _ _)

theorem State.keptBy_startupComplete (s : State) : s.keptBy .startupComplete := by
  show s.keptIn (execStartupComplete s)
  unfold execStartupComplete
  refine ⟨_, rfl, ?_⟩
  split
  · rename_i done
    simp only [State.startupDone, Bool.and_eq_true, decide_eq_true_eq, and_assoc] at done
    exact s.startingEnds_keeps done.1
  · exact .refl s

theorem State.keptBy_startupTimerExpiry (s : State) : s.keptBy .startupTimerExpiry := by
  show s.keptIn (execStartupTimerExpiry s)
  unfold execStartupTimerExpiry
  refine ⟨_, rfl, ?_⟩
  split
  · split
    · rename_i op
      exact (s.reach_keeps _).trans (State.startingEnds_keeps _ op)
    · exact .refl s
  · exact .refl s

theorem State.keptBy_interByteTimeout (s : State) : s.keptBy .interByteTimeout := by
  show s.keptIn (execInterByteTimeout s)
  unfold execInterByteTimeout
  refine ⟨_, rfl, ?_⟩
  split
  · exact (s.reach_keeps _).trans (State.frameError_keeps _ _)
  · exact .refl s

theorem State.keptBy_transmitBegin (s : State) : s.keptBy .transmitBegin := by
  show s.keptIn (execTransmitBegin s)
  unfold execTransmitBegin
  refine ⟨_, rfl, ?_⟩
  split
  · exact .refl s
  · exact s.report_keeps (s.report.transmit_keeps _)

theorem State.keptBy_transmitDone (s : State) : s.keptBy .transmitDone := by
  show s.keptIn (execTransmitDone s)
  unfold execTransmitDone
  refine ⟨_, rfl, ?_⟩
  split
  · exact (s.reach_keeps _).trans (State.report_keeps _ (Report.link_keeps _ _ rfl))
  · exact .refl s

theorem State.keptBy_s1LeadingEdge (s : State) : s.keptBy .s1LeadingEdge := by
  show s.keptIn (execS1LeadingEdge s)
  unfold execS1LeadingEdge
  refine ⟨_, rfl, (s.pins_keeps { s.pins with s1 := true }).trans ?_⟩
  dsimp only
  split
  · rename_i op; exact State.s1Sheet_keeps _ (by simp [op])
  · rename_i op; exact State.s1Sheet_keeps _ (by simp [op])
  · exact .refl _
  · rename_i op; exact State.jam_keeps _ _ _ op

theorem State.keptBy_s1TrailingEdge (s : State) : s.keptBy .s1TrailingEdge := by
  show s.keptIn (execS1TrailingEdge s)
  unfold execS1TrailingEdge
  refine ⟨_, rfl, (s.pins_keeps { s.pins with s1 := false }).trans ?_⟩
  dsimp only
  split
  · exact .refl _
  · exact State.s1Clears_keeps _ _

theorem State.keptBy_s2LeadingEdge (s : State) : s.keptBy .s2LeadingEdge := by
  show s.keptIn (execS2LeadingEdge s)
  unfold execS2LeadingEdge
  refine ⟨_, rfl, (s.pins_keeps { s.pins with s2 := true }).trans ?_⟩
  dsimp only
  split
  · rename_i working
    have op := State.working_not_starting working
    split
    · exact State.jam_keeps _ _ _ op
    · split
      · exact State.s2Sheet_keeps _ _ _ _ op
      · exact .refl _
  · exact .refl _

theorem State.keptBy_s2TrailingEdge (s : State) : s.keptBy .s2TrailingEdge := by
  show s.keptIn (execS2TrailingEdge s)
  unfold execS2TrailingEdge
  refine ⟨_, rfl, (s.pins_keeps { s.pins with s2 := false }).trans ?_⟩
  dsimp only
  split
  · exact State.path_keeps _ _ rfl (fun a => ⟨a.1, a.2.1⟩) fun _ a => ⟨a.1, a.2.1, rfl, a.2.2.2.1⟩
  · exact .refl _

theorem State.keptBy_arrival {s : State} {i : Instr} (p : State → Pins) (st : Stage) (x : Sensor)
    (h : exec i s = s.does fun s => if State.working { s with pins := p s } then State.sheetArrives st x { s with pins := p s }
      else { s with pins := p s }) : s.keptBy i := by
  refine ⟨_, h, (s.pins_keeps (p s)).trans ?_⟩
  split
  · rename_i working
    exact State.sheetArrives_keeps _ _ _ (State.working_not_starting working)
  · exact .refl _

theorem State.keptBy_seLeadingEdge (s : State) : s.keptBy .seLeadingEdge := by
  show s.keptIn (execSeLeadingEdge s)
  unfold execSeLeadingEdge
  refine ⟨_, rfl, (s.pins_keeps { s.pins with se := true }).trans ?_⟩
  dsimp only
  split
  · rename_i working
    have op := State.working_not_starting working
    split
    · split
      · exact State.jam_keeps _ _ _ op
      · exact State.setAtSE_keeps _ _ op
    · exact State.jam_keeps _ _ _ op
  · exact .refl _

theorem State.keptBy_seTrailingEdge (s : State) : s.keptBy .seTrailingEdge := by
  show s.keptIn (execSeTrailingEdge s)
  unfold execSeTrailingEdge
  refine ⟨_, rfl, (s.pins_keeps { s.pins with se := false }).trans ?_⟩
  dsimp only
  split
  · exact State.seClears_keeps _
  · exact .refl _

theorem State.keptBy_s0Arrival (s : State) : s.keptBy .s0Arrival := by
  show s.keptIn (execS0Arrival s)
  unfold execS0Arrival
  refine ⟨_, rfl, (s.pins_keeps { s.pins with s0 := true }).trans ?_⟩
  exact State.arrive_keeps _ _

theorem State.keptBy_pathLateWindowExpiry (w : PathWindow) (s : State) : s.keptBy (.pathLateWindowExpiry w) := by
  show s.keptIn (execPathLateWindowExpiry w s)
  unfold execPathLateWindowExpiry
  refine ⟨_, rfl, ?_⟩
  split
  · rename_i runs
    exact (s.reach_keeps _).trans (State.jam_moving_keeps _ _ _ (State.lateWindow_moves runs))
  · exact .refl s

theorem State.keptBy_deliveryWindowExpiry (t : Target) (s : State) : s.keptBy (.deliveryWindowExpiry t) := by
  show s.keptIn (execDeliveryWindowExpiry t s)
  unfold execDeliveryWindowExpiry
  refine ⟨_, rfl, ?_⟩
  split
  · rename_i runs
    exact (s.reach_keeps _).trans (State.jam_moving_keeps _ _ _ (State.deliveryWindow_moves runs))
  · exact .refl s

theorem State.keptBy_stallTimerExpiry (w : StallSensor) (s : State) : s.keptBy (.stallTimerExpiry w) := by
  show s.keptIn (execStallTimerExpiry w s)
  unfold execStallTimerExpiry
  refine ⟨_, rfl, ?_⟩
  split
  · rename_i runs
    exact (s.reach_keeps _).trans (State.stallExpires_keeps _ _ (State.stall_moves runs))
  · exact .refl s

theorem State.keptBy_bufferRelease (s : State) : s.keptBy .bufferRelease := by
  show s.keptIn (execBufferRelease s)
  unfold execBufferRelease
  refine ⟨_, rfl, ?_⟩
  split
  · exact .refl s
  · exact s.release_buffer_keeps _ _

theorem State.keptBy_splitEjectStart (s : State) : s.keptBy .splitEjectStart := by
  show s.keptIn (execSplitEjectStart s)
  unfold execSplitEjectStart
  refine ⟨_, rfl, ?_⟩
  split
  · rename_i ready
    obtain ⟨-, -, -, current, free⟩ := State.splitReady_cases ready
    exact s.splitEject_keeps _ _ _ (State.currentRec_used current) (SetTable.freeIndex_free free)
  · exact .refl s

theorem State.keptBy_jogEnd (s : State) : s.keptBy .jogEnd := by
  show s.keptIn (execJogEnd s)
  unfold execJogEnd
  refine ⟨_, rfl, ?_⟩
  split
  · exact .refl s
  · have ended (n : Nat) : s.Keeps { s.reach n with compiler := { (s.reach n).compiler with jog := none } } :=
      (s.reach_keeps n).trans (State.compiler_keeps _ _ Iff.rfl)
    dsimp only
    split
    · exact ended _
    · split
      · exact (ended _).trans (State.purgedEject_keeps _ _)
      · exact (ended _).trans (State.decideSet_keeps _ _ _)

theorem State.keptBy_stapleHomeReturn (s : State) : s.keptBy .stapleHomeReturn := by
  show s.keptIn (execStapleHomeReturn s)
  unfold execStapleHomeReturn
  refine ⟨_, rfl, (s.pins_keeps { s.pins with home := true }).trans ?_⟩
  dsimp only
  split
  · split
    · exact State.goodStaple_keeps _
    · exact .refl _
  · exact .refl _

theorem State.keptBy_stapleHomeTimeout (s : State) : s.keptBy .stapleHomeTimeout := by
  show s.keptIn (execStapleHomeTimeout s)
  unfold execStapleHomeTimeout
  refine ⟨_, rfl, ?_⟩
  split
  · exact ((s.reach_keeps _).trans (State.notify_keeps _ _ _)).trans (State.staplingEnds_keeps _ _)
  · exact .refl s

theorem State.keptBy_ejectStart (s : State) : s.keptBy .ejectStart := by
  show s.keptIn (execEjectStart s)
  unfold execEjectStart
  refine ⟨_, rfl, ?_⟩
  split
  · rename_i ready; exact s.eject_keeps _ _ ready
  · exact .refl s

theorem State.keptBy_shelfRelease (s : State) : s.keptBy .shelfRelease := by
  show s.keptIn (execShelfRelease s)
  unfold execShelfRelease
  refine ⟨_, rfl, ?_⟩
  split
  · rename_i ready; exact s.releaseShelf_keeps _ _ ready
  · exact .refl s

theorem State.keptBy_g0GateFree (s : State) : s.keptBy .g0GateFree := by
  show s.keptIn (execG0GateFree s)
  unfold execG0GateFree
  refine ⟨_, rfl, ?_⟩
  split
  · exact (s.reach_keeps _).trans (State.delivery_keeps _ _ id (fun _ => id) Iff.rfl)
  · exact .refl s

theorem State.keptBy_holdTimerExpiry (s : State) : s.keptBy .holdTimerExpiry := by
  show s.keptIn (execHoldTimerExpiry s)
  unfold execHoldTimerExpiry
  refine ⟨_, rfl, ?_⟩
  split
  · exact (s.reach_keeps _).trans (State.holdExpires_keeps _)
  · exact .refl s

/-- A bin sensor qualified where it is sampled, with the wake event of its tower (R109, R122). -/
theorem State.keptBy_sensor {s : State} {i : Instr} (b : Fin 41) (c : State → Bool) (f : State → State) (sees : c s = true → s.sees b)
    (keeps : s.sees b → s.Keeps (f s)) (h : exec i s = s.does fun s => if c s then (f s).wakeByBin b else s) : s.keptBy i := by
  refine ⟨_, h, ?_⟩
  split
  · rename_i on
    exact (keeps (sees on)).trans (State.wakeByBin_keeps _ _)
  · exact .refl s

theorem State.keptBy_binSensors (b : Fin 41) (s : State) : s.keptBy (.binEmpty b) ∧ s.keptBy (.binPresentCovered b) ∧
    s.keptBy (.binFullSensorCovered b) ∧ s.keptBy (.binFullSensorClear b) ∧ s.keptBy (.reReference b) := by
  refine ⟨s.keptBy_sensor b (fun s => s.sampled b && s.bins[b].present.state ≠ some false) _ (fun h => ?_) (s.presentQualified_keeps b false) rfl,
    s.keptBy_sensor b (fun s => s.sampled b && s.bins[b].present.state ≠ some true) _ (fun h => ?_) (s.presentQualified_keeps b true) rfl,
    s.keptBy_sensor b (fun s => s.sampled b && s.bins[b].full.state ≠ some true) _ (fun h => ?_) (s.fullQualified_keeps b true) rfl,
    s.keptBy_sensor b (fun s => s.sampled b && s.bins[b].full.state ≠ some false && !s.bins[b].rereferences) _ (fun h => ?_)
      (s.fullQualified_keeps b false) rfl,
    s.keptBy_sensor b (fun s => s.sampled b && s.bins[b].rereferences) _ (fun h => ?_) (s.fullQualified_keeps b false) rfl⟩
  all_goals
    simp only [Bool.and_eq_true, and_assoc] at h
    exact State.sampled_sees h.1

theorem State.keptBy_cartridgeInsertion (s : State) : s.keptBy .cartridgeInsertion := by
  show s.keptIn (execCartridgeInsertion s)
  unfold execCartridgeInsertion
  refine ⟨_, rfl, ?_⟩
  split
  · exact .refl s
  · refine State.Keeps.trans ?_ (State.waitTest_keeps _)
    refine State.Keeps.trans ?_ (State.notify_keeps _ _ _)
    exact (s.setCartridge_keeps true).trans (State.staplerCount_keeps _ _ (Stapler.insert_count _) rfl)

theorem State.keptBy_cartridgeRemoval (s : State) : s.keptBy .cartridgeRemoval := by
  show s.keptIn (execCartridgeRemoval s)
  unfold execCartridgeRemoval
  refine ⟨_, rfl, ?_⟩
  split
  · exact .refl s
  · exact s.setCartridge_keeps false
  · refine State.Keeps.trans ?_ (State.notify_keeps _ _ _)
    exact (s.setCartridge_keeps false).trans (State.staplerCount_keeps _ _ (Nat.zero_le _) rfl)

theorem State.keptBy_cartridgeEmptyCovered (s : State) : s.keptBy .cartridgeEmptyCovered := by
  show s.keptIn (execCartridgeEmptyCovered s)
  unfold execCartridgeEmptyCovered
  refine ⟨_, rfl, ?_⟩
  split
  · exact .refl s
  · refine State.Keeps.trans ?_ (State.notify_keeps _ _ _)
    exact (s.setEmptySensor_keeps true).trans (State.staplerCount_keeps _ _ (Nat.zero_le _) rfl)

theorem State.keptBy_cartridgeEmptyClear (s : State) : s.keptBy .cartridgeEmptyClear := by
  show s.keptIn (execCartridgeEmptyClear s)
  unfold execCartridgeEmptyClear
  refine ⟨_, rfl, ?_⟩
  split
  · exact .refl s
  · exact s.setEmptySensor_keeps false

theorem State.keptBy_rejectNearFullChange (v : Bool) (s : State) : s.keptBy (.rejectNearFullChange v) := by
  show s.keptIn (execRejectNearFullChange v s)
  unfold execRejectNearFullChange
  refine ⟨_, rfl, ?_⟩
  split
  · exact .refl s
  · exact s.rejectNearChange_keeps v

theorem State.keptBy_rejectFullChange (v : Bool) (s : State) : s.keptBy (.rejectFullChange v) := by
  show s.keptIn (execRejectFullChange v s)
  unfold execRejectFullChange
  refine ⟨_, rfl, ?_⟩
  split
  · exact .refl s
  · exact s.rejectFullChange_keeps v

theorem State.polled_present {t : Fin 4} {s : State} (h : s.polled t = true) : s.chain.towers[t].present = true := by
  simp only [State.polled, Bool.and_eq_true] at h
  exact h.1

theorem State.keptBy_towerPollReply (t : Fin 4) (reply : PollReply) (s : State) : s.keptBy (.towerPollReply t reply) := by
  show s.keptIn (execTowerPollReply t reply s)
  unfold execTowerPollReply
  refine ⟨_, rfl, ?_⟩
  split
  · rename_i polled; exact s.goodReply_keeps t reply (State.polled_present polled)
  · exact .refl s

theorem State.keptBy_towerPollMissed (t : Fin 4) (s : State) : s.keptBy (.towerPollMissed t) := by
  show s.keptIn (execTowerPollMissed t s)
  unfold execTowerPollMissed
  refine ⟨_, rfl, ?_⟩
  have missed := s.modTower_keeps t (Tower.missPoll s.now (sampleInterval s.run.op)) ⟨rfl, rfl, rfl⟩ fun _ => ⟨rfl, rfl⟩
  split
  dsimp only
  · split
    · exact missed.trans (State.loseTower_keeps _ _)
    · exact missed
  · exact .refl s

theorem State.keptBy_towerInputChange (t : Fin 4) (i : TowerInput) (v : Bool) (s : State) : s.keptBy (.towerInputChange t i v) := by
  show s.keptIn (execTowerInputChange t i v s)
  unfold execTowerInputChange
  refine ⟨_, rfl, ?_⟩
  split
  · rename_i changes
    simp only [Bool.and_eq_true] at changes
    exact s.inputQualified_keeps t i v (State.polled_present changes.1)
  · exact .refl s

theorem State.keptBy_spinUpEnd (s : State) : s.keptBy .spinUpEnd := by
  show s.keptIn (execSpinUpEnd s)
  unfold execSpinUpEnd
  refine ⟨_, rfl, ?_⟩
  split
  · exact (s.reach_keeps _).trans (State.spinUpEnds_keeps _)
  · exact .refl s

theorem State.keptBy_standbyTimerExpiry (s : State) : s.keptBy .standbyTimerExpiry := by
  show s.keptIn (execStandbyTimerExpiry s)
  unfold execStandbyTimerExpiry
  refine ⟨_, rfl, ?_⟩
  split
  · rename_i runs
    split
    · exact .refl s
    · exact (s.reach_keeps _).trans (State.standbyExpires_keeps _ (by simp [State.reach, runs]))
  · exact .refl s

theorem State.keptBy_wakeTimerEnd (s : State) : s.keptBy .wakeTimerEnd := by
  show s.keptIn (execWakeTimerEnd s)
  unfold execWakeTimerEnd
  refine ⟨_, rfl, ?_⟩
  split
  · rename_i runs
    exact (s.reach_keeps _).trans (State.wakeEnds_keeps _ (by simp [State.reach, runs]))
  · exact .refl s

theorem State.keptBy_governorTimerExpiry (s : State) : s.keptBy .governorTimerExpiry := by
  show s.keptIn (execGovernorTimerExpiry s)
  unfold execGovernorTimerExpiry
  refine ⟨_, rfl, ?_⟩
  split
  · rename_i runs
    exact (s.reach_keeps _).trans (State.governorExpires_keeps _ (by simp [State.reach, runs]))
  · exact .refl s

/-- The idle timer at its limit keeps everything where it runs in RUNNING alone (R145). -/
theorem State.keptBy_idleTimerExpiry (s : State) (idle : s.run.idle ≠ none → s.run.op = .running) : s.keptBy .idleTimerExpiry := by
  show s.keptIn (execIdleTimerExpiry s)
  unfold execIdleTimerExpiry
  refine ⟨_, rfl, ?_⟩
  split
  · rename_i runs
    exact (s.reach_keeps _).trans (State.idleExpires_keeps _ (idle (by simp [runs])))
  · exact .refl s

/-- The commands of section 8.1, which act on a part that is held as well. -/
def resets : Instr → Bool
  | .powerOn | .resetnLow | .resetEnd => true
  | _ => false

theorem State.kept (i : Instr) (s : State) (noReset : resets i = false)
    (idle : i = .idleTimerExpiry → s.run.idle ≠ none → s.run.op = .running) : s.keptBy i := by
  cases i with
  | powerOn | resetnLow | resetEnd => cases noReset
  | startupComplete => exact s.keptBy_startupComplete
  | startupTimerExpiry => exact s.keptBy_startupTimerExpiry
  | sheet q rest => exact State.keptBy_record (State.sheetRecord q rest) rfl (State.sheetRecord_keeps q rest)
  | jobOpen tag rest => exact State.keptBy_record (State.jobOpenRecord tag rest) rfl (State.jobOpenRecord_keeps tag rest)
  | jobClose tag rest => exact State.keptBy_record (State.jobCloseRecord tag rest) rfl (State.jobCloseRecord_keeps tag rest)
  | jobPurge tag rest => exact State.keptBy_record (State.jobPurgeRecord tag rest) rfl (State.jobPurgeRecord_keeps tag rest)
  | mediaWrite tag rest => exact State.keptBy_record (State.mediaRecord tag rest) rfl (State.mediaRecord_keeps tag rest)
  | timingWrite tag rest => exact State.keptBy_record (State.timingRecord tag rest) rfl (State.timingRecord_keeps tag rest)
  | routeWrite tag rest => exact State.keptBy_record (State.routeRecord tag rest) rfl (State.routeRecord_keeps tag rest)
  | binWrite tag rest => exact State.keptBy_record (State.binRecord tag rest) rfl (State.binRecord_keeps tag rest)
  | towerWrite tag rest => exact State.keptBy_record (State.towerRecord tag rest) rfl (State.towerRecord_keeps tag rest)
  | noticeWrite tag rest => exact State.keptBy_record (State.noticeRecord tag rest) rfl (State.noticeRecord_keeps tag rest)
  | settingsWrite tag rest => exact State.keptBy_record (State.settingsRecord tag rest) rfl (State.settingsRecord_keeps tag rest)
  | queryState tag rest | queryQueue tag rest | queryTiming tag rest | queryCompiler tag rest | querySettings tag rest =>
    exact State.keptBy_record (State.queryPlain _ tag rest _) rfl (State.queryPlain_keeps _ tag rest _)
  | queryPath tag rest | queryDelivery tag rest | queryRoute tag rest | queryBin tag rest | queryTower tag rest | queryJob tag rest
  | queryMedia tag rest => exact State.keptBy_record (State.queryIndexed _ tag rest _) rfl (State.queryIndexed_keeps _ tag rest _)
  | queryAttentionPeek tag idx extra => exact State.keptBy_record (State.peekRecord tag extra) rfl (State.peekRecord_keeps tag extra)
  | queryAttentionTake tag idx extra => exact State.keptBy_record (State.takeRecord tag extra) rfl (State.takeRecord_keeps tag extra)
  | pause tag extra => exact State.keptBy_record (State.pauseRecord tag extra) rfl (State.pauseRecord_keeps tag extra)
  | resume tag extra => exact State.keptBy_record (State.resumeRecord tag extra) rfl (State.resumeRecord_keeps tag extra)
  | clearJam tag extra => exact State.keptBy_record (State.clearJamRecord tag extra) rfl (State.clearJamRecord_keeps tag extra)
  | releaseHold tag extra => exact State.keptBy_record (State.releaseHoldRecord tag extra) rfl (State.releaseHoldRecord_keeps tag extra)
  | towerReset tag extra => exact State.keptBy_record (State.towerResetRecord tag extra) rfl (State.towerResetRecord_keeps tag extra)
  | standby tag extra => exact State.keptBy_record (State.standbyRecord tag extra) rfl (State.standbyRecord_keeps tag extra)
  | wake tag extra => exact State.keptBy_record (State.wakeRecord tag extra) rfl (State.wakeRecord_keeps tag extra)
  | reset tag extra => exact State.keptBy_record (State.resetControl tag extra) rfl (State.resetControl_keeps tag extra)
  | unknownKind kind tag rest => exact State.keptBy_record (State.unknownKindRecord kind tag) rfl fun s => s.refuse_keeps _ _ _
  | badFrame byte stopLow => exact ⟨_, rfl, s.takeByte_keeps byte stopLow⟩
  | receivedByte byte => exact ⟨_, rfl, s.takeByte_keeps byte false⟩
  | interByteTimeout => exact s.keptBy_interByteTimeout
  | transmitBegin => exact s.keptBy_transmitBegin
  | transmitDone => exact s.keptBy_transmitDone
  | s1LeadingEdge => exact s.keptBy_s1LeadingEdge
  | s1TrailingEdge => exact s.keptBy_s1TrailingEdge
  | s2LeadingEdge => exact s.keptBy_s2LeadingEdge
  | s2TrailingEdge => exact s.keptBy_s2TrailingEdge
  | scLeadingEdge => exact State.keptBy_arrival (fun s => { s.pins with sc := true }) .toSC .sc rfl
  | srLeadingEdge => exact State.keptBy_arrival (fun s => { s.pins with sr := true }) .toSR .sr rfl
  | seLeadingEdge => exact s.keptBy_seLeadingEdge
  | seTrailingEdge => exact s.keptBy_seTrailingEdge
  | s0Arrival => exact s.keptBy_s0Arrival
  | pathLateWindowExpiry w => exact s.keptBy_pathLateWindowExpiry w
  | deliveryWindowExpiry t => exact s.keptBy_deliveryWindowExpiry t
  | stallTimerExpiry w => exact s.keptBy_stallTimerExpiry w
  | bufferRelease => exact s.keptBy_bufferRelease
  | splitEjectStart => exact s.keptBy_splitEjectStart
  | jogEnd => exact s.keptBy_jogEnd
  | stapleHomeReturn => exact s.keptBy_stapleHomeReturn
  | stapleHomeTimeout => exact s.keptBy_stapleHomeTimeout
  | ejectStart => exact s.keptBy_ejectStart
  | shelfRelease => exact s.keptBy_shelfRelease
  | g0GateFree => exact s.keptBy_g0GateFree
  | holdTimerExpiry => exact s.keptBy_holdTimerExpiry
  | binEmpty b => exact (s.keptBy_binSensors b).1
  | binPresentCovered b => exact (s.keptBy_binSensors b).2.1
  | binFullSensorCovered b => exact (s.keptBy_binSensors b).2.2.1
  | binFullSensorClear b => exact (s.keptBy_binSensors b).2.2.2.1
  | reReference b => exact (s.keptBy_binSensors b).2.2.2.2
  | cartridgeInsertion => exact s.keptBy_cartridgeInsertion
  | cartridgeRemoval => exact s.keptBy_cartridgeRemoval
  | cartridgeEmptyCovered => exact s.keptBy_cartridgeEmptyCovered
  | cartridgeEmptyClear => exact s.keptBy_cartridgeEmptyClear
  | rejectNearFullChange v => exact s.keptBy_rejectNearFullChange v
  | rejectFullChange v => exact s.keptBy_rejectFullChange v
  | towerPollReply t reply => exact s.keptBy_towerPollReply t reply
  | towerPollMissed t => exact s.keptBy_towerPollMissed t
  | towerInputChange t i v => exact s.keptBy_towerInputChange t i v
  | enumerationReply => exact s.keptBy_enumerationReply
  | enumerationSlotTimeout => exact s.keptBy_enumerationSlotTimeout
  | spinUpEnd => exact s.keptBy_spinUpEnd
  | idleTimerExpiry => exact s.keptBy_idleTimerExpiry (idle rfl)
  | standbyTimerExpiry => exact s.keptBy_standbyTimerExpiry
  | wakeTimerEnd => exact s.keptBy_wakeTimerEnd
  | governorTimerExpiry => exact s.keptBy_governorTimerExpiry

end Sys2Proof.Machine

namespace Sys2Proof.Machine

/-! ## The step -/

/-- The idle timer runs exactly in RUNNING while the part is idle (R145). -/
def State.idleExact (s : State) : Prop := s.run.idle ≠ none ↔ s.run.op = .running ∧ s.standsIdle

theorem State.syncIdle_idleExact (s : State) : s.syncIdle.idleExact := by
  show s.syncIdle.run.idle ≠ none ↔ s.run.op = .running ∧ s.standsIdle
  rw [State.syncIdle_idle, ← State.isIdle_iff]
  split
  · rename_i h; exact iff_of_true (by simp) h
  · rename_i h; exact iff_of_false (by simp) h

theorem State.hold_idleExact (c : ResetCause) (l : Bool) (s : State) : (s.hold c l).idleExact :=
  iff_of_false (by simp [RunController.reset]) (by simp [RunController.reset])

theorem State.start_idleExact (s : State) (op : s.run.op = .starting) (idle : s.run.idle = none) : s.start.idleExact := by
  refine iff_of_false (fun n => n idle) fun h => ?_
  have running : s.run.op = .running := h.1
  rw [op] at running
  cases running

/-- The commands of section 8.1 hold the part at its reset values, start it, or find nothing to do. -/
theorem exec_resets {i : Instr} {s t : State} (reset : resets i = true) (h : exec i s = .next t) :
    t = s ∨ ∃ c l, t = s.hold c l ∨ t = (s.hold c l).start := by
  have cases_ {p : Bool} {a b u : State} (a_ : a = s ∨ ∃ c l, a = s.hold c l ∨ a = (s.hold c l).start)
      (b_ : b = s ∨ ∃ c l, b = s.hold c l ∨ b = (s.hold c l).start)
      (e : (Host.Outcome.next (if p then a else b) : Host.Outcome State Fault Refusal) = .next u) :
      u = s ∨ ∃ c l, u = s.hold c l ∨ u = (s.hold c l).start := by
    cases e
    cases p
    · exact b_
    · exact a_
  cases i <;> try cases reset
  case powerOn => exact cases_ (p := s.run.resetLow) (.inr ⟨_, _, .inl rfl⟩) (.inr ⟨_, _, .inr rfl⟩) h
  case resetnLow => exact cases_ (p := s.run.resetLow) (.inl rfl) (.inr ⟨_, _, .inl rfl⟩) h
  case resetEnd => exact cases_ (p := s.run.resetLow) (.inr ⟨_, _, .inr rfl⟩) (.inl rfl) h

theorem exec_resets_keeps {i : Instr} {s t : State} (reset : resets i = true) (h : exec i s = .next t) :
    s.Keeps t ∧ (s.idleExact → t.idleExact) := by
  obtain rfl | ⟨c, l, rfl | rfl⟩ := exec_resets reset h
  · exact ⟨.refl _, id⟩
  · exact ⟨s.hold_keeps c l, fun _ => s.hold_idleExact c l⟩
  · exact ⟨(s.hold_keeps c l).trans (State.start_keeps _), fun _ => State.start_idleExact _ (by simp [RunController.reset])
      (by simp [RunController.reset])⟩

theorem State.does_keeps {s t : State} {f : State → State} (keeps : s.Keeps (f s)) (h : s.does f = .next t) : s.Keeps t := by
  unfold State.does at h
  cases h
  split
  · exact .refl s
  · exact keeps.trans (State.syncIdle_keeps _)

theorem State.does_idleExact {s t : State} {f : State → State} (h : s.does f = .next t) (a : s.idleExact) : t.idleExact := by
  unfold State.does at h
  cases h
  split
  · exact a
  · exact State.syncIdle_idleExact _

/-- Every command keeps the soundness of a part whose idle timer runs in RUNNING alone, and the idle timer exact. -/
theorem exec_keeps {i : Instr} {s t : State} (idle : i = .idleTimerExpiry → s.run.idle ≠ none → s.run.op = .running)
    (h : exec i s = .next t) : s.Keeps t ∧ (s.idleExact → t.idleExact) := by
  cases reset : resets i with
  | true => exact exec_resets_keeps reset h
  | false =>
    obtain ⟨f, answer, keeps⟩ := s.kept i reset idle
    rw [answer] at h
    exact ⟨State.does_keeps keeps h, State.does_idleExact h⟩

/-- An operation that keeps everything, and after it one that leaves parts open. -/
theorem State.Keeps.transBut {X : List Part} {s t u : State} (h : s.Keeps t) (k : t.KeepsBut X u) : s.KeepsBut X u where
  queue a := k.queue (h.queue a)
  report a := k.report (h.report a)
  places a := k.places (h.places a)
  amounts a := k.amounts (h.amounts a)
  chain a := k.chain (h.chain a)
  sets a := k.sets (h.sets a)
  slots a := k.slots (h.slots a)
  timed a := k.timed (h.timed a)
  reserved m a := k.reserved m (h.reserved (by simp) a)
  timers m a := k.timers m (h.timers (by simp) a)
  reasons r m a b c d := k.reasons r m (h.sets a) (h.queue b) (h.timers (by simp) c) (h.reasons r (by simp) a b c d)
  agrees m a b := k.agrees m (h.chain a) (h.agrees (by simp) a b)
  limited m a := k.limited m (h.limited (by simp) a)

/-- The idle timer's expiry changes the clock and the Run Controller alone (R145). -/
theorem exec_idleTimerExpiry_keepsBut {s t : State} (h : exec .idleTimerExpiry s = .next t) : s.KeepsBut runParts t := by
  have h' : execIdleTimerExpiry s = .next t := h
  unfold execIdleTimerExpiry State.does at h'
  cases h'
  split
  · exact (State.Keeps.refl s).but _
  · dsimp only
    split
    · exact (s.reach_keeps _).transBut (State.run_keepsBut _ _)
    · exact s.run_keepsBut _

theorem exec_keepsBut {i : Instr} {s t : State} (h : exec i s = .next t) : s.KeepsBut runParts t := by
  by_cases e : i = .idleTimerExpiry
  · subst e; exact exec_idleTimerExpiry_keepsBut h
  · exact (exec_keeps (fun k => absurd k e) h).1.but _

/-! ## The part's own clock -/

theorem State.schedule_keeps (c : Instr) (cs : List Instr) (s : State) : s.Keeps (s.schedule c cs) := by
  unfold State.schedule
  split <;> exact s.free_keeps _ _ _ _ _ _ _ _ _

theorem State.idle_keeps (s : State) : s.Keeps s.idle := by
  unfold State.idle
  split
  · exact s.tick_keeps
  · exact s.schedule_keeps _ _

theorem State.takeSample_idleExact (s : State) (a : s.idleExact) : s.takeSample.idleExact := by
  unfold State.takeSample
  dsimp only
  split <;> exact a

/-- A tick changes nothing that idleness is read from (R42, R145). -/
theorem State.tick_idleExact (s : State) (a : s.idleExact) : s.tick.idleExact := by
  have sampled : (if s.run.resetLow then s else s.takeSample.makePolls).idleExact := by
    split
    · exact a
    · exact s.takeSample_idleExact a
  exact sampled

theorem State.idle_idleExact (s : State) (a : s.idleExact) : s.idle.idleExact := by
  unfold State.idle
  split
  · exact s.tick_idleExact a
  · unfold State.schedule
    split <;> exact a

/-! ## Steps -/

theorem step_keeps {s t : State} (idle : s.run.idle ≠ none → s.run.op = .running) (h : step s = .next t) :
    s.Keeps t ∧ (s.idleExact → t.idleExact) := by
  unfold step at h
  split at h
  · rename_i c rest _
    obtain ⟨keeps, exact_⟩ := exec_keeps (s := { s with pending := rest }) (fun _ => idle) h
    exact ⟨State.Keeps.trans (s.free_keeps s.now rest s.draws s.pins s.media s.binder s.routes s.qualCount s.lastSample) keeps, exact_⟩
  · cases h
    exact ⟨s.idle_keeps, s.idle_idleExact⟩

theorem step_keepsBut {s t : State} (h : step s = .next t) : s.KeepsBut runParts t := by
  unfold step at h
  split at h
  · rename_i c rest _
    exact (s.free_keeps s.now rest s.draws s.pins s.media s.binder s.routes s.qualCount s.lastSample).transBut (exec_keepsBut h)
  · cases h
    exact s.idle_keeps.but _

/-- The Run Controller's timers in their own states, by their two halves (R145 to R147). -/
theorem State.runSound_iff (s : State) : s.runSound ↔ s.idleExact ∧ s.timersSound := Iff.rfl

theorem State.governorSound_iff (s : State) : s.governorSound ↔ s.agrees ∧ s.report.gov.timed ∧ s.report.gov.limited := Iff.rfl

/-! ## The invariants -/

/-- Settles O54: each operation keeps the queue's bound and the debt only while it is full. -/
theorem stepKeepsTheDescriptorQueueSound : Obligations.StepKeepsTheDescriptorQueueSound :=
  fun _ _ a h => (step_keepsBut h).queue a

/-- Settles O55: BACKLOG is set again with every change of the queue's length, and every change of the reason set places its FEED. -/
theorem stepKeepsTheReportsSound : Obligations.StepKeepsTheReportsSound :=
  fun _ _ a h => (step_keepsBut h).report a

/-- Settles O56: every place is taken behind its test, and every amount is clamped as it is written. -/
theorem stepKeepsThePlacesAndAmountsSound : Obligations.StepKeepsThePlacesAndAmountsSound :=
  fun _ _ h => ⟨(step_keepsBut h).places, (step_keepsBut h).amounts, (step_keepsBut h).chain⟩

/-- Settles O57: allocation and release change the records and their order together, and a slot is freed only as no record names it. -/
theorem stepKeepsTheSetTableSound : Obligations.StepKeepsTheSetTableSound :=
  fun _ _ h => ⟨(step_keepsBut h).sets, (step_keepsBut h).slots⟩

/-- Settles O58: a bin's reservation changes with the chosen bin and the height of a set, by the set's height. -/
theorem stepKeepsTheReservationsExact : Obligations.StepKeepsTheReservationsExact :=
  fun _ _ a h => (step_keepsBut h).reserved (by simp [runParts]) a

/-- Settles O59: each operation that changes a condition sets its reason, and the governor is recombined after each change of one of its
conditions; the idle timer is set again after every command. -/
theorem stepKeepsTheHoldReasonsAndTheGovernorExact : Obligations.StepKeepsTheHoldReasonsAndTheGovernorExact := by
  intro s t h
  refine ⟨fun sets queue run reasons => ?_, fun chain governor => ?_⟩
  · obtain ⟨idle, timers⟩ := (State.runSound_iff s).mp run
    obtain ⟨keeps, exact_⟩ := step_keeps (fun n => (idle.mp n).1) h
    exact ⟨(State.runSound_iff t).mpr ⟨exact_ idle, keeps.timers (by simp) timers⟩,
      fun r => keeps.reasons r (by simp) sets queue timers (reasons r)⟩
  · obtain ⟨agrees, timed, limited⟩ := (State.governorSound_iff s).mp governor
    have keeps := step_keepsBut h
    exact (State.governorSound_iff t).mpr ⟨keeps.agrees (by simp [runParts]) chain agrees, keeps.timed timed,
      keeps.limited (by simp [runParts]) limited⟩

/-- The state after reset is a started part at its reset values. -/
theorem State.reset_eq : State.reset = (State.reset.hold .powerOn false).start := rfl

/-- Settles O60: a part at its reset values is sound, and a start keeps it so. -/
theorem resetMeetsTheInvariants : Obligations.ResetMeetsTheInvariants := by
  obtain ⟨queue, report, places, amounts, chain, sets, slots, timed, reserved, timers, reasons, agrees, limited⟩ :=
    State.reset.hold_sound .powerOn false
  have keeps := (State.reset.hold .powerOn false).start_keeps
  unfold Obligations.ResetMeetsTheInvariants
  rw [State.reset_eq]
  exact ⟨keeps.queue queue, keeps.report report, keeps.places places, keeps.amounts amounts, keeps.chain chain, keeps.sets sets,
    keeps.slots slots, keeps.reserved (by simp) reserved,
    (State.runSound_iff _).mpr ⟨State.start_idleExact _ (by simp [RunController.reset]) (by simp [RunController.reset]), keeps.timers (by simp) timers⟩,
    fun r => keeps.reasons r (by simp) sets queue timers (reasons r),
    (State.governorSound_iff _).mpr ⟨keeps.agrees (by simp) chain agrees, keeps.timed timed, keeps.limited (by simp) limited⟩⟩

end Sys2Proof.Machine

namespace Sys2Proof.Machine

/-! ## Resets and the queue of commands -/

/-- The bins' reset values (R102). -/
theorem resetBins_bin (b : Fin 41) : resetBins[b] = if b = 0 then Bin.reset 6000 600 else Bin.reset 1500 150 := by
  by_cases e : b = 0
  · subst e; rfl
  · have : (0 : Nat) ≠ b.val := fun k => e (Fin.ext k.symm)
    simp [resetBins, e, this]

/-- Settles O1: each block's reset value is the table's, read off its definition. -/
theorem resetStateHoldsTheTablesValues : Obligations.ResetStateHoldsTheTablesValues := by
  refine ⟨fun i => ?_, fun i => ?_, rfl, rfl, rfl, rfl, rfl, rfl, rfl, rfl, rfl, rfl, rfl, rfl, rfl, rfl, rfl, rfl, rfl, rfl,
    fun i => ?_, rfl, rfl, rfl, rfl, rfl, fun b => ?_, fun t => ?_, rfl, rfl, rfl, rfl, rfl, rfl, rfl⟩
  · simp [State.reset, JobSlot.reset]
  · simp [State.reset, Media.reset]
  · simp [State.reset, RouteTable.reset, RouteEntry.reset]
  · show resetBins[b] = _
    rw [resetBins_bin]
    split <;> rfl
  · simp [State.reset, Tower.reset, Tower.state]

/-- Settles O2: both hold the part at its reset values and start it. -/
theorem powerOnAndControlResetLeaveTheResetState : Obligations.PowerOnAndControlResetLeaveTheResetState := by
  refine ⟨fun s live => ?_, fun s tag live => ?_⟩
  · show execPowerOn s = _
    unfold execPowerOn
    rw [show s.run.resetLow = false from live]
    rfl
  · have answer : exec (.reset tag []) s = s.does fun s => s.frameTaken.resetControl tag [] := rfl
    rw [answer, State.does_live live]
    rfl

/-- Every command but those of section 8.1 acts on a live part alone (R141). -/
theorem exec_does (c : Instr) (s : State) (noReset : resets c = false) : ∃ f : State → State, exec c s = s.does f := by
  by_cases e : c = .idleTimerExpiry
  · subst e
    show ∃ f : State → State, execIdleTimerExpiry s = s.does f
    unfold execIdleTimerExpiry
    exact ⟨_, rfl⟩
  · obtain ⟨f, answer, -⟩ := s.kept c noReset fun k => absurd k e
    exact ⟨f, answer⟩

/-- Settles O3: the three commands of section 8.1 act on a held part, and every other one finds it held. -/
theorem resetLineHoldsThenStartsThePart : Obligations.ResetLineHoldsThenStartsThePart := by
  refine ⟨fun s live => ?_, fun s held => ?_, fun s c held noPower noLow noEnd => ?_⟩
  · have high : s.run.resetLow = false := live
    exact ⟨by show execResetnLow s = _; rw [execResetnLow, high]; rfl, by show execResetEnd s = _; rw [execResetEnd, high]; rfl⟩
  · have low : s.run.resetLow = true := by simpa [State.live] using held
    exact ⟨by show execPowerOn s = _; rw [execPowerOn, low]; rfl, by show execResetnLow s = _; rw [execResetnLow, low]; rfl,
      by show execResetEnd s = _; rw [execResetEnd, low]; rfl⟩
  · have low : s.run.resetLow = true := by simpa [State.live] using held
    have noReset : resets c = false := by
      cases c with
      | powerOn => exact absurd rfl noPower
      | resetnLow => exact absurd rfl noLow
      | resetEnd => exact absurd rfl noEnd
      | _ => rfl
    obtain ⟨f, answer⟩ := exec_does c s noReset
    simp [answer, State.does, low]

/-- Settles O4: that is the step's definition. -/
theorem stepTakesTheFrontCommand : Obligations.StepTakesTheFrontCommand := fun _ _ _ => rfl

end Sys2Proof.Machine

namespace Sys2Proof.Machine

/-! ## The clock and what it finds due -/

theorem State.takeSample_bins_eq (s : State) : s.takeSample.bins = s.bins.set 0 { s.bins[0] with
    present := s.takeSample.bins[0].present, full := s.takeSample.bins[0].full } := by
  unfold State.takeSample
  dsimp only
  split
  · simp
  · exact (Vector.set_getElem_self _).symm

/-- What a tick changes beside the tick itself: levels, draws, samples and polls (R42, R109, R118). -/
theorem State.tick_frame (s : State) : s.tick = { s with
    now := s.now + 1, draws := s.tick.draws, pins := { s.pins with sc := s.tick.pins.sc, sr := s.tick.pins.sr, s0 := s.tick.pins.s0 }
    bins := s.bins.set 0 { s.bins[0] with present := s.tick.bins[0].present, full := s.tick.bins[0].full }
    rejectNear := s.tick.rejectNear, rejectFull := s.tick.rejectFull
    stapler := { s.stapler with cartridge := s.tick.stapler.cartridge, emptySensor := s.tick.stapler.emptySensor }
    chain := { s.chain with towers := s.tick.chain.towers }, lastSample := s.tick.lastSample } := by
  unfold State.tick
  split
  · have bins : s.bins = s.bins.set 0 s.bins[0] := (Vector.set_getElem_self _).symm
    simp only [State.advance]
    rw [← bins]
  · have sample := s.takeSample_frame
    have bins := s.takeSample_bins_eq
    rw [State.makePolls_frame]
    generalize s.takeSample.makePolls.chain.towers = towers
    generalize s.takeSample = t at sample bins
    rw [sample]
    simp only [State.advance]
    rw [← bins]

theorem State.tick_levels (s : State) : (s.pins.sc = false → s.tick.pins.sc = false) ∧ (s.pins.sr = false → s.tick.pins.sr = false) ∧
    (s.pins.s0 = false → s.tick.pins.s0 = false) := by
  have pins : (if s.run.resetLow then s else s.takeSample.makePolls).pins = s.pins := by
    split
    · rfl
    · rw [State.makePolls_frame, State.takeSample_frame]
  simp only [State.tick, State.advance, pins, nextLevel]
  refine ⟨fun h => ?_, fun h => ?_, fun h => ?_⟩ <;> simp [h]

/-- One of the due steps joins the queue, and no time passes. -/
theorem State.schedule_mem (c : Instr) (cs : List Instr) (s : State) (empty : s.pending = []) :
    ∃ x ∈ c :: cs, s.schedule c cs = { s with pending := [x], draws := (s.schedule c cs).draws } := by
  unfold State.schedule
  split
  · exact ⟨c, by simp, by simp [empty]⟩
  · refine ⟨_, ?_, by rw [empty]; rfl⟩
    have inside : Config.pick s.draws % (c :: cs).length < (c :: cs).length := Nat.mod_lt _ (by simp)
    rw [List.getElem?_eq_getElem inside, Option.getD_some]
    exact List.getElem_mem inside

theorem step_of_empty {s : State} (empty : s.pending = []) : step s = .next s.idle := by
  unfold step
  rw [empty]

theorem State.idle_of_due_nil {s : State} (none_ : s.due = []) : s.idle = s.tick := by
  unfold State.idle
  rw [none_]

/-- Settles O5: the tick, or the scheduler's pick. -/
theorem emptyQueueTicksOrTakesADueStep : Obligations.EmptyQueueTicksOrTakesADueStep := by
  intro s empty
  refine ⟨s.idle, step_of_empty empty, fun none_ => ?_, fun some_ => ?_⟩
  · rw [State.idle_of_due_nil none_]
    exact ⟨s.tick_frame, s.tick_levels⟩
  · obtain ⟨c, cs, due⟩ := List.exists_cons_of_ne_nil some_
    have idle : s.idle = s.schedule c cs := by unfold State.idle; rw [due]
    rw [idle, due]
    exact s.schedule_mem c cs empty

theorem sampleInterval_eq (op : OpState) : sampleInterval op = if op = .standby then 100 else 10 := by
  cases op <;> rfl

/-- An input whose sample qualifies nothing has its run count (R109). -/
theorem Qual.counted_eq {n : Nat} {v : Bool} {q : Qual} (h : q.qualifies n v = false) : q.counted n v =
    ⟨q.state, some v, if q.state = some v then 0 else if q.last = some v then min 127 (q.run + 1) else 1⟩ := by
  unfold Qual.counted
  rw [if_neg (by simp [h])]
  unfold Qual.qualifies Qual.sample at h
  unfold Qual.sample
  dsimp only at h ⊢
  split_ifs at h ⊢ <;> simp_all

theorem Qual.qualifies_iff (n : Nat) (v : Bool) (q : Qual) : q.qualifies n v = true ↔
    q.state ≠ some v ∧ n ≤ if q.last = some v then min 127 (q.run + 1) else 1 := by
  unfold Qual.qualifies Qual.sample
  dsimp only
  split_ifs <;> simp_all

theorem State.tick_sampled (s : State) (high : s.live) : s.tick.bins = s.takeSample.bins ∧ s.tick.rejectNear = s.takeSample.rejectNear ∧
    s.tick.rejectFull = s.takeSample.rejectFull ∧ s.tick.stapler = s.takeSample.stapler ∧ s.tick.lastSample = s.takeSample.lastSample ∧
    s.tick.chain.towers = s.takeSample.makePolls.chain.towers := by
  have low : s.run.resetLow = false := high
  simp only [State.tick, low, Bool.false_eq_true, if_false]
  exact ⟨rfl, rfl, rfl, rfl, rfl, rfl⟩

/-- With no step due at a sample's tick, the sample qualifies no input (R109). -/
theorem State.samplesDue_nil {s : State} (due : s.sampleDue = true) (none_ : s.samplesDue = []) :
    s.bins[(0 : Fin 41)].present.qualifies s.qualCount s.pins.bin0Present = false ∧
    s.bins[(0 : Fin 41)].full.qualifies s.qualCount s.pins.bin0Full = false ∧
    s.rejectNear.qualifies s.qualCount s.pins.rejectNear = false ∧ s.rejectFull.qualifies s.qualCount s.pins.rejectFull = false ∧
    s.stapler.cartridge.qualifies s.qualCount s.pins.cartridge = false ∧
    s.stapler.emptySensor.qualifies s.qualCount s.pins.emptySensor = false := by
  have dueIf_nil {c : Bool} {i : Instr} (h : dueIf c i = []) : c = false := by cases c <;> simp [dueIf] at h ⊢
  unfold State.samplesDue at none_
  rw [if_pos due] at none_
  simp only [List.append_eq_nil_iff, and_assoc] at none_
  obtain ⟨h1, h2, h3, h4, h5, h6⟩ := none_
  exact ⟨dueIf_nil h1, dueIf_nil h2, dueIf_nil h3, dueIf_nil h4, dueIf_nil h5, dueIf_nil h6⟩

theorem State.samplesDue_of_due {s : State} (live : s.live) (none_ : s.due = []) : s.samplesDue = [] := by
  have low : s.run.resetLow = false := live
  simp only [State.due, low, Bool.false_eq_true, if_false, List.append_eq_nil_iff] at none_
  exact none_.2

theorem State.sampleDue_iff (s : State) : s.sampleDue = true ↔ (if s.run.op = .standby then 100 else 10) ≤ s.now - s.lastSample := by
  simp [State.sampleDue, sampleInterval_eq]

theorem Tower.pollOver_iff (now n : Nat) (x : Tower) : x.pollOver now n = true ↔ ∃ p, x.poll = some p ∧ n ≤ now - p := by
  unfold Tower.pollOver elapsed
  cases x.poll <;> simp

/-- When a tower is polled at a tick (R117, R118). -/
theorem State.polls_iff (s : State) (k : Fin 4) : (s.polled k && (s.chain.towers[k].poll.isNone ||
      (s.chain.towers[k].answered && s.chain.towers[k].pollOver s.now (sampleInterval s.run.op)))) = true ↔
    s.chain.towers[k].present = true ∧ s.chain.enum = none ∧ (s.chain.towers[k].poll = none ∨
      (s.chain.towers[k].answered = true ∧ ∃ p, s.chain.towers[k].poll = some p ∧
        (if s.run.op = .standby then 100 else 10) ≤ s.now - p)) := by
  simp only [State.polled, Bool.and_eq_true, Bool.or_eq_true, Option.isNone_iff_eq_none, Tower.pollOver_iff, sampleInterval_eq, and_assoc]

theorem State.makePolls_towers (s : State) (k : Fin 4) : s.makePolls.chain.towers[k] = s.pollTower k := by simp [State.makePolls]

theorem State.takeSample_pollTower (s : State) (k : Fin 4) : s.takeSample.pollTower k = s.pollTower k := by
  rw [State.takeSample_frame]
  rfl

/-- Settles O7: a sample counts what it does not qualify, and qualifies nothing with no step due. -/
theorem ticksSampleTheInputsAndPollTheTowers : Obligations.TicksSampleTheInputsAndPollTheTowers := by
  intro s empty none_
  refine ⟨s.tick, by rw [step_of_empty empty, State.idle_of_due_nil none_], ?_, ?_, fun k => ?_⟩
  · rintro ⟨live, interval⟩
    obtain ⟨bins, near, full, stapler, last, -⟩ := s.tick_sampled live
    have due := s.sampleDue_iff.mpr interval
    obtain ⟨h1, h2, h3, h4, h5, h6⟩ := State.samplesDue_nil due (State.samplesDue_of_due live none_)
    have sampled : s.takeSample = _ := if_pos due
    rw [bins, near, full, stapler, last, sampled]
    refine ⟨rfl, ?_, ?_, Qual.counted_eq h3, Qual.counted_eq h4, Qual.counted_eq h5, Qual.counted_eq h6⟩
    · simpa using Qual.counted_eq h1
    · simpa using Qual.counted_eq h2
  · intro still
    by_cases live : s.live
    · obtain ⟨bins, near, full, stapler, last, -⟩ := s.tick_sampled live
      have due : ¬ s.sampleDue = true := fun d => still ⟨live, s.sampleDue_iff.mp d⟩
      have sampled : s.takeSample = s := if_neg due
      rw [bins, near, full, stapler, last, sampled]
      exact ⟨rfl, rfl, rfl, rfl, rfl⟩
    · have low : s.run.resetLow = true := by simpa [State.live] using live
      simp [State.tick, low, State.advance]
  · by_cases live : s.live
    · have polls : s.tick.chain.towers[k] = s.pollTower k := by
        rw [(s.tick_sampled live).2.2.2.2.2, s.takeSample.makePolls_towers, s.takeSample_pollTower]
      rw [polls, State.pollTower]
      exact ⟨fun p => if_pos ((s.polls_iff k).mpr p.2), fun n => if_neg fun due => n ⟨live, (s.polls_iff k).mp due⟩⟩
    · have low : s.run.resetLow = true := by simpa [State.live] using live
      exact ⟨fun p => absurd p.1 live, fun _ => by simp [State.tick, low, State.advance]⟩

end Sys2Proof.Machine

namespace Sys2Proof.Machine

/-! ## The due steps -/

theorem mem_dueIf {c x : Instr} {p : Bool} : c ∈ dueIf p x ↔ p = true ∧ c = x := by
  cases p <;> simp [dueIf]

theorem timerDue_iff (now n : Nat) (t : Timer) : timerDue now t n = true ↔ ∃ start, t = some start ∧ n ≤ now - start := by
  unfold timerDue elapsed
  cases t <;> simp

theorem windowDue_iff (now : Nat) (w : Option Window) : windowDue now w = true ↔ ∃ x, w = some x ∧ x.start + x.limit ≤ now := by
  cases w with
  | none => simp [windowDue]
  | some x => exact ⟨fun h => ⟨x, rfl, of_decide_eq_true h⟩, fun ⟨_, e, h⟩ => by cases e; exact decide_eq_true h⟩

theorem OutRec.waits_iff (r : OutRec) : r.waits = false ↔ ∀ cause, r ≠ .hello cause none := by
  cases r with
  | hello c n => cases n <;> simp [OutRec.waits]
  | _ => simp [OutRec.waits]

/-- Something waits to be sent (R175). -/
theorem Report.begins_iff (p : Report) :
    (p.link.sending.isNone && (p.feed.slot.isSome || p.link.queue.head?.any fun r => !r.waits)) = true ↔
      p.link.sending = none ∧ (p.feed.slot ≠ none ∨ ∃ r rest, p.link.queue = r :: rest ∧ ∀ cause, r ≠ .hello cause none) := by
  have head : (p.link.queue.head?.any fun r => !r.waits) = true ↔ ∃ r rest, p.link.queue = r :: rest ∧ ∀ cause, r ≠ .hello cause none := by
    cases p.link.queue with
    | nil => simp
    | cons r rest => simp [← OutRec.waits_iff]
  simp only [Bool.and_eq_true, Bool.or_eq_true, head, Option.isNone_iff_eq_none, Option.isSome_iff_ne_none]

theorem State.mem_linkDue (c : Instr) (s : State) : c ∈ s.linkDue ↔
    ((∃ start, s.report.link.byteTimer = some start ∧ 6 ≤ s.now - start) ∧ c = .interByteTimeout) ∨
    ((s.report.link.sending = none ∧ (s.report.feed.slot ≠ none ∨ ∃ r rest, s.report.link.queue = r :: rest ∧ ∀ cause, r ≠ .hello cause none)) ∧
      c = .transmitBegin) ∨
    ((∃ x, s.report.link.sending = some x ∧ x.record.frame.length * 1000 ≤ (s.now - x.start) * 23040) ∧ c = .transmitDone) := by
  have done : s.report.link.sending.any (Sending.complete s.now) = true ↔
      ∃ x, s.report.link.sending = some x ∧ x.record.frame.length * 1000 ≤ (s.now - x.start) * 23040 := by
    cases s.report.link.sending <;> simp [Sending.complete]
  unfold State.linkDue
  simp only [List.mem_append, mem_dueIf, Report.begins_iff, timerDue_iff, done, or_assoc, Config.interByteTime]

theorem State.mem_windowsDue (c : Instr) (s : State) : c ∈ s.windowsDue ↔
    (∃ w, windowDue s.now (s.path.lateWindow w) = true ∧ c = .pathLateWindowExpiry w) ∨
    (∃ g, windowDue s.now (s.delivery.lateWindow g) = true ∧ c = .deliveryWindowExpiry g) ∨
    (∃ g, windowDue s.now (s.path.stall g) = true ∧ c = .stallTimerExpiry g) := by
  unfold State.windowsDue
  simp only [List.mem_append, List.mem_flatMap, List.mem_finRange, true_and, mem_dueIf]
  constructor
  · rintro ((((((((h | h) | h) | h) | h) | ⟨k, h⟩) | h) | h) | h)
    · exact .inl ⟨_, h⟩
    · exact .inl ⟨_, h⟩
    · exact .inl ⟨_, h⟩
    · exact .inl ⟨_, h⟩
    · exact .inr (.inl ⟨_, h⟩)
    · exact .inr (.inl ⟨_, h⟩)
    · exact .inr (.inr ⟨_, h⟩)
    · exact .inr (.inr ⟨_, h⟩)
    · exact .inr (.inr ⟨_, h⟩)
  · rintro (⟨w, h⟩ | ⟨g, h⟩ | ⟨g, h⟩)
    · cases w <;> simp [h]
    · cases g <;> simp [h]
    · cases g <;> simp [h]

theorem State.mem_finishingDue (c : Instr) (s : State) : c ∈ s.finishingDue ↔
    (s.releaseReady ≠ none ∧ c = .bufferRelease) ∨ (s.splitReady ≠ none ∧ c = .splitEjectStart) ∨
    (timerDue s.now s.compiler.jog 150 = true ∧ c = .jogEnd) ∨ (timerDue s.now s.stapler.homeTimer 600 = true ∧ c = .stapleHomeTimeout) ∨
    (s.ejectReady ≠ none ∧ c = .ejectStart) ∨ (s.shelfReady ≠ none ∧ c = .shelfRelease) ∨
    (timerDue s.now s.delivery.g0Busy (s.path.stallLimit 450) = true ∧ c = .g0GateFree) ∨
    (timerDue s.now s.delivery.holdTimer (s.delivery.holdLimit * 1000) = true ∧ c = .holdTimerExpiry) := by
  unfold State.finishingDue
  simp only [List.mem_append, mem_dueIf, Option.isSome_iff_ne_none, or_assoc]
  exact Iff.rfl

theorem State.mem_runDue (c : Instr) (s : State) : c ∈ s.runDue ↔
    (s.startupDone = true ∧ c = .startupComplete) ∨
    ((s.run.op = .starting ∧ timerDue s.now s.run.startup 1500 = true) ∧ c = .startupTimerExpiry) ∨
    ((∃ e, s.chain.enum = some e ∧ 200 ≤ s.now - e.start) ∧ c = .enumerationSlotTimeout) ∨
    (timerDue s.now s.run.spinUp 400 = true ∧ c = .spinUpEnd) ∨ (timerDue s.now s.run.idle 2000 = true ∧ c = .idleTimerExpiry) ∨
    ((s.run.standbyDelay ≠ 0 ∧ timerDue s.now s.run.standby (s.run.standbyDelay * 60000) = true) ∧ c = .standbyTimerExpiry) ∨
    (timerDue s.now s.run.wake 500 = true ∧ c = .wakeTimerEnd) ∨
    (timerDue s.now s.report.gov.timer (s.report.gov.d * 100) = true ∧ c = .governorTimerExpiry) := by
  have slot : (s.chain.enum.any fun e => Config.slotTime ≤ s.now - e.start) = true ↔ ∃ e, s.chain.enum = some e ∧ 200 ≤ s.now - e.start := by
    cases s.chain.enum with
    | none => simp
    | some e => exact ⟨fun h => ⟨e, rfl, of_decide_eq_true h⟩, fun ⟨_, q, h⟩ => by cases q; exact decide_eq_true h⟩
  unfold State.runDue
  simp only [List.mem_append, mem_dueIf, slot, Bool.and_eq_true, decide_eq_true_eq, or_assoc]
  exact Iff.rfl

theorem State.mem_pollsDue (c : Instr) (s : State) : c ∈ s.pollsDue ↔ ∃ k : Fin 4, (s.chain.towers[k].present = true ∧ s.chain.enum = none ∧
    s.chain.towers[k].answered = false ∧ ∃ p, s.chain.towers[k].poll = some p ∧ (if s.run.op = .standby then 100 else 10) ≤ s.now - p) ∧
      c = .towerPollMissed k := by
  unfold State.pollsDue
  simp only [List.mem_flatMap, List.mem_finRange, true_and, mem_dueIf, State.polled, Bool.and_eq_true, Bool.not_eq_true',
    Option.isNone_iff_eq_none, Tower.pollOver_iff, sampleInterval_eq, and_assoc]

/-- A sample of the level `level` qualifies an input as `v` at this tick (R109). -/
def State.takes (s : State) (q : Qual) (level v : Bool) : Prop :=
  level = v ∧ (if s.run.op = .standby then 100 else 10) ≤ s.now - s.lastSample ∧ q.state ≠ some v ∧
    s.qualCount ≤ if q.last = some v then min 127 (q.run + 1) else 1

theorem State.takes_iff (s : State) (q : Qual) (level v : Bool) :
    s.takes q level v ↔ level = v ∧ s.sampleDue = true ∧ q.qualifies s.qualCount level = true := by
  unfold State.takes
  rw [s.sampleDue_iff, Qual.qualifies_iff]
  constructor <;> rintro ⟨rfl, h⟩ <;> exact ⟨rfl, h⟩

theorem State.mem_samplesDue (c : Instr) (s : State) : c ∈ s.samplesDue ↔
    (∃ v, s.takes s.bins[(0 : Fin 41)].present s.pins.bin0Present v ∧ c = if v then .binPresentCovered 0 else .binEmpty 0) ∨
    (∃ v, s.takes s.bins[(0 : Fin 41)].full s.pins.bin0Full v ∧ c =
      if v then .binFullSensorCovered 0 else if s.bins[(0 : Fin 41)].rereferences then .reReference 0 else .binFullSensorClear 0) ∨
    (∃ v, s.takes s.rejectNear s.pins.rejectNear v ∧ c = .rejectNearFullChange v) ∨
    (∃ v, s.takes s.rejectFull s.pins.rejectFull v ∧ c = .rejectFullChange v) ∨
    (∃ v, s.takes s.stapler.cartridge s.pins.cartridge v ∧ c = if v then .cartridgeInsertion else .cartridgeRemoval) ∨
    ∃ v, s.takes s.stapler.emptySensor s.pins.emptySensor v ∧ c = if v then .cartridgeEmptyCovered else .cartridgeEmptyClear := by
  have taken (q : Qual) (level : Bool) (f : Bool → Instr) : (∃ v, s.takes q level v ∧ c = f v) ↔
      s.sampleDue = true ∧ q.qualifies s.qualCount level = true ∧ c = f level := by
    simp only [State.takes_iff]
    exact ⟨fun ⟨_, ⟨e, due, k⟩, h⟩ => by subst e; exact ⟨due, k, h⟩, fun ⟨due, k, h⟩ => ⟨level, ⟨rfl, due, k⟩, h⟩⟩
  simp only [taken]
  unfold State.samplesDue
  by_cases due : s.sampleDue = true
  · simp only [due, if_true, List.mem_append, mem_dueIf, or_assoc, true_and]
  · simp only [due, Bool.false_eq_true, if_false, List.not_mem_nil, false_and, or_self]

theorem State.mem_due (c : Instr) (s : State) (live : s.live) : c ∈ s.due ↔
    c ∈ s.linkDue ∨ c ∈ s.windowsDue ∨ c ∈ s.finishingDue ∨ c ∈ s.runDue ∨ c ∈ s.pollsDue ∨ c ∈ s.samplesDue := by
  have low : s.run.resetLow = false := live
  simp only [State.due, low, Bool.false_eq_true, if_false, List.mem_append, or_assoc]

/-- The condition a step of the Link Interface is due on. -/
def State.linkDueOn (s : State) : Instr → Prop
  | .interByteTimeout => ∃ start, s.report.link.byteTimer = some start ∧ 6 ≤ s.now - start
  | .transmitBegin => s.report.link.sending = none ∧
      (s.report.feed.slot ≠ none ∨ ∃ r rest, s.report.link.queue = r :: rest ∧ ∀ cause, r ≠ .hello cause none)
  | .transmitDone => ∃ x, s.report.link.sending = some x ∧ x.record.frame.length * 1000 ≤ (s.now - x.start) * 23040
  | _ => False

/-- The condition the expiry of a window or a stall timer is due on. -/
def State.windowsDueOn (s : State) : Instr → Prop
  | .pathLateWindowExpiry w => windowDue s.now (s.path.lateWindow w) = true
  | .deliveryWindowExpiry g => windowDue s.now (s.delivery.lateWindow g) = true
  | .stallTimerExpiry g => windowDue s.now (s.path.stall g) = true
  | _ => False

/-- The condition a step of finishing and delivery is due on. -/
def State.finishingDueOn (s : State) : Instr → Prop
  | .bufferRelease => s.releaseReady ≠ none
  | .splitEjectStart => s.splitReady ≠ none
  | .jogEnd => timerDue s.now s.compiler.jog 150 = true
  | .stapleHomeTimeout => timerDue s.now s.stapler.homeTimer 600 = true
  | .ejectStart => s.ejectReady ≠ none
  | .shelfRelease => s.shelfReady ≠ none
  | .g0GateFree => timerDue s.now s.delivery.g0Busy (s.path.stallLimit 450) = true
  | .holdTimerExpiry => timerDue s.now s.delivery.holdTimer (s.delivery.holdLimit * 1000) = true
  | _ => False

/-- The condition a step of start-up, the Run Controller or the governor is due on. -/
def State.runDueOn (s : State) : Instr → Prop
  | .startupComplete => s.startupDone = true
  | .startupTimerExpiry => s.run.op = .starting ∧ timerDue s.now s.run.startup 1500 = true
  | .enumerationSlotTimeout => ∃ e, s.chain.enum = some e ∧ 200 ≤ s.now - e.start
  | .spinUpEnd => timerDue s.now s.run.spinUp 400 = true
  | .idleTimerExpiry => timerDue s.now s.run.idle 2000 = true
  | .standbyTimerExpiry => s.run.standbyDelay ≠ 0 ∧ timerDue s.now s.run.standby (s.run.standbyDelay * 60000) = true
  | .wakeTimerEnd => timerDue s.now s.run.wake 500 = true
  | .governorTimerExpiry => timerDue s.now s.report.gov.timer (s.report.gov.d * 100) = true
  | _ => False

/-- The condition a missed poll is due on. -/
def State.pollsDueOn (s : State) : Instr → Prop
  | .towerPollMissed k => s.chain.towers[k].present = true ∧ s.chain.enum = none ∧ s.chain.towers[k].answered = false ∧
      ∃ p, s.chain.towers[k].poll = some p ∧ (if s.run.op = .standby then 100 else 10) ≤ s.now - p
  | _ => False

/-- The condition a qualified change of a main-unit input is due on. -/
def State.samplesDueOn (s : State) : Instr → Prop
  | .binEmpty b => b = 0 ∧ s.takes s.bins[(0 : Fin 41)].present s.pins.bin0Present false
  | .binPresentCovered b => b = 0 ∧ s.takes s.bins[(0 : Fin 41)].present s.pins.bin0Present true
  | .binFullSensorCovered b => b = 0 ∧ s.takes s.bins[(0 : Fin 41)].full s.pins.bin0Full true
  | .binFullSensorClear b =>
    b = 0 ∧ s.takes s.bins[(0 : Fin 41)].full s.pins.bin0Full false ∧ ¬ s.bins[(0 : Fin 41)].rereferences = true
  | .reReference b => b = 0 ∧ s.takes s.bins[(0 : Fin 41)].full s.pins.bin0Full false ∧ s.bins[(0 : Fin 41)].rereferences = true
  | .rejectNearFullChange v => s.takes s.rejectNear s.pins.rejectNear v
  | .rejectFullChange v => s.takes s.rejectFull s.pins.rejectFull v
  | .cartridgeInsertion => s.takes s.stapler.cartridge s.pins.cartridge true
  | .cartridgeRemoval => s.takes s.stapler.cartridge s.pins.cartridge false
  | .cartridgeEmptyCovered => s.takes s.stapler.emptySensor s.pins.emptySensor true
  | .cartridgeEmptyClear => s.takes s.stapler.emptySensor s.pins.emptySensor false
  | _ => False

theorem State.linkDue_iff (c : Instr) (s : State) : c ∈ s.linkDue ↔ s.linkDueOn c := by
  rw [State.mem_linkDue]
  cases c <;> simp [State.linkDueOn]

theorem State.windowsDue_iff (c : Instr) (s : State) : c ∈ s.windowsDue ↔ s.windowsDueOn c := by
  rw [State.mem_windowsDue]
  cases c <;> simp [State.windowsDueOn]

theorem State.finishingDue_iff (c : Instr) (s : State) : c ∈ s.finishingDue ↔ s.finishingDueOn c := by
  rw [State.mem_finishingDue]
  cases c <;> simp [State.finishingDueOn]

theorem State.runDue_iff (c : Instr) (s : State) : c ∈ s.runDue ↔ s.runDueOn c := by
  rw [State.mem_runDue]
  cases c <;> simp [State.runDueOn]

theorem State.pollsDue_iff (c : Instr) (s : State) : c ∈ s.pollsDue ↔ s.pollsDueOn c := by
  rw [State.mem_pollsDue]
  cases c <;> simp [State.pollsDueOn]

theorem State.samplesDue_iff (c : Instr) (s : State) : c ∈ s.samplesDue ↔ s.samplesDueOn c := by
  rw [State.mem_samplesDue]
  unfold State.samplesDueOn
  cases s.bins[(0 : Fin 41)].rereferences
  · cases c <;> simp <;> exact and_comm
  · cases c <;> simp <;> exact and_comm

/-- Settles O6: each step stands in its list behind its condition, and in no other. -/
theorem stepsAreDueExactlyOnTheirConditions : Obligations.StepsAreDueExactlyOnTheirConditions := by
  intro s
  refine ⟨fun held => ?_, fun live c => ?_⟩
  · have low : s.run.resetLow = true := by simpa [State.live] using held
    simp [State.due, low]
  rw [s.mem_due c live, State.linkDue_iff, State.windowsDue_iff, State.finishingDue_iff, State.runDue_iff, State.pollsDue_iff,
    State.samplesDue_iff]
  cases c <;> simp only [State.linkDueOn, State.windowsDueOn, State.finishingDueOn, State.runDueOn, State.pollsDueOn, State.samplesDueOn,
    timerDue_iff, windowDue_iff, State.takes, or_false, false_or, Bin.rereferences, Bool.and_eq_true, decide_eq_true_eq]

end Sys2Proof.Machine

/-! Records that are taken or refused (R24, R167, R168): the refusals, the queries and the run controls. -/

namespace Sys2Proof.Machine

/-! ## A taken frame and its refusal -/

/-- A command that acts on the frame it came in is answered by its record's operation, the idle timer following (R145, R167). -/
theorem exec_taken {c : Instr} {s : State} {f : State → State} (answer : exec c s = s.does fun s => f s.frameTaken) (live : s.live) :
    exec c s = .next (f s.frameTaken).syncIdle := by
  rw [answer, State.does_live live]

/-- With room for it, the refusal of a taken frame joins the outbound queue, and nothing else happens (R168, R174). -/
theorem State.answered_refuse (kind tag : Byte) (reason : RefuseReason) (s : State) (room : s.answers) :
    s.answered (.refuse kind tag reason) (s.frameTaken.refuse kind tag reason).syncIdle := by
  have admitted := Report.answer_admitted (.refuse kind tag reason) kind tag s.frameTaken.report room
  rw [State.refuse, admitted]
  exact ⟨rfl, fun x other => Report.append_mem x _ _ other, Report.append_backlog _ _⟩

/-- A command is refused where its record's operation refuses the taken frame. -/
theorem State.refuses_of {c : Instr} {s : State} {f : State → State} {kind tag : Byte} {reason : RefuseReason}
    (answer : exec c s = s.does fun s => f s.frameTaken) (live : s.live) (room : s.answers)
    (refused : f s.frameTaken = s.frameTaken.refuse kind tag reason) : s.refuses c kind tag reason :=
  ⟨_, exec_taken answer live, refused ▸ s.answered_refuse kind tag reason room⟩

/-! ## Wrong lengths -/

theorem jobOpenBody_none {rest : List Byte} (h : rest.length ≠ 6) : jobOpenBody rest = none := by
  unfold jobOpenBody
  split
  · exact absurd rfl h
  · rfl

theorem slotBody_none {rest : List Byte} (h : rest.length ≠ 1) : slotBody rest = none := by
  unfold slotBody
  split
  · exact absurd rfl h
  · rfl

/-- A query of a subject without an index refuses a wrong length (R167). -/
theorem State.queryPlain_badLength {rest : List Byte} (h : rest.length ≠ 2) (subject tag : Byte) (fields : State → List Byte) (s : State) :
    s.queryPlain subject tag rest fields = s.refuse 0x15 tag .badLength := by
  unfold State.queryPlain
  split
  · exact absurd rfl h
  · rfl

/-- A query of a subject with an index refuses a wrong length (R167). -/
theorem State.queryIndexed_badLength {rest : List Byte} (h : rest.length ≠ 2) (subject tag : Byte)
    (fields : Nat → State → Option (List Byte)) (s : State) :
    s.queryIndexed subject tag rest fields = s.refuse 0x15 tag .badLength := by
  unfold State.queryIndexed
  split
  · exact absurd rfl h
  · rfl

/-- A control with a body refuses it (R167). -/
theorem State.control_badLength {extra : List Byte} (h : extra ≠ []) (tag : Byte) (f : State → State) (s : State) :
    s.control tag extra f = s.refuse 0x16 tag .badLength := if_neg h

theorem State.control_nil (tag : Byte) (f : State → State) (s : State) : s.control tag [] f = f s := if_pos rfl

/-- Settles O12: each record's operation refuses the frame before it does anything else. -/
theorem refusedRecordsCarryTheirKindAndTag : Obligations.RefusedRecordsCarryTheirKindAndTag := by
  unfold Obligations.RefusedRecordsCarryTheirKindAndTag
  intro s live room
  refine ⟨fun seq rest idle => ?_, fun kind tag rest => State.refuses_of rfl live room rfl, fun tag idx rest => ⟨fun h => ?_, fun h => ?_,
    fun h => ?_, fun h => ⟨?_, ?_⟩⟩⟩
  · have still : s.frameTaken.working = false := idle
    exact State.refuses_of (f := State.sheetRecord seq rest) rfl live room (by simp [State.sheetRecord, still])
  · exact State.refuses_of (f := State.jobOpenRecord tag rest) rfl live room (by simp [State.jobOpenRecord, jobOpenBody_none h])
  · exact ⟨State.refuses_of (f := State.jobCloseRecord tag rest) rfl live room (by simp [State.jobCloseRecord, slotBody_none h]),
      State.refuses_of (f := State.jobPurgeRecord tag rest) rfl live room (by simp [State.jobPurgeRecord, slotBody_none h])⟩
  · have plain (subject : Byte) (fields : State → List Byte) := State.queryPlain_badLength h subject tag fields s.frameTaken
    have indexed (subject : Byte) (fields : Nat → State → Option (List Byte)) :=
      State.queryIndexed_badLength h subject tag fields s.frameTaken
    simp only [List.mem_cons, List.not_mem_nil, or_false, forall_eq_or_imp, forall_eq]
    exact ⟨State.refuses_of (f := State.queryStateRecord tag rest) rfl live room (plain _ _),
      State.refuses_of (f := State.queryQueueRecord tag rest) rfl live room (plain _ _),
      State.refuses_of (f := State.queryPathRecord tag rest) rfl live room (indexed _ _),
      State.refuses_of (f := State.queryTimingRecord tag rest) rfl live room (plain _ _),
      State.refuses_of (f := State.queryCompilerRecord tag rest) rfl live room (plain _ _),
      State.refuses_of (f := State.queryDeliveryRecord tag rest) rfl live room (indexed _ _),
      State.refuses_of (f := State.queryRouteRecord tag rest) rfl live room (indexed _ _),
      State.refuses_of (f := State.queryBinRecord tag rest) rfl live room (indexed _ _),
      State.refuses_of (f := State.queryTowerRecord tag rest) rfl live room (indexed _ _),
      State.refuses_of (f := State.queryJobRecord tag rest) rfl live room (indexed _ _),
      State.refuses_of (f := State.queryMediaRecord tag rest) rfl live room (indexed _ _),
      State.refuses_of (f := State.querySettingsRecord tag rest) rfl live room (plain _ _)⟩
  · simp only [List.mem_cons, List.not_mem_nil, or_false, forall_eq_or_imp, forall_eq]
    exact ⟨State.refuses_of (f := State.peekRecord tag rest) rfl live room (if_neg h),
      State.refuses_of (f := State.takeRecord tag rest) rfl live room (if_neg h)⟩
  · have refused (f : State → State) := State.control_badLength h tag f s.frameTaken
    simp only [List.mem_cons, List.not_mem_nil, or_false, forall_eq_or_imp, forall_eq]
    exact ⟨State.refuses_of (f := State.pauseRecord tag rest) rfl live room (refused _),
      State.refuses_of (f := State.resumeRecord tag rest) rfl live room (refused _),
      State.refuses_of (f := State.clearJamRecord tag rest) rfl live room (refused _),
      State.refuses_of (f := State.releaseHoldRecord tag rest) rfl live room (refused _),
      State.refuses_of (f := State.towerResetRecord tag rest) rfl live room (refused _),
      State.refuses_of (f := State.standbyRecord tag rest) rfl live room (refused _),
      State.refuses_of (f := State.wakeRecord tag rest) rfl live room (refused _),
      State.refuses_of (f := State.resetControl tag rest) rfl live room (refused _)⟩

end Sys2Proof.Machine

/-! TABLE WRITE (R167, R169, R170): the checks every table's record goes through, and the tables that are written without an owner acting
beyond the values (R8, R47, R99, R122, R162). -/

namespace Sys2Proof.Machine

/-! ## The body of a table write -/

/-- A table's entries come whole: `k` bytes each. -/
def WholeEntries {α : Type} (k : Nat) (entries : List Byte → Option (List α)) : Prop :=
  ∀ l xs, entries l = some xs → l.length = k * xs.length

theorem mediaEntries_whole : WholeEntries 4 mediaEntries := by
  intro l
  induction l using mediaEntries.induct with
  | case1 => rintro xs ⟨⟩; rfl
  | case2 t lo hi e rest ih =>
    intro xs h
    obtain ⟨ys, read, rfl⟩ := Option.map_eq_some_iff.mp h
    simp only [List.length_cons, ih ys read]
    omega
  | case3 l other more =>
    intro xs h
    rw [mediaEntries] at h
    · cases h
    · exact other
    · exact more

theorem wordEntries_whole : WholeEntries 2 wordEntries := by
  intro l
  induction l using wordEntries.induct with
  | case1 => rintro xs ⟨⟩; rfl
  | case2 lo hi rest ih =>
    intro xs h
    obtain ⟨ys, read, rfl⟩ := Option.map_eq_some_iff.mp h
    simp only [List.length_cons, ih ys read]
    omega
  | case3 l other more =>
    intro xs h
    rw [wordEntries] at h
    · cases h
    · exact other
    · exact more

theorem routeEntries_whole : WholeEntries 10 routeEntries := by
  intro l
  induction l using routeEntries.induct with
  | case1 => rintro xs ⟨⟩; rfl
  | case2 v j0 j1 b0 b1 l0 l1 f l p rest ih =>
    intro xs h
    obtain ⟨ys, read, rfl⟩ := Option.map_eq_some_iff.mp h
    simp only [List.length_cons, ih ys read]
    omega
  | case3 l other more =>
    intro xs h
    rw [routeEntries] at h
    · cases h
    · exact other
    · exact more

theorem binEntries_whole : WholeEntries 5 binEntries := by
  intro l
  induction l using binEntries.induct with
  | case1 => rintro xs ⟨⟩; rfl
  | case2 c0 c1 m0 m1 e rest ih =>
    intro xs h
    obtain ⟨ys, read, rfl⟩ := Option.map_eq_some_iff.mp h
    simp only [List.length_cons, ih ys read]
    omega
  | case3 l other more =>
    intro xs h
    rw [binEntries] at h
    · cases h
    · exact other
    · exact more

theorem byteEntries_whole : WholeEntries 1 (fun l : List Byte => some l) := by
  rintro l xs ⟨⟩
  omega

theorem noticeEntries_whole : WholeEntries 21 noticeEntries := by
  intro l xs h
  unfold noticeEntries at h
  split at h
  · cases h
    simp only [List.length_map, List.length_range]
    omega
  · cases h

/-- A body that is not its header and one or more whole entries has no entries (R167). -/
theorem tableBody_none {α : Type} {k : Nat} {entries : List Byte → Option (List α)} (whole : WholeEntries k entries) (pos : 0 < k)
    {rest : List Byte} (h : rest.length ≤ 1 ∨ (rest.length - 1) % k ≠ 0) : tableBody entries rest = none := by
  unfold tableBody
  split
  · rfl
  · rename_i start bytes
    split
    · rename_i x xs e
      have len := whole _ _ e
      simp only [List.length_cons, Nat.add_sub_cancel] at h len
      have : 0 < k * (xs.length + 1) := Nat.mul_pos pos (by omega)
      rw [len, Nat.mul_mod_right] at h
      omega
    · rfl

/-- What a body with entries is: its start index, and the bytes its entries are read from. -/
theorem tableBody_some {α : Type} {entries : List Byte → Option (List α)} {rest : List Byte} {start : Nat} {xs : List α}
    (h : tableBody entries rest = some (start, xs)) : ∃ b bytes, rest = b :: bytes ∧ b.toNat = start ∧ entries bytes = some xs := by
  unfold tableBody at h
  split at h
  · cases h
  · rename_i b bytes
    split at h
    · cases h
      exact ⟨b, bytes, rfl, rfl, ‹_›⟩
    · cases h

theorem tableBody_bytes {start : Byte} {xs : List Byte} (some_ : xs ≠ []) :
    tableBody (fun l => some l) (start :: xs) = some (start.toNat, xs) := by
  cases xs with
  | nil => exact absurd rfl some_
  | cons x xs => rfl

/-! ## The checks of a table write -/

section
variable {α : Type} {tag : Byte} {rest : List Byte} {entries : List Byte → Option (List α)} {ok : Nat → List α → Bool}
  {write : Nat → List α → State → State} {s : State} {c : Instr} {start : Nat} {xs : List α}

theorem State.tableWrite_badLength (none_ : tableBody entries rest = none) :
    s.tableWrite tag rest entries ok write = s.refuse 0x14 tag .badLength := by
  simp [State.tableWrite, none_]

theorem State.tableWrite_of_body (body : tableBody entries rest = some (start, xs)) : s.tableWrite tag rest entries ok write =
    if !ok start xs then s.refuse 0x14 tag .fieldRange else if s.run.op = .starting then s.refuse 0x14 tag .state
    else write start xs s := by
  simp [State.tableWrite, body]

/-- A table write that fails its check is refused FIELD RANGE, and one that passes it STATE in STARTING (R167, R169). -/
theorem State.tableWrite_checked (answer : exec c s = s.does fun s => s.frameTaken.tableWrite tag rest entries ok write) (live : s.live)
    (room : s.answers) (body : tableBody entries rest = some (start, xs)) {bad : Prop} (range : ok start xs = true ↔ ¬ bad) :
    (bad → s.refuses c 0x14 tag .fieldRange) ∧ (¬ bad → s.run.op = .starting → s.refuses c 0x14 tag .state) := by
  have written := State.tableWrite_of_body (tag := tag) (ok := ok) (write := write) (s := s.frameTaken) body
  refine ⟨fun b => State.refuses_of (f := fun s => s.tableWrite tag rest entries ok write) answer live room ?_,
    fun nb starting => State.refuses_of (f := fun s => s.tableWrite tag rest entries ok write) answer live room ?_⟩
  · have : ok start xs = false := by simpa [b] using range
    simp [written, this]
  · have taken : s.frameTaken.run.op = .starting := starting
    simp [written, range.mpr nb, taken]

/-- A table write that passes its check out of STARTING is written (R169). -/
theorem exec_tableWrite (answer : exec c s = s.does fun s => s.frameTaken.tableWrite tag rest entries ok write) (live : s.live)
    (op : s.run.op ≠ .starting) (body : tableBody entries rest = some (start, xs)) (range : ok start xs = true) :
    exec c s = .next (write start xs s.frameTaken).syncIdle := by
  have taken : s.frameTaken.run.op ≠ .starting := op
  rw [exec_taken (f := fun s => s.tableWrite tag rest entries ok write) answer live, State.tableWrite_of_body body]
  simp [range, taken]

end

/-! ## The ranges -/

theorem yesNo_isSome (b : Byte) : (yesNo b).isSome = true ↔ b.toNat ≤ 1 := by
  have zero : b = 0 ↔ b.toNat = 0 := ⟨fun e => by simp [e], fun e => BitVec.eq_of_toNat_eq e⟩
  have one : b = 1 ↔ b.toNat = 1 := ⟨fun e => by simp [e], fun e => BitVec.eq_of_toNat_eq e⟩
  simp only [yesNo, zero, one]
  split_ifs <;> simp <;> omega

theorem RoutePolicy.ofByte_isSome (b : Byte) : (RoutePolicy.ofByte b).isSome = true ↔ b.toNat ≤ 1 := by
  have zero : b = 0 ↔ b.toNat = 0 := ⟨fun e => by simp [e], fun e => BitVec.eq_of_toNat_eq e⟩
  have one : b = 1 ↔ b.toNat = 1 := ⟨fun e => by simp [e], fun e => BitVec.eq_of_toNat_eq e⟩
  simp only [RoutePolicy.ofByte, zero, one]
  split_ifs <;> simp <;> omega

theorem mediaOk_iff (start : Nat) (xs : List MediaWrite) :
    mediaOk start xs = true ↔ ¬ (8 < start + xs.length ∨ ∃ x ∈ xs, 1 < x.eligible.toNat) := by
  simp [mediaOk, yesNo_isSome]

theorem RouteWrite.ok_iff (x : RouteWrite) : x.ok = true ↔ ¬ (1 < x.valid.toNat ∨ 40 < x.last ∨ x.last < x.first ∨
    (x.first = 0 ∧ x.last ≠ 0) ∨ x.keyLimit < x.keyBase ∨ 1 < x.policy.toNat) := by
  simp only [RouteWrite.ok, Bool.and_eq_true, yesNo_isSome, RoutePolicy.ofByte_isSome, decide_eq_true_eq, Bool.not_eq_true',
    Bool.and_eq_false_iff, decide_eq_false_iff_not]
  omega

theorem settingOk_iff (i x : Nat) : settingOk i x = true ↔ (i = 5 ∨ i = 8 ∨ i = 10 → x ≤ 1) ∧ (i = 6 → x ≤ 40) := by
  unfold settingOk
  split <;> simp
  rename_i h5 h8 h10 h6
  exact ⟨fun e => by obtain rfl | rfl | rfl := e <;> contradiction, fun e => absurd e h6⟩

theorem settingsOk_iff (i : Nat) (xs : List Nat) : settingsOk i xs = true ↔ ∀ k x, xs[k]? = some x → settingOk (i + k) x = true := by
  induction xs generalizing i with
  | nil => simp [settingsOk]
  | cons x xs ih =>
    rw [settingsOk, Bool.and_eq_true, ih]
    constructor
    · rintro ⟨first, others⟩ k y h
      cases k with
      | zero => cases h; exact first
      | succ k => rw [show i + (k + 1) = i + 1 + k by omega]; exact others k y h
    · intro h
      refine ⟨h 0 x rfl, fun k y e => ?_⟩
      have := h (k + 1) y e
      rwa [show i + (k + 1) = i + 1 + k by omega] at this

/-- The values of a NOTICE write of 21 bytes are its one entry. -/
theorem noticeEntries_one {xs : List Byte} (len : xs.length = 21) : noticeEntries xs = some [xs] := by
  simp [noticeEntries, len, List.range_succ, List.take_of_length_le]

/-- A NOTICE write of whole entries is in range exactly as one entry at index 0 of values yes and no (R162). -/
theorem noticeOk_iff {start : Nat} {xs : List Byte} (some_ : xs ≠ []) (whole : xs.length % 21 = 0) :
    ∃ ys, tableBody noticeEntries (BitVec.ofNat 8 start :: xs) = some ((BitVec.ofNat 8 start).toNat, ys) ∧ (ys.length = xs.length / 21) ∧
      (xs.length = 21 → ys = [xs]) := by
  have pos := List.length_pos_iff.mpr some_
  have e : noticeEntries xs = some ((List.range (xs.length / 21)).map fun i => (xs.drop (21 * i)).take 21) := if_pos whole
  obtain ⟨n, count⟩ : ∃ n, xs.length / 21 = n + 1 := ⟨xs.length / 21 - 1, by omega⟩
  refine ⟨(List.range (xs.length / 21)).map fun i => (xs.drop (21 * i)).take 21, ?_, by simp, fun len => ?_⟩
  · rw [count, List.range_succ_eq_map, List.map_cons] at e ⊢
    simp [tableBody, e]
  · exact Option.some_injective _ (e.symm.trans (noticeEntries_one len))

/-- Settles O16: each table's check is spelled out, and the frame of all of them makes the three refusals. -/
theorem tableWritesOutOfPlaceAreRefused : Obligations.TableWritesOutOfPlaceAreRefused := by
  unfold Obligations.TableWritesOutOfPlaceAreRefused
  intro s tag rest live room
  dsimp only
  refine ⟨?_, fun start xs body => State.tableWrite_checked rfl live room body (mediaOk_iff start xs),
    fun start xs body => State.tableWrite_checked rfl live room body (by simp),
    fun start xs body => State.tableWrite_checked rfl live room body ?_,
    fun start xs body => State.tableWrite_checked rfl live room body (by simp [yesNo_isSome]),
    fun start xs body some_ => ?_, fun start xs body some_ whole => ?_,
    fun start xs body => State.tableWrite_checked rfl live room body ?_⟩
  · have refused {α : Type} {k : Nat} {entries : List Byte → Option (List α)} (ok : Nat → List α → Bool)
        (write : Nat → List α → State → State) (whole : WholeEntries k entries) (pos : 0 < k)
        (h : rest.length ≤ 1 ∨ (rest.length - 1) % k ≠ 0) :=
      State.tableWrite_badLength (tag := tag) (ok := ok) (write := write) (s := s.frameTaken) (tableBody_none whole pos h)
    simp only [List.mem_cons, List.not_mem_nil, or_false, forall_eq_or_imp, forall_eq]
    exact ⟨fun h => State.refuses_of (f := State.mediaRecord tag rest) rfl live room (refused _ _ mediaEntries_whole (by omega) h),
      fun h => State.refuses_of (f := State.timingRecord tag rest) rfl live room (refused _ _ wordEntries_whole (by omega) h),
      fun h => State.refuses_of (f := State.routeRecord tag rest) rfl live room (refused _ _ routeEntries_whole (by omega) h),
      fun h => State.refuses_of (f := State.binRecord tag rest) rfl live room (refused _ _ binEntries_whole (by omega) h),
      fun h => State.refuses_of (f := State.towerRecord tag rest) rfl live room (refused _ _ byteEntries_whole (by omega) h),
      fun h => State.refuses_of (f := State.noticeRecord tag rest) rfl live room (refused _ _ noticeEntries_whole (by omega) h),
      fun h => State.refuses_of (f := State.settingsRecord tag rest) rfl live room (refused _ _ wordEntries_whole (by omega) h)⟩
  · simp only [Bool.and_eq_true, decide_eq_true_eq, List.all_eq_true, RouteWrite.ok_iff]
    simp only [not_or, not_exists, not_and, Nat.not_lt]
  · subst body
    refine State.tableWrite_checked (start := start.toNat) rfl live room (tableBody_bytes some_) ?_
    have zero : start.toNat = 0 ↔ start = 0#8 := ⟨fun e => BitVec.eq_of_toNat_eq e, fun e => by simp [e]⟩
    simp [yesNo_isSome, zero, and_assoc]
  · subst body
    obtain ⟨ys, read, count, one⟩ := noticeOk_iff (start := start.toNat) some_ whole
    rw [BitVec.ofNat_toNat, BitVec.setWidth_eq] at read
    refine State.tableWrite_checked (start := start.toNat) rfl live room read ?_
    have zero : start.toNat = 0 ↔ start = 0#8 := ⟨fun e => BitVec.eq_of_toNat_eq e, fun e => by simp [e]⟩
    have pos := List.length_pos_iff.mpr some_
    by_cases len : xs.length = 21
    · simp [one len, yesNo_isSome, zero, len]
    · have : ys.length ≠ 1 := by omega
      simp [this, len]
  · simp only [Bool.and_eq_true, decide_eq_true_eq, settingsOk_iff, settingOk_iff]
    simp only [not_or, not_exists, not_and, Nat.not_lt]
    exact and_congr Iff.rfl (forall_congr' fun k => forall_congr' fun x => forall_congr' fun _ => by omega)

end Sys2Proof.Machine

/-! The tables that are written as they stand (R8, R47, R99, R122, R162). -/

namespace Sys2Proof.Machine

/-! ## Entries written at consecutive indexes -/

/-- An entry below the first index written stays. -/
theorem writeAll_below {α β : Type} {n : Nat} (f : β → α → β) (i : Nat) (xs : List α) (v : Vector β n) (k : Fin n) (below : k.val < i) :
    (writeAll f i xs v)[k] = v[k] := by
  induction xs generalizing i v with
  | nil => rfl
  | cons x xs ih =>
    rw [writeAll, ih (i + 1) _ (by omega)]
    split
    · simp [show i ≠ k.val by omega]
    · rfl

/-- An entry written is what its value makes of it. -/
theorem writeAll_written {α β : Type} {n : Nat} (f : β → α → β) (i : Nat) (xs : List α) (v : Vector β n) (k : Fin n) (x : α)
    (from_ : i ≤ k.val) (read : xs[k.val - i]? = some x) : (writeAll f i xs v)[k] = f v[k] x := by
  induction xs generalizing i v with
  | nil => simp at read
  | cons y xs ih =>
    rw [writeAll]
    by_cases e : i = k.val
    · subst e
      rw [writeAll_below f _ xs _ k (by omega), dif_pos k.isLt]
      simp_all
    · rw [ih (i + 1) _ (by omega) (by rw [← read, show k.val - i = k.val - (i + 1) + 1 by omega]; rfl)]
      split
      · simp [e]
      · rfl

/-- An entry past the last one written stays. -/
theorem writeAll_above {α β : Type} {n : Nat} (f : β → α → β) (i : Nat) (xs : List α) (v : Vector β n) (k : Fin n)
    (above : i + xs.length ≤ k.val) : (writeAll f i xs v)[k] = v[k] := by
  induction xs generalizing i v with
  | nil => rfl
  | cons x xs ih =>
    rw [List.length_cons] at above
    rw [writeAll, ih (i + 1) _ (by omega)]
    split
    · simp [show i ≠ k.val by omega]
    · rfl

/-- An entry outside the ones written stays. -/
theorem writeAll_kept {α β : Type} {n : Nat} (f : β → α → β) (i : Nat) (xs : List α) (v : Vector β n) (k : Fin n)
    (outside : k.val < i ∨ i + xs.length ≤ k.val) : (writeAll f i xs v)[k] = v[k] :=
  outside.elim (writeAll_below f i xs v k) (writeAll_above f i xs v k)

/-- The timing items are written as the entries of every table are, each with its own range (R47). -/
theorem writeTiming_get (i : Nat) (xs : List Nat) (v w : Vector Nat 12) (k : Fin 12) (same : v[k] = w[k]) : (writeTiming i xs v)[k] =
    (writeAll (fun _ x => clamp (timingRange k.val).1 (timingRange k.val).2 x) i xs w)[k] := by
  induction xs generalizing i v w with
  | nil => exact same
  | cons x xs ih =>
    refine ih (i + 1) _ _ ?_
    split
    · by_cases e : i = k.val
      · subst e; simp
      · simpa [e] using same
    · exact same

/-! ## MEDIA, TIMING and ROUTE -/

/-- Material in the path, as it is read off the four lists (R47, R138). -/
theorem State.material_iff (s : State) : s.material = true ↔
    s.path.list ≠ [] ∨ s.compiler.state ≠ .empty ∨ s.delivery.shelf ≠ .free ∨ s.delivery.list ≠ [] := by
  simp [State.material, or_assoc]

/-- Settles O17: the values written are the clamped ones, index by index. -/
theorem mediaAndTimingWritesAreClamped : Obligations.MediaAndTimingWritesAreClamped := by
  unfold Obligations.MediaAndTimingWritesAreClamped
  refine ⟨fun s tag rest start xs live op body within eligible => ?_, fun s tag rest start xs live op body within => ⟨fun free => ?_,
    fun material room => ?_⟩⟩
  · refine ⟨_, exec_tableWrite rfl live op body ((mediaOk_iff _ _).mpr ?_), rfl, fun i => ⟨fun x from_ read => ?_, fun outside => ?_⟩⟩
    · rintro (h | ⟨x, mem, h⟩)
      · omega
      · exact absurd (eligible x mem) (by omega)
    · exact writeAll_written _ start xs s.media i x from_ read
    · exact writeAll_kept _ start xs s.media i outside
  · have none_ : s.frameTaken.material = false := by
      rw [← Bool.not_eq_true]
      exact fun h => free ((State.material_iff s).mp h)
    refine ⟨_, exec_tableWrite rfl live op body (by simpa using within), ?_⟩
    rw [none_]
    refine ⟨rfl, fun i => ⟨fun x from_ read => ?_, fun outside => ?_⟩⟩
    · exact (writeTiming_get start xs s.path.timing s.path.timing i rfl).trans (writeAll_written _ start xs s.path.timing i x from_ read)
    · exact (writeTiming_get start xs s.path.timing s.path.timing i rfl).trans (writeAll_kept _ start xs s.path.timing i outside)
  · have stands : s.frameTaken.material = true := (State.material_iff s).mpr material
    refine State.refuses_of (f := State.timingRecord tag rest) rfl live room ?_
    have taken : s.frameTaken.run.op ≠ .starting := op
    rw [State.timingRecord, State.tableWrite_of_body body]
    simp [within, taken, stands]

theorem binOf_val {x : Nat} (h : x ≤ 40) : (binOf x).val = x := by
  simp [binOf, Nat.lt_succ_of_le h]

theorem RoutePolicy.ofByte_sequence (b : Byte) : (RoutePolicy.ofByte b).getD .fill = .sequence ↔ b = 1 := by
  unfold RoutePolicy.ofByte
  split_ifs with zero one
  · simp [zero]
  · simp [one]
  · exact iff_of_false (by simp) one

/-- What a route entry in range is written as (R99). -/
theorem RouteEntry.written (e e' : RouteEntry) (x : RouteWrite) (order : x.first ≤ x.last) (last : x.last ≤ 40) (h : e' = e.write x) :
    (e'.valid = true ↔ x.valid = 1) ∧ e'.job = (if x.job = 0 then none else some x.job) ∧ e'.keyBase = x.keyBase ∧
      e'.keyLimit = x.keyLimit ∧ e'.first.val = x.first ∧ e'.last.val = x.last ∧ e'.cursor = e'.first ∧
      (e'.policy = .sequence ↔ x.policy = 1) ∧ e'.generation = e.generation + 1 := by
  subst h
  exact ⟨decide_eq_true_iff, rfl, rfl, rfl, binOf_val (order.trans last), binOf_val last, rfl, RoutePolicy.ofByte_sequence x.policy, rfl⟩

/-- Settles O18: what a route entry is written as, index by index. -/
theorem routeWriteBumpsTheGeneration : Obligations.RouteWriteBumpsTheGeneration := by
  unfold Obligations.RouteWriteBumpsTheGeneration
  intro s tag rest start xs live op body within inRange
  have checked : (decide (start + xs.length ≤ 32) && xs.all RouteWrite.ok) = true := by
    simp only [Bool.and_eq_true, decide_eq_true_eq, List.all_eq_true, RouteWrite.ok_iff]
    refine ⟨within, fun x mem => ?_⟩
    obtain ⟨valid, order, last, main, keys, policy⟩ := inRange x mem
    omega
  refine ⟨_, exec_tableWrite rfl live op body checked, rfl, fun i => ⟨fun x from_ read => ?_, fun outside => ?_⟩⟩
  · obtain ⟨-, order, last, -⟩ := inRange x (List.mem_of_getElem? read)
    exact RouteEntry.written _ _ x order last (writeAll_written RouteEntry.write start xs s.routes.entries i x from_ read)
  · exact writeAll_kept _ start xs s.routes.entries i outside

/-! ## TOWER and NOTICE -/

/-- The sending test acts on the feed, the Notice Unit and the queue alone (R160). -/
theorem Report.sendingTest_eq (p : Report) : p.sendingTest = { p with
    feed := p.sendingTest.feed, notice := p.sendingTest.notice, link := { p.link with queue := p.sendingTest.link.queue } } := by
  obtain ⟨link, gov, -⟩ := p.sendingTest_sends
  have queue : p.sendingTest.link = { p.link with queue := p.sendingTest.link.queue } := by rw [link]
  rw [← queue, ← gov]

/-- The sending of one slot sends its notice, BACKLOG following, or changes nothing (R160). -/
theorem Report.sendSlot_cases (p : Report) (k : Fin 8) :
    p.sendSlot k = p ∨ ∃ n, p.sendSlot k = (p.setSlot k none).append (.notice n) := by
  unfold Report.sendSlot
  split
  · split
    · exact .inr ⟨_, rfl⟩
    · exact .inl rfl
  · exact .inl rfl

/-- Where the sending test sends, BACKLOG stands with its condition; where it sends nothing, the feed stays (R150, R160). -/
theorem Report.sendSlots_backlog (l : List (Fin 8)) (p : Report) :
    (l.foldl Report.sendSlot p).feed = p.feed ∧ (l.foldl Report.sendSlot p).link.queue = p.link.queue ∨
      p.link.queue.length < (l.foldl Report.sendSlot p).link.queue.length ∧
        (.backlog ∈ (l.foldl Report.sendSlot p).feed.reasons ↔ 16 ≤ (l.foldl Report.sendSlot p).link.queue.length) := by
  induction l generalizing p with
  | nil => exact .inl ⟨rfl, rfl⟩
  | cons k l ih =>
    rw [List.foldl_cons]
    obtain stays | ⟨n, sent⟩ := p.sendSlot_cases k
    · rw [stays]; exact ih p
    · have longer : (p.sendSlot k).link.queue.length = p.link.queue.length + 1 := by rw [sent]; simp [Report.setSlot]
      have backlog : .backlog ∈ (p.sendSlot k).feed.reasons ↔ 16 ≤ (p.sendSlot k).link.queue.length := by
        rw [longer, sent]; exact Report.append_backlog _ _
      obtain ⟨feed, queue⟩ | ⟨more, stands⟩ := ih (p.sendSlot k)
      · exact .inr ⟨by rw [queue, longer]; omega, by rw [feed, queue]; exact backlog⟩
      · exact .inr ⟨by omega, stands⟩

theorem Report.sendingTest_backlog (p : Report) :
    p.sendingTest.feed = p.feed ∧ p.sendingTest.link.queue = p.link.queue ∨
      p.link.queue.length < p.sendingTest.link.queue.length ∧
        (.backlog ∈ p.sendingTest.feed.reasons ↔ 16 ≤ p.sendingTest.link.queue.length) := by
  unfold Report.sendingTest
  exact p.sendSlots_backlog _

/-- The Notice Unit with the notice settings of an entry, a class newly disabled having lost its parked notice (R162). -/
def NoticeUnit.written (x : List Byte) (u : NoticeUnit) : NoticeUnit :=
  let yes := fun i : Nat => decide (x[i]? = some 1)
  ⟨u.flags, u.towerFlags, Vector.ofFn fun k : Fin 8 => yes k.val, Vector.ofFn fun k : Fin 8 => yes (8 + k.val), yes 16,
    Vector.ofFn fun k : Fin 4 => yes (17 + k.val),
    Vector.ofFn fun k : Fin 8 => if u.enables[k] = true ∧ yes k.val = false then none else u.slots[k]⟩

theorem settingAt_eq (x : List Byte) (i : Nat) : settingAt x i = decide (x[i]? = some 1) := by
  rw [settingAt, List.getD_eq_getElem?_getD]
  cases x[i]? <;> simp

/-- A NOTICE write gives the settings to the Notice Unit and makes the sending test (R162). -/
theorem State.writeNotice_eq (x : List Byte) (s : State) :
    s.writeNotice x = { s with report := ({ s.report with notice := s.report.notice.written x } : Report).sendingTest } := by
  simp only [State.writeNotice, NoticeUnit.written, settingAt_eq, Bool.and_eq_true, Bool.not_eq_true', Fin.getElem_fin,
    Vector.getElem_ofFn]

/-- Settles O20: the towers index by index; the notice settings as one record, from which the sending test sends. -/
theorem towerAndNoticeWritesSetTheirValues : Obligations.TowerAndNoticeWritesSetTheirValues := by
  unfold Obligations.TowerAndNoticeWritesSetTheirValues
  refine ⟨fun s tag start xs live op nonzero some_ within yesNos => ?_, fun s tag x live op len yesNos => ?_⟩
  · have zero : start.toNat ≠ 0 := fun e => nonzero (BitVec.eq_of_toNat_eq e)
    refine ⟨_, exec_tableWrite rfl live op (tableBody_bytes some_) ?_, rfl, fun k => ⟨fun x from_ read => ?_, fun outside => ?_⟩⟩
    · simpa [yesNo_isSome, zero, within] using yesNos
    · exact writeAll_written _ (start.toNat - 1) xs s.chain.towers k x (by omega)
        (by rw [← read, show k.val - (start.toNat - 1) = k.val + 1 - start.toNat by omega])
    · exact writeAll_kept _ (start.toNat - 1) xs s.chain.towers k (by omega)
  · have body : tableBody noticeEntries (0 :: x) = some (0, [x]) := by
      simp [tableBody, noticeEntries_one len]
    have written := exec_tableWrite (c := .noticeWrite tag (0 :: x)) rfl live op body (by simpa [yesNo_isSome] using yesNos)
    rw [List.headD_cons, State.writeNotice_eq] at written
    generalize unit : ({ s.frameTaken.report with notice := s.frameTaken.report.notice.written x } : Report) = p at written
    have feed : p.feed = s.report.feed := by rw [← unit]; rfl
    have queue : p.link.queue = s.report.link.queue := by rw [← unit]; rfl
    have frame : p.link = { s.frameTaken.report.link with queue := p.link.queue } ∧ p.gov = s.report.gov ∧
        p.notice = s.report.notice.written x := by rw [← unit]; exact ⟨rfl, rfl, rfl⟩
    obtain ⟨link, gov, notice⟩ := p.sendingTest_sends
    have mem := fun r other => p.sendingTest_mem r other
    have backlog := p.sendingTest_backlog
    rw [frame.1] at link
    rw [frame.2.1] at gov
    rw [frame.2.2, queue] at notice
    rw [frame.2.2, queue] at link
    rw [feed, queue] at backlog
    rw [feed] at mem
    generalize p.sendingTest = t at *
    refine ⟨_, written, ⟨congrArg Link.queue link, notice⟩, ?_, mem, fun sent => ?_, fun unsent => ?_⟩
    · have rest : t = { s.frameTaken.report with
          feed := t.feed, notice := t.notice, link := { s.frameTaken.report.link with queue := t.link.queue } } := by
        obtain ⟨feed', gov', link', notice'⟩ := t
        simp only at gov link
        rw [gov, link]
        rfl
      exact congrArg (fun q : Report => State.syncIdle { s.frameTaken with report := q }) rest
    · obtain ⟨-, same⟩ | ⟨-, stands⟩ := backlog
      · exact absurd same sent
      · exact stands
    · obtain ⟨same, -⟩ | ⟨more, -⟩ := backlog
      · exact same
      · exact absurd (congrArg List.length unsent) (Nat.ne_of_gt more)

end Sys2Proof.Machine

/-! The queries but ATTENTION (R171). -/

namespace Sys2Proof.Machine

theorem index_isSome (n x : Nat) : (index n x).isSome = true ↔ x < n := by
  unfold index
  split <;> simp [*]

theorem towerIndex_isSome (x : Nat) : (towerIndex x).isSome = true ↔ 1 ≤ x ∧ x ≤ 4 := by
  unfold towerIndex
  split
  · simp; omega
  · rw [index_isSome]; omega

/-- A query of a subject without an index is answered with its fields (R171). -/
theorem State.replies_plain {c : Instr} {s : State} {subject tag idx mode : Byte} {fields : State → List Byte}
    (answer : exec c s = s.does fun s => s.frameTaken.queryPlain subject tag [idx, mode] fields) (live : s.live) (room : s.answers) :
    ∃ t, exec c s = .next t ∧ s.answered (.reply subject 0 tag (fields s.frameTaken)) t :=
  ⟨_, exec_taken (f := fun s => s.queryPlain subject tag [idx, mode] fields) answer live, s.answered_reply subject 0 tag _ room⟩

/-- A query of a subject with an index is answered with the fields of its entry, or refused FIELD RANGE (R171). -/
theorem State.replies_indexed {c : Instr} {s : State} {subject tag idx mode : Byte} {fields : Nat → State → Option (List Byte)}
    {inRange : Prop} (answer : exec c s = s.does fun s => s.frameTaken.queryIndexed subject tag [idx, mode] fields) (live : s.live)
    (room : s.answers) (same : fields idx.toNat s.frameTaken = fields idx.toNat s)
    (range : (fields idx.toNat s).isSome = true ↔ inRange) :
    (inRange → ∃ l, fields idx.toNat s = some l ∧ ∃ t, exec c s = .next t ∧ s.answered (.reply subject idx tag l) t) ∧
      (¬ inRange → s.refuses c 0x15 tag .fieldRange) := by
  refine ⟨fun h => ?_, fun h => ?_⟩
  · obtain ⟨l, read⟩ := Option.isSome_iff_exists.mp (range.mpr h)
    have asked : s.frameTaken.queryIndexed subject tag [idx, mode] fields = s.frameTaken.reply subject idx tag l := by
      simp [State.queryIndexed, same, read]
    exact ⟨l, read, _, exec_taken (f := fun s => s.queryIndexed subject tag [idx, mode] fields) answer live,
      asked ▸ s.answered_reply subject idx tag l room⟩
  · have read : fields idx.toNat s = none := by simpa [h] using range
    exact State.refuses_of (f := fun s => s.queryIndexed subject tag [idx, mode] fields) answer live room
      (by simp [State.queryIndexed, same, read])

theorem State.pathFields_isSome (n : Nat) (s : State) : (s.pathFields n).isSome = true ↔ n ≤ 6 := by
  unfold State.pathFields
  dsimp only
  split_ifs <;> simp <;> omega

theorem State.deliveryFields_isSome (n : Nat) (s : State) : (s.deliveryFields n).isSome = true ↔ n ≤ 3 := by
  unfold State.deliveryFields
  dsimp only
  split_ifs <;> simp <;> omega

/-- The fields of an entry are there exactly where its index is. -/
theorem isSome_of_index {α : Type} {n x bound : Nat} (f : Fin n → α) (h : n = bound + 1) :
    ((index n x).map f).isSome = true ↔ x ≤ bound := by
  rw [Option.isSome_map, index_isSome]
  omega

/-- Settles O22: twelve subjects, each answered or refused by the operation of its form. -/
theorem queriesAppendExactlyOneReply : Obligations.QueriesAppendExactlyOneReply := by
  unfold Obligations.QueriesAppendExactlyOneReply
  intro s tag idx mode live room
  dsimp only
  exact ⟨State.replies_plain rfl live room, State.replies_plain (fields := State.queueFields) rfl live room,
    State.replies_plain (fields := State.timingFields) rfl live room,
    State.replies_plain (fields := State.compilerFields) rfl live room,
    State.replies_plain (fields := State.settingsFields) rfl live room,
    State.replies_indexed rfl live room rfl (State.pathFields_isSome _ s),
    State.replies_indexed rfl live room rfl (State.deliveryFields_isSome _ s),
    State.replies_indexed rfl live room rfl (isSome_of_index _ rfl),
    State.replies_indexed rfl live room rfl (isSome_of_index _ rfl),
    State.replies_indexed rfl live room rfl (Option.isSome_map.symm ▸ towerIndex_isSome _),
    State.replies_indexed rfl live room rfl (isSome_of_index _ rfl),
    State.replies_indexed rfl live room rfl (isSome_of_index _ rfl)⟩

end Sys2Proof.Machine

/-! The run controls and CLEAR JAM (R64, R146 to R149, R172). -/

namespace Sys2Proof.Machine

/-- A frame taken out of READY leaves the Run Controller (R146). -/
theorem State.frameTaken_run {s : State} (op : s.run.op ≠ .ready) : s.frameTaken.run = s.run := by
  simp [State.frameTaken, op]

/-- A control without a body is its rule's (R172). -/
theorem exec_control {c : Instr} {s : State} {tag : Byte} {f : State → State}
    (answer : exec c s = s.does fun s => s.frameTaken.control tag [] f) (live : s.live) :
    exec c s = .next (f s.frameTaken).syncIdle := by
  rw [exec_taken (f := fun s => s.control tag [] f) answer live, State.control_nil]

/-- A control that its rule does not take is refused STATE (R168). -/
theorem State.refuses_control {c : Instr} {s : State} {tag : Byte} {f : State → State}
    (answer : exec c s = s.does fun s => s.frameTaken.control tag [] f) (live : s.live) (room : s.answers)
    (refused : f s.frameTaken = s.frameTaken.refuseControl tag) : s.refuses c 0x16 tag .state :=
  State.refuses_of (f := fun s => s.control tag [] f) answer live room ((State.control_nil tag f _).trans refused)

/-- CLEAR JAM finds a sensor covered at a READY tower's entry (R64). -/
theorem State.pathClear_false_of_tower {s : State} {k : Fin 4} (ready : s.chain.towers[k].state = .ready)
    (covered : s.chain.towers[k].teCovered = true) : s.pathClear = false := by
  have found : ((List.finRange 4).all fun t => !(s.chain.towers[t].state = .ready && s.chain.towers[t].teCovered)) = false := by
    rw [List.all_eq_false]
    exact ⟨k, List.mem_finRange k, by simpa using ⟨ready, covered⟩⟩
  rw [State.pathClear, found, Bool.and_false]

theorem State.pathClear_false_of_pin {s : State} (covered : s.pins.firstCovered ≠ none) : s.pathClear = false := by
  have found : s.pins.firstCovered.isNone = false := by simpa [Option.isSome_iff_ne_none] using covered
  rw [State.pathClear, found, Bool.false_and]

theorem State.pathClear_of_clear {s : State} (pins : s.pins.firstCovered = none)
    (towers : ∀ k : Fin 4, s.chain.towers[k].state = .ready → s.chain.towers[k].teCovered = false) : s.pathClear = true := by
  simp only [State.pathClear, pins, Option.isNone_none, Bool.true_and, List.all_eq_true, Bool.not_eq_true', Bool.and_eq_false_iff,
    decide_eq_false_iff_not]
  intro k _
  by_cases ready : s.chain.towers[k].state = .ready
  · exact .inr (towers k ready)
  · exact .inl ready

/-- Settles O24: each control's rule asks for its state first. -/
theorem runControlsActInTheirStatesAlone : Obligations.RunControlsActInTheirStatesAlone := by
  unfold Obligations.RunControlsActInTheirStatesAlone
  intro s tag live
  dsimp only
  refine ⟨fun op => ?_, fun op => ?_, fun op => ?_, fun op => ?_, fun room => ?_⟩
  · have run := State.frameTaken_run (s := s) (by simp [op])
    refine ⟨_, exec_control rfl live, ?_⟩
    simp only [run, op, if_true]
    refine ⟨rfl, fun r => ?_⟩
    by_cases e : r = .paused <;> simp [e]
    rfl
  · have run := State.frameTaken_run (s := s) (by simp [op])
    refine ⟨_, exec_control rfl live, ?_⟩
    simp only [run, op, if_true]
    refine ⟨rfl, fun r => ?_⟩
    by_cases e : r = .paused <;> simp [e]
    rfl
  · have taken : s.frameTaken.run.op = .ready := op
    refine ⟨_, exec_control rfl live, ?_⟩
    simp only [taken, if_true]
    refine ⟨rfl, fun r => ?_⟩
    simp
    rfl
  · have run := State.frameTaken_run (s := s) (by simp [op])
    refine ⟨_, exec_control rfl live, ?_⟩
    simp only [run, op, if_true]
    refine ⟨?_, fun r => ?_⟩
    · simp only [State.enterWaking, run]
      rfl
    · by_cases e : r = .wake <;> simp [e, State.enterWaking]
      rfl
  · have taken (o : OpState) (h : s.run.op ≠ o) : s.frameTaken.run.op ≠ o := h
    refine ⟨fun h => State.refuses_control rfl live room (if_neg h), fun h => State.refuses_control rfl live room (if_neg h),
      fun h => State.refuses_control rfl live room (if_neg h), fun h => State.refuses_control rfl live room (if_neg h),
      fun h => State.refuses_control rfl live room (by simp [taken _ h]), fun h => State.refuses_control rfl live room (if_pos h),
      fun k ready covered => State.refuses_control rfl live room ?_, fun covered => State.refuses_control rfl live room ?_,
      fun h => State.refuses_control rfl live room ?_, fun h listed => State.refuses_of rfl live room ?_⟩
    · have : s.frameTaken.pathClear = false := State.pathClear_false_of_tower (k := k) ready covered
      simp [this]
    · have : s.frameTaken.pathClear = false := State.pathClear_false_of_pin covered
      simp [this]
    · have : s.frameTaken.heldSet = none := h
      simp [this]
    · simp [State.towerResetRecord, State.control_nil, taken _ h, listed]

/-- Whether every job slot is FREE, slot by slot. -/
theorem State.allJobsFree_iff (s : State) : s.allJobsFree = true ↔ ∀ i : Fin 16, s.jobs[i].state = .free := by
  simp only [State.allJobsFree, List.all_eq_true, decide_eq_true_eq, Vector.mem_toList_iff, Vector.mem_iff_getElem]
  exact ⟨fun h i => h _ ⟨i.val, i.isLt, rfl⟩, fun h _ ⟨i, hi, e⟩ => e ▸ h ⟨i, hi⟩⟩

/-- A part with a slot that is not FREE is not idle (R145). -/
theorem State.isIdle_of_job {s : State} (h : s.allJobsFree = false) : s.isIdle = false := by
  rw [State.isIdle, h]
  rfl

/-- Settles O25: E is unset and JAM dropped whichever state the jam is left for. -/
theorem clearJamLeavesTheJam : Obligations.ClearJamLeavesTheJam := by
  unfold Obligations.ClearJamLeavesTheJam
  intro s tag live op pins towers
  have run := State.frameTaken_run (s := s) (by simp [op])
  have clear : s.frameTaken.pathClear = true := State.pathClear_of_clear pins towers
  have op' : s.frameTaken.run.op = .jam := op
  have left := exec_control (c := .clearJam tag []) (s := s) rfl live
  simp only [op', clear, decide_true, Bool.and_true, if_true] at left
  rcases free : s.frameTaken.allJobsFree with _ | _
  · have busy : ¬ ∀ i : Fin 16, s.jobs[i].state = .free := fun h => by
      rw [(State.allJobsFree_iff s.frameTaken).mpr h] at free
      cases free
    have leaves : s.frameTaken.leaveJam =
        ({ s.frameTaken with queue := { s.queue with expected := none } } : State).enterRunning.drop .jam := by
      have : ({ s.frameTaken with queue := { s.frameTaken.queue with expected := none } } : State).allJobsFree = false := free
      simp only [State.leaveJam, this]
      rfl
    have active : (({ s.frameTaken with queue := { s.queue with expected := none } } : State).enterRunning.drop .jam).isIdle = false := by
      exact State.isIdle_of_job (s := ({ s.frameTaken with queue := { s.queue with expected := none } } : State).enterRunning.drop .jam) free
    rw [leaves] at left
    refine ⟨_, left, rfl, by simp, fun r noJam noSpin => ?_, fun _ => ⟨?_, ?_⟩, fun h => absurd h busy⟩
    · simp [State.enterRunning, noJam, noSpin]
      rfl
    · simp [State.enterRunning]
    · rw [State.syncIdle, active]
      simp [State.enterRunning, run]
  · have leaves : s.frameTaken.leaveJam =
        ({ s.frameTaken with queue := { s.queue with expected := none } } : State).enterReady.drop .jam := by
      have : ({ s.frameTaken with queue := { s.frameTaken.queue with expected := none } } : State).allJobsFree = true := free
      simp only [State.leaveJam, this]
      rfl
    rw [leaves] at left
    refine ⟨_, left, rfl, by simp, fun r noJam noSpin => ?_, fun ⟨i, h⟩ => absurd ((State.allJobsFree_iff s.frameTaken).mp free i) h,
      fun _ => ⟨?_, ?_⟩⟩
    · simp [noJam]
      rfl
    · simp
      rfl
    · simp [State.syncIdle, State.enterReady, run]

end Sys2Proof.Machine

/-! JOB OPEN and JOB CLOSE (R2, R3, R7). -/

namespace Sys2Proof.Machine

/-! ## JOB OPEN -/

theorem index_of_val {n x : Nat} {i : Fin n} (h : x = i.val) : index n x = some i := by
  subst h
  simp [index]

theorem index_none {n x : Nat} (h : n ≤ x) : index n x = none := by
  simp [index, Nat.not_lt.mpr h]

theorem Pattern.ofByte_none {b : Byte} (h : 2 < b.toNat) : Pattern.ofByte b = Option.none := by
  have (x : Byte) (small : x.toNat ≤ 2) : b ≠ x := fun e => by subst e; omega
  rw [Pattern.ofByte, if_neg (this 0 (by decide)), if_neg (this 1 (by decide)), if_neg (this 2 (by decide))]

theorem Pattern.ofByte_some {b : Byte} (h : b.toNat ≤ 2) : ∃ p, Pattern.ofByte b = some p := by
  unfold Pattern.ofByte
  split_ifs with zero one two
  · exact ⟨_, rfl⟩
  · exact ⟨_, rfl⟩
  · exact ⟨_, rfl⟩
  · have (x : Byte) (e : b.toNat = x.toNat) : b = x := BitVec.eq_of_toNat_eq e
    have : b.toNat = 0 ∨ b.toNat = 1 ∨ b.toNat = 2 := by omega
    obtain e | e | e := this
    · exact absurd (this 0 e) zero
    · exact absurd (this 1 e) one
    · exact absurd (this 2 e) two

theorem StaplePolicy.ofByte_none {b : Byte} (h : 1 < b.toNat) : StaplePolicy.ofByte b = none := by
  have (x : Byte) (small : x.toNat ≤ 1) : b ≠ x := fun e => by subst e; omega
  rw [StaplePolicy.ofByte, if_neg (this 0 (by decide)), if_neg (this 1 (by decide))]

theorem StaplePolicy.ofByte_some {b : Byte} (h : b.toNat ≤ 1) : ∃ p, StaplePolicy.ofByte b = some p := by
  unfold StaplePolicy.ofByte
  split_ifs with zero one
  · exact ⟨_, rfl⟩
  · exact ⟨_, rfl⟩
  · have (x : Byte) (e : b.toNat = x.toNat) : b = x := BitVec.eq_of_toNat_eq e
    have : b.toNat = 0 ∨ b.toNat = 1 := by omega
    obtain e | e := this
    · exact absurd (this 0 e) zero
    · exact absurd (this 1 e) one

theorem State.numberHeld_iff (i : Fin 16) (n : Nat) (s : State) :
    s.numberHeld i n = true ↔ ∃ k : Fin 16, k ≠ i ∧ s.jobs[k].state ≠ .free ∧ s.jobs[k].number = n := by
  simp [State.numberHeld, and_assoc]

section
variable {s : State} {tag slot lo hi pat pol opt : Byte}

/-- A JOB OPEN with a value out of its range is refused FIELD RANGE, whatever the state (R2, R167). -/
theorem State.jobOpenRecord_fieldRange (bad : 15 < slot.toNat ∨ u16 lo hi = 0 ∨ 2 < pat.toNat ∨ 1 < pol.toNat) :
    s.jobOpenRecord tag [slot, lo, hi, pat, pol, opt] = s.refuse 0x11 tag .fieldRange := by
  simp only [State.jobOpenRecord, jobOpenBody]
  obtain h | h | h | h := bad
  · rw [index_none (by omega)]
  · split
    · exact if_pos h
    · rfl
  · simp [Pattern.ofByte_none h]
  · simp [StaplePolicy.ofByte_none h]

/-- A JOB OPEN in range makes its four tests of the state in the order of R2. -/
theorem State.jobOpenRecord_inRange {i : Fin 16} {p : Pattern} {q : StaplePolicy} (slot_ : slot.toNat = i.val)
    (pattern : Pattern.ofByte pat = some p) (policy : StaplePolicy.ofByte pol = some q) (number : u16 lo hi ≠ 0) :
    s.jobOpenRecord tag [slot, lo, hi, pat, pol, opt] =
      if s.run.op = .starting then s.refuse 0x11 tag .state
      else if s.jobs[i].state ≠ .free then s.refuse 0x11 tag .slotBusy
      else if s.numberHeld i (u16 lo hi) then s.refuse 0x11 tag .duplicateJob
      else (s.setJob i ⟨.opened, u16 lo hi, p, q, opt.getLsbD 0, false, ⟨0, 0, 0, 0, 0, 0⟩⟩).jobOpened := by
  simp only [State.jobOpenRecord, jobOpenBody, index_of_val slot_, pattern, policy, if_neg number]

end

theorem State.jobOpened_cases (s : State) : s.jobOpened = s ∨ s.jobOpened = s.enterRunning ∨ s.jobOpened = s.enterWaking := by
  unfold State.jobOpened
  split
  · exact .inr (.inl rfl)
  · exact .inr (.inr rfl)
  · exact .inl rfl

/-- A part in which a slot has just been opened is not idle (R145). -/
theorem State.isIdle_of_opened {s : State} (i : Fin 16) (h : s.jobs[i].state ≠ .free) : s.isIdle = false :=
  State.isIdle_of_job (Bool.eq_false_iff.mpr fun free => h ((State.allJobsFree_iff s).mp free i))

/-- Settles O13: the record's checks are tested one after the other, and a taken one moves READY and STANDBY. -/
theorem jobOpenOpensItsSlotOrIsRefused : Obligations.JobOpenOpensItsSlotOrIsRefused := by
  unfold Obligations.JobOpenOpensItsSlotOrIsRefused
  refine ⟨fun s tag slot lo hi pat pol opt i p q live op slot_ pattern policy number free others => ?_,
    fun s tag slot lo hi pat pol opt reason live room => ?_⟩
  · have notHeld : s.frameTaken.numberHeld i (u16 lo hi) = false := by
      refine Bool.eq_false_iff.mpr fun held => ?_
      obtain ⟨k, other, used, same⟩ := (State.numberHeld_iff _ _ _).mp held
      exact (others k other).elim used fun differs => differs same
    have op' : s.frameTaken.run.op ≠ .starting := op
    have free' : s.frameTaken.jobs[i].state = .free := free
    have taken := exec_taken (c := .jobOpen tag [slot, lo, hi, pat, pol, opt]) (s := s) rfl live
    rw [State.jobOpenRecord_inRange slot_ pattern policy number, if_neg op', if_neg (not_not.mpr free'), notHeld,
      if_neg Bool.false_ne_true] at taken
    generalize job : (⟨.opened, u16 lo hi, p, q, opt.getLsbD 0, false, ⟨0, 0, 0, 0, 0, 0⟩⟩ : JobSlot) = j at taken ⊢
    have busy (t : State) (jobs : t.jobs = s.jobs.set i j) : t.isIdle = false :=
      State.isIdle_of_opened i (by rw [jobs, ← job]; simp)
    refine ⟨_, taken, ?_, fun ready => ?_, fun standby => ?_, fun noReady noStandby => ?_⟩
    · obtain e | e | e := (s.frameTaken.setJob i j).jobOpened_cases
      · rw [e]; rfl
      · rw [e]; rfl
      · rw [e]; rfl
    · have o : (s.frameTaken.setJob i j).run.op = .ready := ready
      rw [State.jobOpened, o]
      refine ⟨by simp [State.enterRunning], fun r other => ?_, ?_⟩
      · simp [State.enterRunning, other]; rfl
      · rw [State.syncIdle, busy _ rfl]; simp [State.enterRunning, State.frameTaken]
    · have o : (s.frameTaken.setJob i j).run.op = .standby := standby
      rw [State.jobOpened, o]
      refine ⟨by simp [State.enterWaking], fun r other => ?_, ?_⟩
      · simp [State.enterWaking, other]; rfl
      · simp [State.syncIdle, State.enterWaking, State.frameTaken]
    · have stays : (s.frameTaken.setJob i j).jobOpened = s.frameTaken.setJob i j := by
        unfold State.jobOpened
        split
        · exact absurd ‹_› noReady
        · exact absurd ‹_› noStandby
        · rfl
      rw [stays]
      refine ⟨?_, rfl⟩
      rw [State.syncIdle, busy _ rfl]
      simp [State.frameTaken_run noReady]
  · intro bad busy held h
    refine State.refuses_of (f := State.jobOpenRecord tag [slot, lo, hi, pat, pol, opt]) rfl live room ?_
    by_cases range : bad
    · obtain ⟨rfl, -⟩ | ⟨-, h, -⟩ | ⟨-, h, -⟩ | ⟨-, h, -⟩ := h
      · exact State.jobOpenRecord_fieldRange range
      all_goals exact absurd range h
    · obtain ⟨p, pattern⟩ := Pattern.ofByte_some (b := pat) (by omega)
      obtain ⟨q, policy⟩ := StaplePolicy.ofByte_some (b := pol) (by omega)
      have small : slot.toNat < 16 := by omega
      rw [State.jobOpenRecord_inRange (i := ⟨slot.toNat, small⟩) rfl pattern policy (by omega)]
      have op : s.frameTaken.run.op = s.run.op := rfl
      have busy_ : busy ↔ s.frameTaken.jobs[(⟨slot.toNat, small⟩ : Fin 16)].state ≠ .free :=
        ⟨fun ⟨i, e, used⟩ => by obtain rfl : i = ⟨slot.toNat, small⟩ := Fin.ext e.symm; exact used, fun used => ⟨_, rfl, used⟩⟩
      have held_ : held ↔ s.frameTaken.numberHeld ⟨slot.toNat, small⟩ (u16 lo hi) = true := by
        rw [State.numberHeld_iff]
        exact exists_congr fun k => and_congr_left' (not_congr ⟨fun e => Fin.ext e.symm, fun e => by rw [e]⟩)
      rw [op]
      obtain ⟨-, h⟩ | ⟨rfl, -, h⟩ | ⟨rfl, -, h, b⟩ | ⟨rfl, -, h, b, d⟩ := h
      · exact absurd h range
      · rw [if_pos h]
      · rw [if_neg h, if_pos (busy_.mp b)]
      · rw [if_neg h, if_neg fun n => b (busy_.mpr n), if_pos (held_.mp d)]

/-! ## JOB CLOSE -/

/-- Nothing of a job remains: no descriptor and no set names its slot (R7). -/
theorem State.completes_iff (i : Fin 16) (s : State) : s.completes i = true ↔
    (s.jobs[i].state = .closed ∨ (s.jobs[i].state = .purging ∧ s.jobs[i].closeSeen = true)) ∧
      s.queue.entries.any (Entry.names i) = false ∧ s.sets.names i = false := by
  simp [State.completes, and_assoc]

/-- A slot that passes the completion test is FREE, and its cause is latched (R7). -/
theorem State.completionTest_passes {i : Fin 16} {s : State} (passes : s.completes i = true) : ∃ p : Report,
    s.completionTest i = { s with report := p, jobs := s.jobs.set i { s.jobs[i] with state := .free } } ∧
      (if s.jobs[i].state = .closed then Cause.jobComplete else .jobPurged) ∈ p.notice.flags := by
  rw [State.completionTest, if_pos passes]
  exact ⟨_, rfl, (Report.notify_mem _ _ _ _).mpr (.inl rfl)⟩

/-- A slot that does not pass the completion test stays as it is (R7). -/
theorem State.completionTest_fails {i : Fin 16} {s : State} (fails : ¬ s.completes i = true) : s.completionTest i = s := if_neg fails

/-- Settles O14: the slot's new state is written, and the completion test follows it. -/
theorem jobCloseClosesOrCompletesItsSlot : Obligations.JobCloseClosesOrCompletesItsSlot := by
  unfold Obligations.JobCloseClosesOrCompletesItsSlot
  refine ⟨fun s tag slot live room above => ?_, fun s tag slot i live slot_ => ?_⟩
  · refine State.refuses_of (f := State.jobCloseRecord tag [slot]) rfl live room ?_
    simp [State.jobCloseRecord, slotBody, index_none above]
  · have read : slotBody [slot] = some (some i) := congrArg some (index_of_val slot_)
    have record (j : JobState) (h : s.jobs[i].state = j) : s.frameTaken.jobCloseRecord tag [slot] = match j with
        | .free => s.frameTaken.refuse 0x12 tag .jobNotOpen
        | .opened => (s.frameTaken.setJob i { s.jobs[i] with state := .closed }).completionTest i
        | .closed => s.frameTaken.refuse 0x12 tag .state
        | .purging => (s.frameTaken.setJob i { s.jobs[i] with closeSeen := true }).completionTest i := by
      simp only [State.jobCloseRecord, read]
      split <;> rename_i e <;> obtain rfl := Eq.trans (b := s.jobs[i].state) h.symm e <;> rfl
    intro nothing becomes
    have kept (j : JobSlot) (h : s.frameTaken.jobCloseRecord tag [slot] = (s.frameTaken.setJob i j).completionTest i)
        (remains : ¬ nothing) : becomes j none := by
      have fails : ¬ (s.frameTaken.setJob i j).completes i = true := fun c => remains ((State.completes_iff _ _).mp c).2
      refine ⟨_, exec_taken (f := State.jobCloseRecord tag [slot]) rfl live, ?_⟩
      rw [h, State.completionTest_fails fails]
      exact ⟨rfl, nofun, fun _ => rfl⟩
    have freed (j : JobSlot) (h : s.frameTaken.jobCloseRecord tag [slot] = (s.frameTaken.setJob i j).completionTest i)
        (ended : j.state = .closed ∨ (j.state = .purging ∧ j.closeSeen = true)) (gone : nothing) :
        becomes { j with state := .free } (some (if j.state = .closed then .jobComplete else .jobPurged)) := by
      have read_ : (s.frameTaken.setJob i j).jobs[i] = j := by simp [State.setJob]
      have passes : (s.frameTaken.setJob i j).completes i = true := (State.completes_iff _ _).mpr ⟨by rwa [read_], gone⟩
      obtain ⟨p, e, flagged⟩ := State.completionTest_passes passes
      refine ⟨_, exec_taken (f := State.jobCloseRecord tag [slot]) rfl live, ?_⟩
      rw [read_] at flagged e
      rw [h, e]
      refine ⟨?_, fun c found => by cases found; exact flagged, nofun⟩
      have twice : (s.jobs.set i j).set i { j with state := .free } = s.jobs.set i { j with state := .free } := Vector.set_set ..
      rw [← twice]
      rfl
    refine ⟨fun h remains => kept _ (record _ h) remains, fun h gone => freed _ (record _ h) (.inl rfl) gone,
      fun h remains => kept _ (record _ h) remains, fun h gone => ?_, fun room h => ?_, fun room h => ?_⟩
    · have cause : (if ({ s.jobs[i] with closeSeen := true } : JobSlot).state = .closed then Cause.jobComplete else .jobPurged) =
          .jobPurged := if_neg fun e => nomatch (h.symm.trans e : JobState.purging = .closed)
      exact cause ▸ freed _ (record _ h) (.inr ⟨h, rfl⟩) gone
    · exact State.refuses_of (f := State.jobCloseRecord tag [slot]) rfl live room (record _ h)
    · exact State.refuses_of (f := State.jobCloseRecord tag [slot]) rfl live room (record _ h)

end Sys2Proof.Machine

/-! The receiver and the dispatch of an accepted frame (R165 to R167). -/

namespace Sys2Proof.Machine

/-! ## Frame errors -/

/-- A cause handed to the Notice Unit changes of the link its queue alone (R157 to R160). -/
theorem Report.notify_link (n : Notice) (origin : Option (Fin 4)) (p : Report) :
    (p.notify n origin).link = { p.link with queue := (p.notify n origin).link.queue } := by
  simp only [Report.notify]
  split_ifs
  · rfl
  · rfl
  · rfl
  · have sent := (Report.sendingTest_sends
      (({ p with notice := p.notice.latch n.cause origin } : Report).setSlot n.cause.cls (some ⟨n, false⟩))).1
    rw [sent]
    rfl
  · rfl

/-- A frame discarded returns the receiver to HUNT and hands LINK FRAME to the Notice Unit; nothing but the reports changes (R166). -/
theorem State.frameError_hunts (kind : Nat) (s : State) :
    let t := (s.frameError kind).syncIdle
    t = { s with now := t.now, report := t.report, run := { s.run with idle := t.run.idle } } ∧
      t.report.link.receiver = .hunt ∧ t.report.link.byteTimer = none ∧ t.report.link.sending = s.report.link.sending ∧
      s.handed ⟨.linkFrame, some kind, none, none, none⟩ none t := by
  have link := Report.notify_link ⟨.linkFrame, some kind, none, none, none⟩ none s.hunt.report
  have handed := State.notify_handed ⟨.linkFrame, some kind, none, none, none⟩ none s.hunt
  refine ⟨rfl, ?_, ?_, ?_, handed⟩
  · exact (congrArg Link.receiver link).trans rfl
  · exact (congrArg Link.byteTimer link).trans rfl
  · exact (congrArg Link.sending link).trans rfl

/-- Settles O28: each byte that discards the frame is taken by the receiver's state. -/
theorem frameErrorsReturnTheReceiverToHunt : Obligations.FrameErrorsReturnTheReceiverToHunt := by
  unfold Obligations.FrameErrorsReturnTheReceiverToHunt
  intro s b low live hunts
  have discards {x : Byte} {l : Bool} {kind : Nat} (h : s.takeByte x l = s.frameError kind) :
      ∃ t, exec (.badFrame x l) s = .next t ∧ hunts kind t ∧ t.now = s.now := by
    have answer : exec (.badFrame x l) s = s.does fun s => s.takeByte x l := rfl
    exact ⟨_, answer.trans (State.does_live live _), h ▸ State.frameError_hunts kind s, h ▸ rfl⟩
  have taken (x : Byte) : exec (.receivedByte x) s = .next (s.takeByte x false).syncIdle := State.does_live live _
  refine ⟨fun busy => discards ?_, fun length bad => discards ?_, fun len kind got check wrong => discards ?_, fun hunt other => ?_,
    fun hunt => ⟨_, taken _, ?_⟩, fun start timer => ?_⟩
  · unfold State.takeByte
    split
    · exact absurd ‹_› busy
    all_goals rfl
  · cases low with
    | true => simp [State.takeByte, length]
    | false =>
      have range : ¬ (1 ≤ b.toNat ∧ b.toNat ≤ 60) := by
        rintro ⟨pos, small⟩
        obtain rfl | large := bad
        · exact absurd pos (by decide)
        · omega
      simp [State.takeByte, length]
      omega
  · cases low <;> simp [State.takeByte, State.checkByte, check, wrong]
  · rw [taken]
    have noStart : (!false && decide (b = 0xA5)) = false := by simpa using other
    simp only [State.takeByte, hunt, noStart, Bool.false_eq_true, if_false]
  · have e : s.takeByte 0xA5 false = s.receive .length := by simp [State.takeByte, hunt]
    rw [e]
    rfl
  · have answer : exec .interByteTimeout s = .next ((s.reach (start + Config.interByteTime + 1)).frameError 0).syncIdle := by
      show execInterByteTimeout s = _
      rw [execInterByteTimeout, State.does_live live, timer]
    exact ⟨_, answer, State.frameError_hunts 0 (s.reach (start + Config.interByteTime + 1)), rfl⟩

/-! ## A frame received byte by byte -/

/-- A state whose idle timer has followed has it follow while bytes are received. -/
theorem State.receive_syncIdle {s : State} (synced : s.syncIdle = s) (r : Receiver) : (s.receive r).syncIdle = s.receive r :=
  congrArg (State.receive r) synced

/-- A byte that leaves the receiver in the frame is the only thing that changes. -/
theorem receiveAll_receive {s t : State} (live : t.live) (synced : s.syncIdle = s) {r : Receiver} {b : Byte} (bs : List Byte)
    (taken : t.takeByte b false = s.receive r) : receiveAll (b :: bs) t = receiveAll bs (s.receive r) := by
  have answer : exec (.receivedByte b) t = .next (s.receive r) :=
    (State.does_live live _).trans (by rw [taken, State.receive_syncIdle synced])
  rw [receiveAll, answer]

/-- A body byte is kept, and the last one leads to CHECK (R166). -/
theorem State.takeByte_body (s : State) (len kind b : Byte) (got : List Byte) : (s.receive (.body len kind got)).takeByte b false =
    s.receive (if got.length + 1 < len.toNat then .body len kind (got ++ [b]) else .check len kind (got ++ [b])) := by
  have kept : (s.receive (.body len kind got)).takeByte b false = (s.receive (.body len kind got)).bodyByte len kind got b := rfl
  rw [kept, State.bodyByte, List.length_append]
  by_cases more : got.length + [b].length < len.toNat
  · rw [if_pos more, if_pos (show got.length + 1 < len.toNat from more)]
    rfl
  · rw [if_neg more, if_neg (show ¬ got.length + 1 < len.toNat from more)]
    rfl

/-- The bytes of a body lead to CHECK (R166). -/
theorem receiveAll_body {s : State} (live : s.live) (synced : s.syncIdle = s) (len kind : Byte) (got bs last : List Byte)
    (some_ : bs ≠ []) (whole : got.length + bs.length = len.toNat) :
    receiveAll (bs ++ last) (s.receive (.body len kind got)) = receiveAll last (s.receive (.check len kind (got ++ bs))) := by
  induction bs generalizing got with
  | nil => exact absurd rfl some_
  | cons b bs ih =>
    rw [List.length_cons] at whole
    rw [List.cons_append, receiveAll_receive (t := s.receive _) live synced _ (State.takeByte_body s len kind b got)]
    cases bs with
    | nil =>
      rw [List.length_nil] at whole
      rw [if_neg (by omega)]
      rfl
    | cons c bs =>
      rw [List.length_cons] at whole
      rw [if_pos (by omega), ih (got ++ [b]) (by simp) (by simp; omega), List.append_assoc]
      rfl

/-- A frame received in HUNT is accepted and dispatched (R165 to R167). -/
theorem receiveAll_inboundFrame {s : State} (live : s.live) (synced : s.syncIdle = s) (hunt : s.report.link.receiver = .hunt)
    (kind tag : Byte) (rest : List Byte) (small : rest.length ≤ 59) :
    receiveAll (inboundFrame kind tag rest) s = .next (s.frameTaken.record kind tag rest).syncIdle := by
  unfold inboundFrame
  generalize length : (BitVec.ofNat 8 (rest.length + 1) : Byte) = len
  have value : len.toNat = rest.length + 1 := by
    rw [← length, BitVec.toNat_ofNat, Nat.mod_eq_of_lt (by omega)]
  have range : (decide (1 ≤ len.toNat) && decide (len.toNat ≤ 60)) = true := by simp; omega
  have start : s.takeByte 0xA5 false = s.receive .length := by simp [State.takeByte, hunt]
  have lengthTaken : (s.receive .length).takeByte len false = s.receive (.kind len) := by
    simp only [State.takeByte, State.receive, range]
    rfl
  have checked : exec (.receivedByte (frameCheck len kind (tag :: rest))) (s.receive (.check len kind (tag :: rest))) =
      .next ((s.receive (.check len kind (tag :: rest))).checkByte len kind (tag :: rest)
        (frameCheck len kind (tag :: rest))).syncIdle :=
    State.does_live (s := s.receive (.check len kind (tag :: rest))) live fun s => s.takeByte (frameCheck len kind (tag :: rest)) false
  calc receiveAll (0xA5 :: len :: kind :: ((tag :: rest) ++ [frameCheck len kind (tag :: rest)])) s
    _ = receiveAll (len :: kind :: ((tag :: rest) ++ [frameCheck len kind (tag :: rest)])) (s.receive .length) :=
      receiveAll_receive live synced _ start
    _ = receiveAll (kind :: ((tag :: rest) ++ [frameCheck len kind (tag :: rest)])) (s.receive (.kind len)) :=
      receiveAll_receive (t := s.receive _) live synced _ lengthTaken
    _ = receiveAll ((tag :: rest) ++ [frameCheck len kind (tag :: rest)]) (s.receive (.body len kind [])) :=
      receiveAll_receive (t := s.receive _) live synced _ rfl
    _ = receiveAll [frameCheck len kind (tag :: rest)] (s.receive (.check len kind (tag :: rest))) :=
      receiveAll_body live synced len kind [] (tag :: rest) _ (by simp) (by simp [value])
    _ = .next (s.frameTaken.record kind tag rest).syncIdle := by
      rw [receiveAll, checked, State.checkByte, if_pos rfl]
      rfl

/-! ## Dispatch -/

section
variable {s : State} (live : s.live)
include live

/-- A TABLE WRITE reaches the table its id names (R169, R179). -/
theorem exec_tableCommand {tag table : Byte} {rest : List Byte} {c : Instr}
    (listed : [Instr.mediaWrite tag rest, .timingWrite tag rest, .routeWrite tag rest, .binWrite tag rest, .towerWrite tag rest,
      .noticeWrite tag rest, .settingsWrite tag rest][table.toNat]? = some c) :
    exec c s = .next (s.frameTaken.tableRecord tag table rest).syncIdle := by
  unfold State.tableRecord
  generalize table.toNat = n at listed ⊢
  match n, listed with
  | 0, rfl => exact exec_taken (f := State.mediaRecord tag rest) rfl live
  | 1, rfl => exact exec_taken (f := State.timingRecord tag rest) rfl live
  | 2, rfl => exact exec_taken (f := State.routeRecord tag rest) rfl live
  | 3, rfl => exact exec_taken (f := State.binRecord tag rest) rfl live
  | 4, rfl => exact exec_taken (f := State.towerRecord tag rest) rfl live
  | 5, rfl => exact exec_taken (f := State.noticeRecord tag rest) rfl live
  | 6, rfl => exact exec_taken (f := State.settingsRecord tag rest) rfl live

/-- A CONTROL reaches the rule its code names (R172, R179). -/
theorem exec_controlCommand {tag code : Byte} {c : Instr}
    (listed : [Instr.pause tag [], .resume tag [], .clearJam tag [], .releaseHold tag [], .towerReset tag [], .standby tag [],
      .wake tag [], .reset tag []][code.toNat]? = some c) :
    exec c s = .next (s.frameTaken.controlRecord tag code).syncIdle := by
  unfold State.controlRecord
  generalize code.toNat = n at listed ⊢
  match n, listed with
  | 0, rfl => exact exec_taken (f := State.pauseRecord tag []) rfl live
  | 1, rfl => exact exec_taken (f := State.resumeRecord tag []) rfl live
  | 2, rfl => exact exec_taken (f := State.clearJamRecord tag []) rfl live
  | 3, rfl => exact exec_taken (f := State.releaseHoldRecord tag []) rfl live
  | 4, rfl => exact exec_taken (f := State.towerResetRecord tag []) rfl live
  | 5, rfl => exact exec_taken (f := State.standbyRecord tag []) rfl live
  | 6, rfl => exact exec_taken (f := State.wakeRecord tag []) rfl live
  | 7, rfl => exact exec_taken (f := State.resetControl tag []) rfl live

/-- An accepted frame that spells a command acts as that command (R163, R167, R169, R171, R172). -/
theorem exec_frameCommand {kind tag : Byte} {rest : List Byte} {c : Instr} (h : frameCommand kind tag rest = some c) :
    exec c s = .next (s.frameTaken.record kind tag rest).syncIdle := by
  unfold frameCommand at h
  split at h
  case h_1 rest _ _ is => cases h; simp only [State.record, is]; exact exec_taken (f := State.sheetRecord tag rest) rfl live
  case h_2 rest _ _ is => cases h; simp only [State.record, is]; exact exec_taken (f := State.jobOpenRecord tag rest) rfl live
  case h_3 rest _ _ is => cases h; simp only [State.record, is]; exact exec_taken (f := State.jobCloseRecord tag rest) rfl live
  case h_4 rest _ _ is => cases h; simp only [State.record, is]; exact exec_taken (f := State.jobPurgeRecord tag rest) rfl live
  case h_5 table rest is => simp only [State.record, is]; exact exec_tableCommand live h
  case h_6 subject idx mode is =>
    simp only [State.record, is]
    split at h
    · cases h
      simp only [State.queryRecord, *]
      exact exec_taken (f := State.queryStateRecord tag [idx, mode]) rfl live
    · cases h
      simp only [State.queryRecord, *]
      exact exec_taken (f := State.queryQueueRecord tag [idx, mode]) rfl live
    · cases h
      simp only [State.queryRecord, *]
      exact exec_taken (f := State.queryPathRecord tag [idx, mode]) rfl live
    · cases h
      simp only [State.queryRecord, *]
      exact exec_taken (f := State.queryTimingRecord tag [idx, mode]) rfl live
    · cases h
      simp only [State.queryRecord, *]
      exact exec_taken (f := State.queryCompilerRecord tag [idx, mode]) rfl live
    · cases h
      simp only [State.queryRecord, *]
      exact exec_taken (f := State.queryDeliveryRecord tag [idx, mode]) rfl live
    · cases h
      simp only [State.queryRecord, *]
      exact exec_taken (f := State.queryRouteRecord tag [idx, mode]) rfl live
    · cases h
      simp only [State.queryRecord, *]
      exact exec_taken (f := State.queryBinRecord tag [idx, mode]) rfl live
    · cases h
      simp only [State.queryRecord, *]
      exact exec_taken (f := State.queryTowerRecord tag [idx, mode]) rfl live
    · rename_i subject_ mode_
      cases h
      have e : mode = 0 := BitVec.eq_of_toNat_eq mode_
      simp only [State.queryRecord, subject_, State.attentionRecord, e]
      exact exec_taken (f := State.peekRecord tag []) rfl live
    · rename_i subject_ mode_
      cases h
      have e : mode = 1 := BitVec.eq_of_toNat_eq mode_
      simp only [State.queryRecord, subject_, State.attentionRecord, e]
      exact exec_taken (f := State.takeRecord tag []) rfl live
    · cases h
      simp only [State.queryRecord, *]
      exact exec_taken (f := State.queryJobRecord tag [idx, mode]) rfl live
    · cases h
      simp only [State.queryRecord, *]
      exact exec_taken (f := State.queryMediaRecord tag [idx, mode]) rfl live
    · cases h
      simp only [State.queryRecord, *]
      exact exec_taken (f := State.querySettingsRecord tag [idx, mode]) rfl live
    · cases h
  case h_7 code is => simp only [State.record, is]; exact exec_controlCommand live h
  case h_8 => cases h
  case h_9 => cases h
  case h_10 => cases h
  case h_11 rest _ _ no10 no11 no12 no13 no14 no15 no16 _ _ _ =>
    cases h
    have unknown : s.frameTaken.record kind tag rest = s.frameTaken.unknownKindRecord kind tag := by
      unfold State.record
      split
      · exact absurd ‹_› no10
      · exact absurd ‹_› no11
      · exact absurd ‹_› no12
      · exact absurd ‹_› no13
      · exact absurd ‹_› no14
      · exact absurd ‹_› no15
      · exact absurd ‹_› no16
      · rfl
    rw [unknown]
    exact exec_taken (f := State.unknownKindRecord kind tag) rfl live

end

/-- With room for it, a refusal that ends a frame is answered (R168). -/
theorem State.answered_of {kind tag : Byte} {rest : List Byte} {reason : RefuseReason} {s : State} (room : s.answers)
    (refused : s.frameTaken.record kind tag rest = s.frameTaken.refuse kind tag reason) :
    s.answered (.refuse kind tag reason) (s.frameTaken.record kind tag rest).syncIdle :=
  refused ▸ s.answered_refuse kind tag reason room

/-- A TABLE WRITE whose id is no table's is refused (R169, R177). -/
theorem State.tableRecord_unknown {tag table : Byte} {rest : List Byte} {s : State} (above : 7 ≤ table.toNat) :
    s.tableRecord tag table rest = s.refuse 0x14 tag (if rest.length < 2 then .badLength else .fieldRange) := by
  unfold State.tableRecord
  split
  case h_8 =>
    by_cases short : rest.length < 2
    · rw [if_neg (by omega), if_pos short]
    · rw [if_pos (by omega), if_neg short]
  all_goals omega

/-- A CONTROL whose code is no control's is refused (R172). -/
theorem State.controlRecord_unknown {tag code : Byte} {s : State} (above : 8 ≤ code.toNat) :
    s.controlRecord tag code = s.refuse 0x16 tag .fieldRange := by
  unfold State.controlRecord
  split
  case h_9 => rfl
  all_goals omega

/-- A frame of the table, query or control kind that spells no command is refused (R167, R169, R171, R172). -/
theorem State.record_refused {kind tag : Byte} {rest : List Byte} {s : State} (none_ : frameCommand kind tag rest = none) :
    let misshapen := (kind = 0x14 ∧ rest.length < 3) ∨ (kind = 0x15 ∧ rest.length ≠ 3) ∨ (kind = 0x16 ∧ rest.length ≠ 1)
    (misshapen → s.record kind tag rest = s.refuse kind tag .badLength) ∧
      (¬ misshapen → s.record kind tag rest = s.refuse kind tag .fieldRange) := by
  unfold frameCommand at none_
  split at none_
  case h_1 | h_2 | h_3 | h_4 | h_11 => cases none_
  case h_5 table rest is =>
    obtain rfl : kind = 0x14 := BitVec.eq_of_toNat_eq is
    have refused : s.record 0x14 tag (table :: rest) = _ := State.tableRecord_unknown (List.getElem?_eq_none_iff.mp none_)
    rw [refused]
    refine ⟨fun h => ?_, fun h => ?_⟩
    · rw [if_pos]
      simp at h
      omega
    · rw [if_neg]
      simp at h
      omega
  case h_6 subject idx mode is =>
    obtain rfl : kind = 0x15 := BitVec.eq_of_toNat_eq is
    refine ⟨fun h => by simp at h, fun _ => ?_⟩
    show s.queryRecord tag subject idx mode = _
    split at none_
    case h_15 =>
      unfold State.queryRecord
      split
      case h_10 noPeek noTake _ nine =>
        have peek : mode ≠ 0 := fun e => noPeek nine (by rw [e]; rfl)
        have take : mode ≠ 1 := fun e => noTake nine (by rw [e]; rfl)
        rw [State.attentionRecord, if_neg peek, if_neg take]
      case h_14 => rfl
      all_goals contradiction
    all_goals cases none_
  case h_7 code is =>
    obtain rfl : kind = 0x16 := BitVec.eq_of_toNat_eq is
    refine ⟨fun h => by simp at h, fun _ => ?_⟩
    exact State.controlRecord_unknown (List.getElem?_eq_none_iff.mp none_)
  case h_8 rest _ _ is more =>
    obtain rfl : kind = 0x14 := BitVec.eq_of_toNat_eq is
    cases rest with
    | nil => exact ⟨fun _ => rfl, fun h => by simp at h⟩
    | cons table rest => exact (more table rest rfl).elim
  case h_9 rest _ _ is more =>
    obtain rfl : kind = 0x15 := BitVec.eq_of_toNat_eq is
    match rest, more with
    | [], _ => exact ⟨fun _ => rfl, fun h => by simp at h⟩
    | [_], _ => exact ⟨fun _ => rfl, fun h => by simp at h⟩
    | [_, _], _ => exact ⟨fun _ => rfl, fun h => by simp at h⟩
    | [x, y, z], more => exact (more x y z rfl).elim
    | _ :: _ :: _ :: _ :: _, _ => exact ⟨fun _ => rfl, fun h => by simp at h⟩
  case h_10 rest _ _ is more =>
    obtain rfl : kind = 0x16 := BitVec.eq_of_toNat_eq is
    match rest, more with
    | [], _ => exact ⟨fun _ => rfl, fun h => by simp at h⟩
    | [x], more => exact (more x rfl).elim
    | _ :: _ :: _, _ => exact ⟨fun _ => rfl, fun h => by simp at h⟩

/-- Settles O27: the bytes end in the dispatch of the frame, which is the command it spells or the refusal of none. -/
theorem receivedFramesReachTheirRecord : Obligations.ReceivedFramesReachTheirRecord := by
  unfold Obligations.ReceivedFramesReachTheirRecord
  intro s kind tag rest live hunt synced small
  have received := receiveAll_inboundFrame live synced hunt kind tag rest small
  refine ⟨fun c spelled => received.trans (exec_frameCommand live spelled).symm, fun none_ room => ?_⟩
  obtain ⟨short, range⟩ := State.record_refused (s := s.frameTaken) none_
  exact ⟨_, received, fun h => State.answered_of room (short h), fun h => State.answered_of room (range h)⟩

end Sys2Proof.Machine

/-! The transmitter (R173, R175). -/

namespace Sys2Proof.Machine

/-- The classes below one come before it in the order of the sending test. -/
theorem finRange_split : ∀ k : Fin 8, List.finRange 8 = (List.finRange 8).take k ++ k :: (List.finRange 8).drop (k + 1) ∧
    ∀ j ∈ (List.finRange 8).take k, j < k := by decide

/-- One place below 16 records is taken by the notice of the lowest eligible class (R160). -/
theorem NoticeUnit.sends_one {u : NoticeUnit} {k : Fin 8} {x : Fin 8 × Notice} (found : u.eligible k = some x)
    (first : ∀ j < k, u.eligible j = none) : u.sends 15 = [x] := by
  obtain ⟨split, below⟩ := finRange_split k
  have none_ : ((List.finRange 8).take k).filterMap u.eligible = [] :=
    List.filterMap_eq_nil_iff.mpr fun j mem => first j (below j mem)
  have order : (List.finRange 8).filterMap u.eligible = x :: ((List.finRange 8).drop (k + 1)).filterMap u.eligible := by
    conv_lhs => rw [split, List.filterMap_append, none_, List.nil_append, List.filterMap_cons, found]
  rw [NoticeUnit.sends, order]
  rfl

theorem NoticeUnit.sends_none {u : NoticeUnit} (n : Nat) (none_ : ∀ k, u.eligible k = none) : u.sends n = [] := by
  rw [NoticeUnit.sends, List.filterMap_eq_nil_iff.mpr fun k _ => none_ k, List.take_nil]

/-- A class is eligible exactly where its slot holds a notice under no mask (R160). -/
theorem NoticeUnit.eligible_iff (u : NoticeUnit) (k : Fin 8) (y : Fin 8 × Notice) : u.eligible k = some y ↔
    ∃ x, u.slots[k] = some x ∧ u.masks[k] = false ∧ u.globalMask = false ∧ y = (k, x.notice) := by
  unfold NoticeUnit.eligible
  split_ifs with h
  · simp [h, eq_comm]
  · refine iff_of_false nofun ?_
    rintro ⟨x, -, mask, global, -⟩
    exact h ⟨mask, global⟩

theorem NoticeUnit.eligible_none {u : NoticeUnit} {k : Fin 8}
    (h : ∀ x, ¬ (u.slots[k] = some x ∧ u.masks[k] = false ∧ u.globalMask = false)) : u.eligible k = none := by
  refine Option.eq_none_iff_forall_ne_some.mpr fun y found => ?_
  obtain ⟨x, slot, mask, global, -⟩ := (NoticeUnit.eligible_iff u k y).mp found
  exact h x ⟨slot, mask, global⟩

/-- The reports once the head has left the queue for the transmitter, before the sending test (R173, R175). -/
def Report.begun (r : OutRec) (now : Nat) (rest : List OutRec) (p : Report) : Report :=
  ({ p with link := { p.link with queue := rest, sending := some ⟨r, now⟩ } } : Report).syncBacklog

theorem Report.transmit_head {p : Report} {now : Nat} {r : OutRec} {rest : List OutRec} (slot : p.feed.slot = none)
    (queue : p.link.queue = r :: rest) (ready : r.waits = false) :
    p.transmit now = if rest.length = 15 then (p.begun r now rest).sendingTest else p.begun r now rest := by
  have occupancy : (p.send r now).occupancy = Config.backlogMark ↔ rest.length = 15 := by
    simp [Report.occupancy, Report.send, queue, Config.backlogMark]
  simp only [Report.transmit, slot, queue, ready, Report.leave, occupancy]
  rfl

theorem Report.begun_backlog (r : OutRec) (now : Nat) (rest : List OutRec) (p : Report) :
    .backlog ∈ (p.begun r now rest).feed.reasons ↔ 16 ≤ rest.length := by
  simp only [Report.begun, Report.syncBacklog, Report.setReason, Report.occupancy, Config.backlogMark, Feed.set_mem, if_true]
  exact decide_eq_true_iff

theorem Report.begun_mem (r : OutRec) (now : Nat) (rest : List OutRec) (p : Report) (x : Reason) (other : x ≠ .backlog) :
    x ∈ (p.begun r now rest).feed.reasons ↔ x ∈ p.feed.reasons := by
  simp [Report.begun, Report.syncBacklog, Report.setReason, other]

/-- The idle transmitter begins what the reports have for it (R175). -/
theorem exec_transmitBegin_idle {s : State} (live : s.live) (idle : s.report.link.sending = none) :
    exec .transmitBegin s = .next ({ s with report := s.report.transmit s.now } : State).syncIdle := by
  show execTransmitBegin s = _
  rw [execTransmitBegin, State.does_live live, idle]

theorem exec_transmitBegin_busy {s : State} {x : Sending} (live : s.live) (sending : s.report.link.sending = some x) :
    exec .transmitBegin s = .next s.syncIdle := by
  show execTransmitBegin s = _
  rw [execTransmitBegin, State.does_live live, sending]

/-- As the occupancy falls below 16, the notice parked in the lowest eligible class joins the queue (R160, R173). -/
theorem Report.transmit_falls {p : Report} {now : Nat} {r : OutRec} {rest : List OutRec} (slot : p.feed.slot = none)
    (queue : p.link.queue = r :: rest) (ready : r.waits = false) (falls : rest.length = 15) : ∃ q : Report, p.transmit now = q ∧
      q.link = { p.link with
        queue := rest ++ (p.notice.sends 15).map fun x => OutRec.notice x.2, sending := some ⟨r, now⟩ } ∧
      q.gov = p.gov ∧
      q.notice = { p.notice with
        slots := Vector.ofFn fun k : Fin 8 => if k ∈ (p.notice.sends 15).map Prod.fst then none else p.notice.slots[k] } ∧
      (.backlog ∈ q.feed.reasons ↔ p.notice.sends 15 ≠ []) := by
  rw [Report.transmit_head slot queue ready, if_pos falls]
  have stood := Report.begun_backlog r now rest p
  have frame : (p.begun r now rest).link = { p.link with queue := rest, sending := some ⟨r, now⟩ } ∧
      (p.begun r now rest).gov = p.gov ∧ (p.begun r now rest).notice = p.notice := ⟨rfl, rfl, rfl⟩
  generalize p.begun r now rest = b at stood frame ⊢
  obtain ⟨link₀, gov₀, notice₀⟩ := frame
  obtain ⟨link, gov, notice⟩ := b.sendingTest_sends
  have backlog := b.sendingTest_backlog
  generalize b.sendingTest = t at *
  rw [link₀, notice₀] at link notice
  rw [gov₀] at gov
  rw [link₀] at backlog
  simp only [falls] at link notice
  refine ⟨t, rfl, link, gov, notice, ?_⟩
  have count : t.link.queue.length = 15 + (p.notice.sends 15).length := by
    rw [link, List.length_append, List.length_map, falls]
  obtain ⟨feed, same⟩ | ⟨more, stands⟩ := backlog
  · have none_ : p.notice.sends 15 = [] := by
      rw [same, falls] at count
      exact List.length_eq_zero_iff.mp (by omega)
    rw [feed, stood, none_]
    exact iff_of_false (by omega) (fun n => n rfl)
  · rw [falls] at more
    rw [stands]
    refine iff_of_true more fun none_ => ?_
    rw [none_, List.length_nil] at count
    omega

/-- Settles O29: the FEED slot, the head and the waiting HELLO by the branches of the transmission; the notice sent is the one the sending
test finds first. -/
theorem transmitterSendsTheFeedSlotFirst : Obligations.TransmitterSendsTheFeedSlotFirst := by
  unfold Obligations.TransmitterSendsTheFeedSlotFirst
  intro s live
  refine ⟨fun idle => ?_, fun x sending => ⟨exec_transmitBegin_busy live sending, ?_⟩⟩
  · have begins := exec_transmitBegin_idle live idle
    refine ⟨fun f slot => ?_, fun r rest slot queue ready => ⟨fun others => ?_, fun falls => ?_⟩, fun cause rest slot queue => ?_⟩
    · have sent : s.report.transmit s.now =
          ({ s.report with feed := { s.report.feed with slot := none } } : Report).send (.feed f) s.now := by
        simp only [Report.transmit, slot]
      rw [sent] at begins
      exact ⟨_, begins, rfl⟩
    · rw [Report.transmit_head slot queue ready, if_neg others] at begins
      exact ⟨_, begins, rfl, Report.begun_backlog r s.now rest s.report, fun x other => Report.begun_mem r s.now rest s.report x other⟩
    · obtain ⟨q, sent, link, gov, notice, stands⟩ := Report.transmit_falls (now := s.now) slot queue ready falls
      rw [sent] at begins
      refine ⟨_, begins, (s.report.notice.sends 15).map Prod.snd, ?_, ?_, fun none_ => ?_, fun k x found first => ?_⟩
      · have whole : q = { s.report with
            feed := q.feed, notice := { s.report.notice with slots := q.notice.slots }
            link := { s.report.link with
              queue := rest ++ ((s.report.notice.sends 15).map Prod.snd).map OutRec.notice, sending := some ⟨r, s.now⟩ } } := by
          obtain ⟨feed', gov', link', notice'⟩ := q
          simp only at link gov notice
          rw [link, gov, notice, List.map_map]
          rfl
        exact congrArg (fun q : Report => State.syncIdle { s with report := q }) whole
      · exact stands.trans (not_congr List.map_eq_nil_iff.symm)
      · have nothing : s.report.notice.sends 15 = [] :=
          NoticeUnit.sends_none 15 fun k => NoticeUnit.eligible_none fun x found => none_ k x found
        rw [nothing] at notice ⊢
        refine ⟨rfl, notice.trans ?_⟩
        have kept : (Vector.ofFn fun k : Fin 8 => s.report.notice.slots[k]) = s.report.notice.slots := by
          apply Vector.ext
          simp
        simp only [List.map_nil, List.not_mem_nil, if_false, kept]
      · have one : s.report.notice.sends 15 = [(k, x.notice)] :=
          NoticeUnit.sends_one ((NoticeUnit.eligible_iff _ _ _).mpr ⟨x, found.1, found.2.1, found.2.2, rfl⟩)
            fun j below => NoticeUnit.eligible_none fun y eligible => first j y below eligible
        rw [one] at notice ⊢
        refine ⟨rfl, (congrArg NoticeUnit.slots notice).trans ?_⟩
        apply Vector.ext
        intro i hi
        by_cases e : k.val = i
        · simp [← e]
        · simp [e, show (⟨i, hi⟩ : Fin 8) ≠ k from fun h => e (congrArg Fin.val h).symm]
    · have waits : s.report.transmit s.now = s.report := by simp [Report.transmit, slot, queue, OutRec.waits]
      rw [begins, waits]
  · have done : exec .transmitDone s = .next ({ s.reach x.doneAt with
        report := { s.report with link := { s.report.link with sending := none } } } : State).syncIdle := by
      show execTransmitDone s = _
      rw [execTransmitDone, State.does_live live, sending]
      rfl
    refine ⟨_, done, rfl, ?_⟩
    show x.start * 23040 + x.record.frame.length * 1000 ≤ max s.now x.doneAt * 23040
    rw [Sending.doneAt, ceilDiv]
    omega

end Sys2Proof.Machine

/-! What a run of notices and dispositions makes of the reports (R157 to R161, R174), and what a change of bins tells (R104, R150, R152). -/

namespace Sys2Proof.Machine

/-! ## Reports that tell of dispositions -/

/-- The reports `q` have told, after `p`, of the dispositions `ds` among notices: nothing but the queue, the notices and BACKLOG changes, and
with room for it all the dispositions are in the queue in their order. -/
structure Report.Tells (ds : List OutRec) (p q : Report) : Prop where
  gov : q.gov = p.gov
  reasons : ∀ x, x ≠ .backlog → (x ∈ q.feed.reasons ↔ x ∈ p.feed.reasons)
  flags : ∀ c ∈ p.notice.flags, c ∈ q.notice.flags
  link : q.link = { p.link with queue := q.link.queue }
  notices : ds = [] → ∀ r ∈ q.link.queue, r ∈ p.link.queue ∨ ∃ n, r = .notice n
  joins : max 16 p.link.queue.length + ds.length ≤ 48 → ∃ added, q.link.queue = p.link.queue ++ added ∧
    added.filter OutRec.isDisposition = ds ∧ q.link.queue.length ≤ max 16 p.link.queue.length + ds.length

theorem Report.Tells.refl (p : Report) : p.Tells [] p where
  gov := rfl
  reasons _ _ := Iff.rfl
  flags _ := id
  link := rfl
  notices _ _ := .inl
  joins _ := ⟨[], by simp, rfl, by simp⟩

theorem Report.Tells.trans {ds es : List OutRec} {p q r : Report} (h : p.Tells ds q) (k : q.Tells es r) : p.Tells (ds ++ es) r where
  gov := k.gov.trans h.gov
  reasons x other := (k.reasons x other).trans (h.reasons x other)
  flags c mem := k.flags c (h.flags c mem)
  link := by rw [k.link, h.link]
  notices none_ x mem := by
    obtain ⟨rfl, rfl⟩ := List.append_eq_nil_iff.mp none_
    obtain old | new := k.notices rfl x mem
    · exact h.notices rfl x old
    · exact .inr new
  joins room := by
    rw [List.length_append] at room
    obtain ⟨added, queue, told, small⟩ := h.joins (by omega)
    obtain ⟨more, queue', told', small'⟩ := k.joins (by omega)
    refine ⟨added ++ more, by rw [queue', queue, List.append_assoc], by rw [List.filter_append, told, told'], ?_⟩
    rw [List.length_append]
    omega

theorem Report.Tells.then {ds : List OutRec} {p q r : Report} (h : p.Tells ds q) (k : q.Tells [] r) : p.Tells ds r := by
  simpa using h.trans k

/-- A change of the Notice Unit that keeps every latched cause tells of nothing. -/
theorem Report.notice_tells (p : Report) (u : NoticeUnit) (flags : ∀ c ∈ p.notice.flags, c ∈ u.flags) :
    p.Tells [] { p with notice := u } where
  gov := rfl
  reasons _ _ := Iff.rfl
  flags := flags
  link := rfl
  notices _ _ := .inl
  joins _ := ⟨[], by simp, rfl, by simp⟩

/-- The sending test tells of no disposition (R160). -/
theorem Report.sendingTest_tells (p : Report) : p.Tells [] p.sendingTest := by
  obtain ⟨link, gov, notice⟩ := p.sendingTest_sends
  have mem := fun x other => p.sendingTest_mem x other
  have flags := p.sendingTest_flags
  have few : (p.notice.sends p.link.queue.length).length ≤ 16 - p.link.queue.length := by
    rw [NoticeUnit.sends, List.length_take]
    exact Nat.min_le_left _ _
  have queue := congrArg Link.queue link
  dsimp only at queue
  generalize p.sendingTest = q at *
  refine ⟨gov, mem, fun c => by rw [flags.1]; exact id, by rw [link], fun _ r sent => ?_, fun _ => ?_⟩
  · rw [queue, List.mem_append, List.mem_map] at sent
    obtain old | ⟨x, -, rfl⟩ := sent
    · exact .inl old
    · exact .inr ⟨_, rfl⟩
  · refine ⟨_, queue, ?_, ?_⟩
    · rw [List.filter_eq_nil_iff]
      rintro r sent
      obtain ⟨x, -, rfl⟩ := List.mem_map.mp sent
      exact Bool.false_ne_true
    · rw [queue, List.length_append, List.length_map, List.length_nil]
      omega

/-- A NOTICE queued below 16 records tells of no disposition (R159). -/
theorem Report.append_tells (n : Notice) (p : Report) (room : p.link.queue.length < 16) : p.Tells [] (p.append (.notice n)) where
  gov := rfl
  reasons _ other := Report.append_mem _ _ _ other
  flags _ := id
  link := rfl
  notices _ r mem := by
    obtain old | new := List.mem_append.mp mem
    · exact .inl old
    · exact .inr ⟨n, List.mem_singleton.mp new⟩
  joins _ := ⟨[.notice n], rfl, rfl, by
    show (p.link.queue ++ [OutRec.notice n]).length ≤ _
    rw [List.length_append, List.length_singleton, List.length_nil]
    omega⟩

/-- A cause handed to the Notice Unit tells of no disposition (R157 to R160). -/
theorem Report.notify_tells (n : Notice) (origin : Option (Fin 4)) (p : Report) : p.Tells [] (p.notify n origin) := by
  have latched := p.notice_tells (p.notice.latch n.cause origin) fun c mem => (NoticeUnit.latch_mem _ _ _ _).mpr (.inr mem)
  simp only [Report.notify]
  have parked (q : Report) : q.Tells [] (q.setSlot n.cause.cls (some ⟨n, false⟩)) := q.notice_tells _ fun c => id
  split_ifs with stopped masked full taken
  · exact latched
  · exact latched.then (parked _)
  · exact latched.then (parked _)
  · exact (latched.then (parked _)).then (Report.sendingTest_tells _)
  · exact latched.then (Report.append_tells n _ (Nat.lt_of_not_le full))

/-- A disposition given to the Link Interface is told of (R174). -/
theorem Report.dispose_tells (d : OutRec) (lost : Notice) (p : Report) (disposition : d.isDisposition = true) :
    p.Tells [d] (p.dispose d lost) := by
  by_cases room : p.link.queue.length < 48
  · rw [Report.dispose_admitted d lost p room]
    refine ⟨rfl, fun x other => Report.append_mem _ _ _ other, fun _ => id, rfl, nofun, fun _ => ⟨[d], rfl, ?_, ?_⟩⟩
    · simp [disposition]
    · show (p.link.queue ++ [d]).length ≤ _
      rw [List.length_append]
      omega
  · have same : (p.dispose d lost).gov = p.gov ∧ (p.dispose d lost).link = { p.link with queue := (p.dispose d lost).link.queue } := by
      unfold Report.dispose
      rw [if_neg (by simpa [Report.occupancy, Config.outboundCapacity] using room)]
      split
      · unfold Report.handBack
        split <;> (try split) <;> exact ⟨rfl, rfl⟩
      · exact ⟨(Report.notify_tells lost none p).gov, (Report.notify_tells lost none p).link⟩
    exact ⟨same.1, fun x other => Report.dispose_mem _ _ _ _ other, fun c mem => Report.dispose_flags _ _ _ _ mem, same.2, nofun,
      fun small => by simp at small; omega⟩

theorem State.notify_tells (n : Notice) (origin : Option (Fin 4)) (s : State) : s.report.Tells [] (s.notify n origin).report :=
  s.report.notify_tells n origin

/-- A fold of operations that tell of nothing tells of nothing. -/
theorem Report.Tells.foldl {α : Type} (f : State → α → State) (tells : ∀ (s : State) (x : α), s.report.Tells [] (f s x).report) (l : List α) (s : State) :
    s.report.Tells [] (l.foldl f s).report := by
  induction l generalizing s with
  | nil => exact .refl _
  | cons x l ih => exact (tells s x).then (ih (f s x))

/-! ## The governor after a change -/

/-- The governor of a state that told of its change alone acts as on the state before. -/
theorem State.governed.of_same {s u t : State} (h : u.governed t) (gov : u.report.gov = s.report.gov)
    (reason : u.stands .governor ↔ s.stands .governor) : s.governed t := by
  obtain ⟨combines, follows, changed, kept⟩ := h
  rw [gov] at follows changed kept
  exact ⟨combines, follows, changed, fun e => (kept e).trans reason⟩

/-! ## Bins that change -/

theorem State.binNotice_tells (was : BinState) (b : Fin 41) (s : State) : s.report.Tells [] (s.binNotice was b).report := by
  unfold State.binNotice
  dsimp only
  split
  · exact Report.Tells.refl s.report
  split
  · exact s.notify_tells _ _
  split
  · exact s.notify_tells _ _
  · exact Report.Tells.refl s.report

/-- The derived state of a bin is read off the bins and the towers alone (R103). -/
theorem State.binState_same {s t : State} (bins : t.bins = s.bins) (chain : t.chain = s.chain) (b : Fin 41) :
    t.binState b = s.binState b := by
  have reach : t.reachable b = s.reachable b := by
    unfold State.reachable
    rw [chain]
  simp only [State.binState, reach, bins]

/-- A bin that has become FULL or NEAR FULL gives its notice (R104). -/
theorem State.binNotice_latched {was : BinState} {b : Fin 41} {s : State} (changed : was ≠ s.binState b) :
    (s.binState b = .full → (s.binNotice was b).latched .binFull) ∧ (s.binState b = .nearFull → (s.binNotice was b).latched .binNearFull) := by
  unfold State.binNotice
  dsimp only
  rw [if_neg fun e => changed e.symm]
  refine ⟨fun full => ?_, fun near => ?_⟩
  · rw [if_pos full]
    simp
  · rw [if_neg (by simp [near]), if_pos near]
    simp

/-- Bins that may have changed since `was` have given their notices (R104). -/
def State.binsTold (s was : State) (bs : List (Fin 41)) : State := bs.foldl (fun s b => s.binNotice (was.binState b) b) s

theorem State.binsTold_tells (was : State) (bs : List (Fin 41)) (s : State) : s.report.Tells [] (s.binsTold was bs).report :=
  .foldl _ (fun s b => s.binNotice_tells _ b) bs s

theorem State.binsTold_latched (was : State) (bs : List (Fin 41)) (s : State) (b : Fin 41) (mem : b ∈ bs)
    (changed : was.binState b ≠ s.binState b) : (s.binState b = .full → (s.binsTold was bs).latched .binFull) ∧
      (s.binState b = .nearFull → (s.binsTold was bs).latched .binNearFull) := by
  induction bs generalizing s with
  | nil => cases mem
  | cons c bs ih =>
    have same : (s.binNotice (was.binState c) c).binState b = s.binState b := State.binState_same (by simp) (by simp) b
    have later := (State.binsTold_tells was bs (s.binNotice (was.binState c) c)).flags
    obtain rfl | rest := List.mem_cons.mp mem
    · obtain ⟨full, near⟩ := State.binNotice_latched changed
      exact ⟨fun h => later _ (full h), fun h => later _ (near h)⟩
    · rw [← same]
      exact ih _ rest (same ▸ changed)

theorem Report.recombine_link (cond : Fin 6 → Bool) (now : Nat) (p : Report) : (p.recombine cond now).link = p.link := by
  unfold Report.recombine
  dsimp only
  split_ifs <;> rfl

/-- Bins that may have changed give their notices, OVERFLOW FULL follows bin 0 and the governor its conditions; nothing else changes
(R104, R150, R152). -/
theorem State.binsChanged_tells (s was : State) (bs : List (Fin 41)) :
    let t := s.binsChanged was bs
    t = { s with report := t.report } ∧ s.governed t ∧ (t.stands .overflowFull ↔ t.binState 0 = .full) ∧
      (∀ r ∈ t.report.link.queue, r ∈ s.report.link.queue ∨ ∃ n, r = .notice n) ∧
      (∀ b ∈ bs, was.binState b ≠ s.binState b → (s.binState b = .full → t.latched .binFull) ∧
        (s.binState b = .nearFull → t.latched .binNearFull)) := by
  have told := State.binsTold_tells was bs s
  have latched := State.binsTold_latched was bs s
  have eq : s.binsChanged was bs = { s with report := (s.binsChanged was bs).report } := (State.eq_iff _ _).mpr (by simp)
  have changed : s.binsChanged was bs =
      ((s.binsTold was bs).setReason .overflowFull ((s.binsTold was bs).binState 0 = .full)).recombine := rfl
  rw [changed] at eq ⊢
  generalize s.binsTold was bs = u at *
  refine ⟨eq, ?_, ?_, ?_, ?_⟩
  · refine (State.recombine_governed _).of_same told.gov ?_
    rw [State.setReason_stands, if_neg (by decide)]
    exact told.reasons .governor (by decide)
  · rw [State.recombine_stands _ _ (by decide), State.setReason_stands, if_pos rfl, decide_eq_true_iff]
    rfl
  · have link : (u.setReason .overflowFull (u.binState 0 = .full)).recombine.report.link = u.report.link := Report.recombine_link _ _ _
    rw [link]
    exact told.notices rfl
  · intro b mem differs
    obtain ⟨full, near⟩ := latched b mem differs
    simp only [State.latched, State.recombine_notice]
    exact ⟨full, near⟩

end Sys2Proof.Machine

/-! BIN WRITE with no set held (R114), and the enumeration of the towers (R117, R124, R143). -/

namespace Sys2Proof.Machine

/-! ## BIN -/

/-- With no set held, a bin event finds nothing to re-evaluate (R131). -/
theorem State.binEvent_noneHeld {s : State} (none_ : s.noneHeld) (b : Fin 41) : s.binEvent b = s := by
  obtain ⟨shelf, compiler⟩ := none_
  have empty : s.delivery.onShelf = none := if_neg shelf
  simp [State.binEvent, empty, compiler, State.reevaluateFor]

theorem State.foldl_binEvent_noneHeld {s : State} (none_ : s.noneHeld) (bs : List (Fin 41)) : bs.foldl State.binEvent s = s := by
  induction bs with
  | nil => rfl
  | cons b bs ih => rw [List.foldl_cons, State.binEvent_noneHeld none_, ih]

theorem mem_binsWritten {start n : Nat} {b : Fin 41} : b ∈ binsWritten start n ↔ start ≤ b.val ∧ b.val < start + n := by
  simp [binsWritten]

/-- Settles O19: the values are written index by index; what follows them is what changed bins tell, and no set is held for their events. -/
theorem binWriteKeepsFillAndReservations : Obligations.BinWriteKeepsFillAndReservations := by
  unfold Obligations.BinWriteKeepsFillAndReservations
  intro s tag rest start xs live op none_ body within yesNos
  have taken := exec_tableWrite (c := .binWrite tag rest) rfl live op body (by simpa [yesNo_isSome, within] using yesNos)
  let u : State := { s.frameTaken with bins := writeAll Bin.write start xs s.bins }
  obtain ⟨frame, governed, overflow, queue, told⟩ := u.binsChanged_tells s.frameTaken (binsWritten start xs.length)
  have unheld : (u.binsChanged s.frameTaken (binsWritten start xs.length)).noneHeld := by
    rw [frame]
    exact none_
  have written : s.frameTaken.writeBins start xs = u.binsChanged s.frameTaken (binsWritten start xs.length) :=
    State.foldl_binEvent_noneHeld unheld _
  have bins : (u.binsChanged s.frameTaken (binsWritten start xs.length)).bins = writeAll Bin.write start xs s.bins := by rw [frame]
  have states (b : Fin 41) : (u.binsChanged s.frameTaken (binsWritten start xs.length)).binState b = u.binState b := by
    rw [frame]
    rfl
  rw [written] at taken
  generalize u.binsChanged s.frameTaken (binsWritten start xs.length) = t at *
  refine ⟨_, taken, ?_, queue, overflow, governed.of_same rfl Iff.rfl, fun b => ⟨fun x from_ read => ⟨?_, fun changed => ?_⟩,
    fun outside => ?_⟩⟩
  · rw [frame]
    rfl
  · show t.bins[b] = _
    rw [bins]
    exact writeAll_written Bin.write start xs s.bins b x from_ read
  · have listed : b ∈ binsWritten start xs.length := by
      have := (List.getElem?_eq_some_iff.mp read).1
      exact mem_binsWritten.mpr ⟨from_, by omega⟩
    have differs : s.frameTaken.binState b ≠ u.binState b := fun e => changed ((states b).trans e.symm)
    obtain ⟨full, near⟩ := told b listed differs
    rw [← states b] at full near
    exact ⟨full, near⟩
  · show t.bins[b] = _
    rw [bins]
    exact writeAll_kept Bin.write start xs s.bins b outside

/-! ## Enumeration -/

/-- The end of an enumeration completes the HELLO of a start-up, or reports that of a TOWER RESET (R117, R124, R143). -/
theorem State.enumerationEnds_spec (startup : Bool) (s : State) :
    s.enumerationEnds startup = { s with report := (s.enumerationEnds startup).report, chain := { s.chain with enum := none } } ∧
      (startup = false → (s.enumerationEnds startup).latched .towerResetDone) ∧
      (startup = true →
        (s.enumerationEnds startup).report.link.queue = s.report.link.queue.map (OutRec.complete s.towersPresent)) := by
  cases startup with
  | false => exact ⟨rfl, fun _ => (State.notify_latched _ _ _ _).mpr (.inl rfl), nofun⟩
  | true => exact ⟨rfl, nofun, fun _ => rfl⟩

/-- An answer of the tower addressed (R117). -/
theorem exec_enumerationReply {s : State} {e : Enumeration} (live : s.live) (enum : s.chain.enum = some e) :
    exec .enumerationReply s = .next (
      let u : State := { s with chain := { s.chain with
        towers := s.chain.towers.set e.tower { s.chain.towers[e.tower] with present := true, missed := 0 } } }
      if h : e.tower.val + 1 < 4 then { u with chain := { u.chain with enum := some ⟨e.startup, ⟨e.tower.val + 1, h⟩, s.now⟩ } }
      else u.enumerationEnds e.startup).syncIdle := by
  show execEnumerationReply s = _
  rw [execEnumerationReply, State.does_live live, enum]

/-- Settles O9: the answer, the time-out and the reset of an enumeration. -/
theorem enumerationCountsTowersInOrder : Obligations.EnumerationCountsTowersInOrder := by
  unfold Obligations.EnumerationCountsTowersInOrder
  refine ⟨fun s e live enum => ?_, fun s e live enum => ?_, fun s tag live op listed => ?_⟩
  · have answered := exec_enumerationReply live enum
    dsimp only at answered
    split at answered
    · rename_i more
      refine ⟨_, answered, rfl, rfl, fun k next => ⟨?_, rfl⟩, fun last => ?_⟩
      · obtain rfl : k = ⟨e.tower.val + 1, more⟩ := Fin.ext next
        rfl
      · rw [last] at more
        exact absurd more (by decide)
    · rename_i last
      refine ⟨_, answered, ?_⟩
      obtain ⟨frame, done, completed⟩ := State.enumerationEnds_spec e.startup { s with chain := { s.chain with
        towers := s.chain.towers.set e.tower { s.chain.towers[e.tower] with present := true, missed := 0 } } }
      generalize State.enumerationEnds e.startup _ = t at *
      refine ⟨?_, ?_, fun k next => absurd k.isLt (by omega), fun _ => ⟨?_, done, fun startup => ?_⟩⟩
      · rw [frame]; rfl
      · rw [frame]; rfl
      · rw [frame]; rfl
      · rw [frame]; rw [frame] at completed; exact completed startup
  · obtain ⟨frame, done, completed⟩ := State.enumerationEnds_spec e.startup (s.reach (e.start + Config.slotTime))
    have ended : exec .enumerationSlotTimeout s = .next ((s.reach (e.start + Config.slotTime)).enumerationEnds e.startup).syncIdle := by
      show execEnumerationSlotTimeout s = _
      rw [execEnumerationSlotTimeout, State.does_live live, enum]
    generalize State.enumerationEnds e.startup _ = t at *
    refine ⟨_, ended, ?_, done, completed⟩
    rw [frame]
    rfl
  · have taken := exec_control (c := .towerReset tag []) (s := s) rfl live
    have op' : s.frameTaken.run.op ≠ .starting := op
    have empty : (!s.frameTaken.delivery.list.isEmpty) = false := by simp [listed]
    rw [if_neg op', empty, if_neg Bool.false_ne_true] at taken
    let u : State := { s.frameTaken with
      chain := ⟨Vector.ofFn fun t : Fin 4 => s.chain.towers[t].unqualify, some ⟨false, 0, s.now⟩⟩
      bins := Vector.ofFn fun b : Fin 41 => if (towerOf b).isSome then s.bins[b].unqualify else s.bins[b] }
    obtain ⟨frame, governed, -⟩ := u.binsChanged_tells s.frameTaken towerBins
    have started : s.frameTaken.enumerate false = u.binsChanged s.frameTaken towerBins := rfl
    rw [started] at taken
    generalize u.binsChanged s.frameTaken towerBins = t at *
    refine ⟨_, taken, ?_, ?_, governed.of_same rfl Iff.rfl, fun k => ?_, fun b other => ?_, ?_⟩
    · rw [frame]; rfl
    · rw [frame]; rfl
    · rw [frame]; exact Vector.getElem_ofFn ..
    · have tower : (towerOf b).isSome = true := by
        have : b.val ≠ 0 := fun e => other (Fin.ext e)
        simp [towerOf, this]
      rw [frame]
      exact (Vector.getElem_ofFn ..).trans (if_pos tower)
    · rw [frame]
      exact Vector.getElem_ofFn ..

end Sys2Proof.Machine

/-! The body of a SHEET (R23, R25, R177, R179). -/

namespace Sys2Proof.Machine

/-- The length the flags of a SHEET call for after its six fixed bytes (R177). -/
def optionsLength (key count finish : Bool) : Nat := (if key then 2 else 0) + (if count then 1 else 0) + (if finish then 1 else 0)

/-- The optional fields of a SHEET of the right length, each at its place (R177). -/
def optionsAt (key count finish : Bool) (l : List Byte) : Option Nat × Option Byte × Option Byte :=
  let atCount := if key then 2 else 0
  let atFinish := atCount + if count then 1 else 0
  (if key then some (u16 (l.getD 0 0) (l.getD 1 0)) else none, if count then some (l.getD atCount 0) else none,
    if finish then some (l.getD atFinish 0) else none)

/-- The optional fields are read exactly from a body of the length its flags call for (R177). -/
theorem sheetOptions_eq (flags : Byte) (l : List Byte) : sheetOptions flags l =
    if l.length = optionsLength (flags.getLsbD 2) (flags.getLsbD 3) (flags.getLsbD 4) then
      some (optionsAt (flags.getLsbD 2) (flags.getLsbD 3) (flags.getLsbD 4) l) else none := by
  unfold sheetOptions optWord optByte optionsLength optionsAt
  generalize flags.getLsbD 2 = key, flags.getLsbD 3 = count, flags.getLsbD 4 = finish
  match l with
  | [] => cases key <;> cases count <;> cases finish <;> rfl
  | [a] => cases key <;> cases count <;> cases finish <;> rfl
  | [a, b] => cases key <;> cases count <;> cases finish <;> rfl
  | [a, b, c] => cases key <;> cases count <;> cases finish <;> rfl
  | [a, b, c, d] => cases key <;> cases count <;> cases finish <;> rfl
  | a :: b :: c :: d :: e :: r => cases key <;> cases count <;> cases finish <;> simp

theorem u16_eq_zero (lo hi : Byte) : u16 lo hi = 0 ↔ lo = 0 ∧ hi = 0 := by
  have zero (b : Byte) : b = 0 ↔ b.toNat = 0 := ⟨fun e => by simp [e], fun e => BitVec.eq_of_toNat_eq e⟩
  rw [u16, zero, zero]
  omega

theorem Pattern.ofByte_eq_none (b : Byte) : Pattern.ofByte b = Option.none ↔ 2 < b.toNat := by
  refine ⟨fun e => ?_, Pattern.ofByte_none⟩
  by_contra h
  obtain ⟨p, some_⟩ := Pattern.ofByte_some (b := b) (by omega)
  rw [some_] at e
  cases e

/-- A pattern byte in range spells its pattern (R179). -/
theorem Pattern.ofByte_spells {b : Byte} (h : b.toNat ≤ 2) :
    Pattern.ofByte b = some (if b = 0 then .none else if b = 1 then .corner else .edge2) := by
  obtain ⟨p, e⟩ := Pattern.ofByte_some h
  unfold Pattern.ofByte at e ⊢
  split_ifs at e ⊢ <;> rfl

/-- What makes a SHEET body of the right length with a slot and a media id in range void (R25). -/
def voidSheet (first key count finish : Bool) (lo hi ordinal : Byte) (opts : List Byte) : Prop :=
  let atCount := if key then 2 else 0
  let atFinish := atCount + if count then 1 else 0
  (lo = 0 ∧ hi = 0) ∨ ordinal = 0 ∨ (first = true ∧ ordinal ≠ 1) ∨ (first = false ∧ (key = true ∨ count = true ∨ finish = true)) ∨
    (count = true ∧ opts[atCount]? = some 0) ∨ (finish = true ∧ ∃ b, opts[atFinish]? = some b ∧ 2 < b.toNat)

/-- In a body of the right length each optional field is the byte at its place, and there exactly with its flag. -/
theorem optionsAt_reads {key count finish : Bool} {l : List Byte} (length : l.length = optionsLength key count finish) :
    let atCount := if key then 2 else 0
    let atFinish := atCount + if count then 1 else 0
    (optionsAt key count finish l).1.isSome = key ∧ (optionsAt key count finish l).2.1.isSome = count ∧
      (optionsAt key count finish l).2.2.isSome = finish ∧
      (optionsAt key count finish l).2.1 = (if count then l[atCount]? else none) ∧
      (optionsAt key count finish l).2.2 = (if finish then l[atFinish]? else none) ∧
      ∀ a b, key = true → l[0]? = some a → l[1]? = some b → (optionsAt key count finish l).1 = some (u16 a b) := by
  have read (i : Nat) (h : i < l.length) : some (l.getD i 0) = l[i]? := by
    rw [List.getD_eq_getElem?_getD, List.getElem?_eq_getElem h]
    rfl
  unfold optionsLength at length
  unfold optionsAt
  refine ⟨by cases key <;> rfl, by cases count <;> rfl, by cases finish <;> rfl, ?_, ?_, fun a b has lo hi => ?_⟩
  · cases count with
    | false => rfl
    | true => exact read _ (by simp at length ⊢; omega)
  · cases finish with
    | false => rfl
    | true => exact read _ (by simp at length ⊢; omega)
  · simp [has, List.getD_eq_getElem?_getD, lo, hi]

/-- The checks of R25 on the optional fields as they have been read. -/
theorem voidSheet_iff {first key count finish : Bool} {lo hi ordinal : Byte} {opts : List Byte} {k : Option Nat} {c p : Option Byte}
    (length : opts.length = optionsLength key count finish) (fields : optionsAt key count finish opts = (k, c, p)) :
    voidSheet first key count finish lo hi ordinal opts ↔
      u16 lo hi = 0 ∨ ordinal = 0 ∨ (first = true ∧ ordinal ≠ 1) ∨
        (first = false ∧ (k.isSome = true ∨ c.isSome = true ∨ p.isSome = true)) ∨ c = some 0 ∨ ∃ b, p = some b ∧ 2 < b.toNat := by
  obtain ⟨keyed, counted, finished, countRead, finishRead, -⟩ := optionsAt_reads length
  simp only [fields] at keyed counted finished countRead finishRead
  have zero : c = some 0 ↔ count = true ∧ opts[if key then 2 else 0]? = some 0 := by
    rw [countRead]
    cases count <;> simp
  have pattern (b : Byte) : p = some b ↔ finish = true ∧ opts[(if key then 2 else 0) + if count then 1 else 0]? = some b := by
    rw [finishRead]
    cases finish <;> simp
  simp only [voidSheet, u16_eq_zero, keyed, counted, finished, zero, pattern, and_assoc, exists_and_left]

/-- The descriptor of a SHEET body whose slot and media id are in range and whose length is right (R23). -/
theorem descriptorOf_eq (seq : Seq) (slot flags lo hi ordinal media : Byte) (opts : List Byte) (slot_ : slot.toNat < 16)
    (media_ : media.toNat < 8)
    (length : opts.length = optionsLength (flags.getLsbD 2) (flags.getLsbD 3) (flags.getLsbD 4)) :
    let fields := optionsAt (flags.getLsbD 2) (flags.getLsbD 3) (flags.getLsbD 4) opts
    let void := voidSheet (flags.getLsbD 0) (flags.getLsbD 2) (flags.getLsbD 3) (flags.getLsbD 4) lo hi ordinal opts
    (void → descriptorOf seq (slot :: flags :: lo :: hi :: ordinal :: media :: opts) = none) ∧
    (¬ void → descriptorOf seq (slot :: flags :: lo :: hi :: ordinal :: media :: opts) =
      some ⟨seq, ⟨slot.toNat, slot_⟩, flags.getLsbD 0, flags.getLsbD 1, u16 lo hi, ordinal.toNat, ⟨media.toNat, media_⟩, fields.1,
        fields.2.1.map BitVec.toNat, fields.2.2.bind Pattern.ofByte⟩) := by
  have slotRead : index 16 slot.toNat = some ⟨slot.toNat, slot_⟩ := dif_pos slot_
  have mediaRead : index 8 media.toNat = some ⟨media.toNat, media_⟩ := dif_pos media_
  simp only [descriptorOf, slotRead, mediaRead, sheetOptions_eq, if_pos length]
  generalize flags.getLsbD 0 = first, flags.getLsbD 2 = key, flags.getLsbD 3 = count, flags.getLsbD 4 = finish at *
  generalize fields : optionsAt key count finish opts = f
  obtain ⟨k, c, p⟩ := f
  rw [voidSheet_iff length fields]
  cases p with
  | none =>
    refine ⟨fun v => if_pos ?_, fun v => if_neg fun b => v ?_⟩
    · simpa [or_assoc] using v
    · simpa [or_assoc] using b
  | some p =>
    refine ⟨fun v => if_pos ?_, fun v => if_neg fun b => v ?_⟩
    · simpa [or_assoc, Pattern.ofByte_eq_none] using v
    · simpa [or_assoc, Pattern.ofByte_eq_none] using b

/-- A SHEET of another length, or with a slot or a media id out of range, has no descriptor (R25). -/
theorem descriptorOf_none (seq : Seq) (slot flags lo hi ordinal media : Byte) (opts : List Byte)
    (bad : 15 < slot.toNat ∨ 7 < media.toNat ∨
      opts.length ≠ optionsLength (flags.getLsbD 2) (flags.getLsbD 3) (flags.getLsbD 4)) :
    descriptorOf seq (slot :: flags :: lo :: hi :: ordinal :: media :: opts) = none := by
  simp only [descriptorOf]
  split
  · rename_i slotRead mediaRead optionsRead
    exfalso
    obtain h | h | h := bad
    · rw [index_none h] at slotRead
      cases slotRead
    · rw [index_none h] at mediaRead
      cases mediaRead
    · rw [sheetOptions_eq, if_neg h] at optionsRead
      cases optionsRead
  · rfl

/-- Settles O11: the body is void by its slot, its media id or its length, or by the checks on the fields that have been read. -/
theorem sheetBodiesSpellTheirEntries : Obligations.SheetBodiesSpellTheirEntries := by
  unfold Obligations.SheetBodiesSpellTheirEntries
  refine ⟨fun seq rest short => ?_, fun seq slot flags lo hi ordinal media opts => ?_⟩
  · have none_ : descriptorOf seq rest = none := by
      unfold descriptorOf
      split
      · simp at short
        omega
      · rfl
    rw [sheetEntry, none_]
  · intro first key count finish atCount atFinish entry
    by_cases bad : 15 < slot.toNat ∨ 7 < media.toNat ∨
      opts.length ≠ optionsLength (flags.getLsbD 2) (flags.getLsbD 3) (flags.getLsbD 4)
    · have void : entry = .void seq := by
        show sheetEntry seq _ = _
        rw [sheetEntry, descriptorOf_none _ _ _ _ _ _ _ _ bad]
      refine ⟨iff_of_true void ?_, fun n => absurd void n⟩
      obtain h | h | h := bad
      · exact .inl h
      · exact .inr (.inl h)
      · exact .inr (.inr (.inr (.inr (.inr (.inr (.inl h))))))
    · obtain ⟨slot_, media_, length⟩ : slot.toNat < 16 ∧ media.toNat < 8 ∧
          opts.length = optionsLength (flags.getLsbD 2) (flags.getLsbD 3) (flags.getLsbD 4) := by
        refine ⟨by omega, by omega, ?_⟩
        by_contra h
        exact bad (.inr (.inr h))
      obtain ⟨isVoid, isSheet⟩ := descriptorOf_eq seq slot flags lo hi ordinal media opts slot_ media_ length
      have range : (entry = .void seq ↔
          voidSheet (flags.getLsbD 0) (flags.getLsbD 2) (flags.getLsbD 3) (flags.getLsbD 4) lo hi ordinal opts) := by
        refine ⟨fun void => ?_, fun void => ?_⟩
        · by_contra h
          change sheetEntry seq _ = _ at void
          rw [sheetEntry, isSheet h] at void
          cases void
        · show sheetEntry seq _ = _
          rw [sheetEntry, isVoid void]
      refine ⟨range.trans ?_, fun sheet => ?_⟩
      · have noSlot : ¬ 15 < slot.toNat := by omega
        have noMedia : ¬ 7 < media.toNat := by omega
        have noLength : ¬ opts.length ≠ atFinish + (if finish then 1 else 0) := not_not.mpr length
        simp only [noSlot, noMedia, noLength, false_or]
        rfl
      · have spelled := isSheet (fun void => sheet (range.mpr void))
        obtain ⟨keyed, counted, finished, countRead, finishRead, keyRead⟩ := optionsAt_reads length
        have absent {α : Type} {x : Option α} (h : x.isSome = false) : x = none := by cases x <;> simp_all
        refine ⟨_, by show sheetEntry seq _ = _; rw [sheetEntry, spelled], rfl, rfl, rfl, rfl, rfl, rfl, rfl, fun no => ?_, fun no => ?_,
          fun no => ?_, fun a b has lo hi => keyRead a b has lo hi, fun a has read => ?_, fun a has read => ?_⟩
        · exact absent (keyed.trans no)
        · show Option.map _ _ = none
          rw [absent (counted.trans no)]
          rfl
        · show Option.bind _ _ = none
          rw [absent (finished.trans no)]
          rfl
        · show Option.map _ _ = _
          rw [countRead, if_pos has, read]
          rfl
        · have small : a.toNat ≤ 2 := by
            by_contra large
            exact sheet (range.mpr (.inr (.inr (.inr (.inr (.inr ⟨has, a, read, by omega⟩))))))
          show Option.bind _ _ = _
          rw [finishRead, if_pos has, read]
          exact Pattern.ofByte_spells small

end Sys2Proof.Machine

/-! The positions a SHEET appends to the Descriptor Queue (R24, R26 to R28, R30). -/

namespace Sys2Proof.Machine

/-! ## The queue alone -/

/-- The Descriptor Queue with one position appended, or kept as debt (R28). -/
def DescQueue.pushed (q : DescQueue) (p : Entry × Seq) : DescQueue :=
  if q.entries.length < 16 then { q with entries := q.entries ++ [p.1] }
  else if q.debt = 0 then { q with debt := 1, nextOwed := some p.2 }
  else { q with debt := min 255 (q.debt + 1) }

/-- The seq owed next once the positions `ps` have been appended, `room` of which found a place (R28). -/
def DescQueue.owedAfter (q : DescQueue) (ps : List (Entry × Seq)) : Option Seq :=
  if 0 < q.debt then q.nextOwed else ((ps.drop (16 - q.entries.length)).head?.map Prod.snd).orElse fun _ => q.nextOwed

/-- Positions appended take the places there are, and the others become debt, saturating at 255 (R28). -/
theorem DescQueue.foldl_pushed (q : DescQueue) (ps : List (Entry × Seq)) (small : q.entries.length ≤ 16) (debt : q.debt ≤ 255)
    (full : 0 < q.debt → q.entries.length = 16) : ps.foldl DescQueue.pushed q = { q with
      entries := q.entries ++ (ps.take (16 - q.entries.length)).map Prod.fst
      debt := min 255 (q.debt + (ps.length - (16 - q.entries.length)))
      nextOwed := q.owedAfter ps } := by
  induction ps generalizing q with
  | nil =>
    simp [DescQueue.owedAfter, Nat.min_eq_right debt]
  | cons p ps ih =>
    rw [List.foldl_cons]
    by_cases room : q.entries.length < 16
    · have noDebt : q.debt = 0 := by
        by_contra h
        exact absurd (full (by omega)) (by omega)
      have next : 16 - q.entries.length = 16 - (q.entries.length + 1) + 1 := by omega
      have later := ih { q with entries := q.entries ++ [p.1] } (by simp; omega) debt (by simp [noDebt])
      rw [DescQueue.pushed, if_pos room, later]
      simp [DescQueue.owedAfter, noDebt, next]
    · have whole : 16 - q.entries.length = 0 := by omega
      by_cases noDebt : q.debt = 0
      · have later := ih { q with debt := 1, nextOwed := some p.2 } small (by simp) (fun _ => by simp; omega)
        rw [DescQueue.pushed, if_neg room, if_pos noDebt, later]
        simp [DescQueue.owedAfter, noDebt, whole, Nat.add_comm]
      · have owes : 0 < q.debt := by omega
        have later := ih { q with debt := min 255 (q.debt + 1) } small (by simp) (fun _ => by simp; omega)
        rw [DescQueue.pushed, if_neg room, if_neg noDebt, later]
        simp only [DescQueue.owedAfter, whole, owes]
        simp
        omega

/-! ## The state -/

theorem State.syncQueue_stands (s : State) :
    s.syncQueue.stands .queue ↔ s.queue.watermark ≤ s.queue.entries.length ∨ 0 < s.queue.debt := by
  rw [State.syncQueue, State.setReason_stands, if_pos rfl]
  simp

/-- One position appended, or kept as debt with OVERRUN where it is the first one owed (R27, R28). -/
theorem State.appendPos_spec (p : Entry × Seq) (s : State) :
    let t := s.appendPos p.1 p.2
    t = { s with report := t.report, queue := s.queue.pushed p } ∧
      (t.stands .queue ↔ t.queue.watermark ≤ t.queue.entries.length ∨ 0 < t.queue.debt) ∧ (∀ c, s.latched c → t.latched c) ∧
      (16 ≤ s.queue.entries.length → s.queue.debt = 0 → t.latched .overrun) ∧
      (s.queue.entries.length < 16 → t.report.notice = s.report.notice) := by
  by_cases room : s.queue.entries.length < 16
  · have pos : s.appendPos p.1 p.2 = ({ s with queue := s.queue.pushed p } : State).syncQueue := by
      rw [DescQueue.pushed, if_pos room]
      exact if_pos room
    rw [pos]
    exact ⟨rfl, State.syncQueue_stands _, fun _ => id, fun h => absurd room (by omega), fun _ => rfl⟩
  by_cases noDebt : s.queue.debt = 0
  · have pos : s.appendPos p.1 p.2 = ({ s with queue := s.queue.pushed p } : State).syncQueue.notify
        ⟨.overrun, some p.2.toNat, some s.queue.entries.length, some 1, none⟩ none := by
      rw [DescQueue.pushed, if_neg room, if_pos noDebt]
      exact (if_neg room).trans (if_pos noDebt)
    rw [pos]
    refine ⟨rfl, ?_, fun c h => ?_, fun _ _ => ?_, fun h => absurd h room⟩
    · exact (State.notify_stands _ _ _ _ (by decide)).trans (State.syncQueue_stands _)
    · exact (State.notify_latched _ _ _ _).mpr (.inr h)
    · exact (State.notify_latched _ _ _ _).mpr (.inl rfl)
  · have pos : s.appendPos p.1 p.2 = ({ s with queue := s.queue.pushed p } : State).syncQueue := by
      rw [DescQueue.pushed, if_neg room, if_neg noDebt]
      exact (if_neg room).trans (if_neg noDebt)
    rw [pos]
    exact ⟨rfl, State.syncQueue_stands _, fun _ => id, fun _ h => absurd h noDebt, fun h => absurd h room⟩

/-- The positions `ps` are appended in order. -/
def State.appendAll (s : State) (ps : List (Entry × Seq)) : State := ps.foldl (fun s p => s.appendPos p.1 p.2) s

theorem State.appendAll_latched (s : State) (ps : List (Entry × Seq)) (c : Cause) (h : s.latched c) : (s.appendAll ps).latched c := by
  induction ps generalizing s with
  | nil => exact h
  | cons p ps ih =>
    obtain ⟨-, -, latched, -⟩ := s.appendPos_spec p
    exact ih _ (latched c h)

/-- Positions appended change the queue and the reports alone. -/
theorem State.appendAll_eq (s : State) (ps : List (Entry × Seq)) :
    s.appendAll ps = { s with report := (s.appendAll ps).report, queue := ps.foldl DescQueue.pushed s.queue } := by
  induction ps generalizing s with
  | nil => rfl
  | cons p ps ih =>
    obtain ⟨frame, -⟩ := s.appendPos_spec p
    rw [List.foldl_cons]
    have next := ih (s.appendPos p.1 p.2)
    rw [frame] at next
    have same : s.appendAll (p :: ps) = (s.appendPos p.1 p.2).appendAll ps := rfl
    rw [same, frame]
    exact next

theorem State.appendAll_stands (s : State) {ps : List (Entry × Seq)} (some_ : ps ≠ []) : (s.appendAll ps).stands .queue ↔
    (s.appendAll ps).queue.watermark ≤ (s.appendAll ps).queue.entries.length ∨ 0 < (s.appendAll ps).queue.debt := by
  induction ps generalizing s with
  | nil => exact absurd rfl some_
  | cons p ps ih =>
    cases ps with
    | nil => exact (s.appendPos_spec p).2.1
    | cons q ps => exact ih (s.appendPos p.1 p.2) (by simp)

/-- The first position owed latches OVERRUN (R27). -/
theorem State.appendAll_overrun (s : State) (ps : List (Entry × Seq)) (noDebt : s.queue.debt = 0)
    (excess : 16 - s.queue.entries.length < ps.length) : (s.appendAll ps).latched .overrun := by
  induction ps generalizing s with
  | nil => simp at excess
  | cons p ps ih =>
    obtain ⟨frame, -, -, overrun, -⟩ := s.appendPos_spec p
    by_cases room : s.queue.entries.length < 16
    · refine ih (s.appendPos p.1 p.2) ?_ ?_
      · rw [frame]
        simpa [DescQueue.pushed, room] using noDebt
      · rw [frame]
        simp [DescQueue.pushed, room] at excess ⊢
        omega
    · exact State.appendAll_latched _ ps _ (overrun (by omega) noDebt)

/-- The gap markers of a SHEET and their seqs (R26). -/
def gapMarkers (first : Seq) (n : Nat) : List (Entry × Seq) :=
  (List.range n).map fun i => (.gap (some (first + BitVec.ofNat 8 i)), first + BitVec.ofNat 8 i)

theorem State.appendMarkers_eq (first : Seq) (n : Nat) (s : State) : s.appendMarkers first n = s.appendAll (gapMarkers first n) := by
  rw [State.appendMarkers, State.appendAll, gapMarkers, List.foldl_map]

theorem State.appendAll_append (s : State) (ps qs : List (Entry × Seq)) : s.appendAll (ps ++ qs) = (s.appendAll ps).appendAll qs :=
  List.foldl_append

/-- The seqs of a SHEET's positions count up to its own (R26). -/
theorem sheetPositions_seq {first seq : Seq} {g : Nat} (x : Entry) (counts : g = 0 ∨ seq = first + BitVec.ofNat 8 g) (small : g ≤ 8)
    (i : Nat) : ((gapMarkers first g ++ [(x, seq)]).drop i).head?.map Prod.snd =
      if i ≤ g then some (seq - BitVec.ofNat 8 (g - i)) else none := by
  rw [List.head?_drop]
  have length : (gapMarkers first g).length = g := by simp [gapMarkers]
  by_cases inside : i < g
  · obtain rfl | rfl := counts
    · omega
    · rw [if_pos inside.le, List.getElem?_append_left (by omega), gapMarkers, List.getElem?_map, List.getElem?_range inside]
      simp only [Option.map_some, Option.some.injEq]
      obtain ⟨j, rfl⟩ : ∃ j, g = i + j := ⟨g - i, by omega⟩
      rw [Nat.add_sub_cancel_left, BitVec.ofNat_add]
      bv_omega
  · rw [List.getElem?_append_right (by omega), length]
    by_cases last : i = g
    · subst last
      simp
    · rw [if_neg (by omega), List.getElem?_eq_none (by simp; omega)]
      rfl

/-- What the positions of a SHEET make of the queue and of its hold reason (R26 to R28, R30). -/
theorem State.positions_spec (s : State) (ps : List (Entry × Seq)) (seq : Seq) (some_ : ps ≠ []) (small : s.queue.entries.length ≤ 16)
    (debt : s.queue.debt ≤ 255) (full : 0 < s.queue.debt → s.queue.entries.length = 16) :
    let t := (s.appendAll ps).expectAfter seq
    t = { s with report := t.report, queue := t.queue } ∧
      t.queue = { s.queue with
        entries := s.queue.entries ++ (ps.map Prod.fst).take (16 - s.queue.entries.length)
        expected := some (seq + 1)
        debt := min 255 (s.queue.debt + (ps.length - (16 - s.queue.entries.length)))
        nextOwed := s.queue.owedAfter ps } ∧
      (t.stands .queue ↔ t.queue.watermark ≤ t.queue.entries.length ∨ 0 < t.queue.debt) ∧
      (0 < ps.length - (16 - s.queue.entries.length) → s.queue.debt = 0 → t.latched .overrun) := by
  have frame := s.appendAll_eq ps
  have stands := s.appendAll_stands some_
  have overrun := s.appendAll_overrun ps
  have queue : (s.appendAll ps).queue = ps.foldl DescQueue.pushed s.queue := congrArg State.queue frame
  rw [DescQueue.foldl_pushed s.queue ps small debt full] at queue
  generalize s.appendAll ps = u at *
  refine ⟨?_, ?_, stands, fun excess noDebt => overrun noDebt (by omega)⟩
  · rw [frame]
    rfl
  · rw [State.expectAfter, queue, List.map_take]

/-- A SHEET at distance 0 to 8 appends its gap markers and its entry (R26). -/
theorem State.sheetRecord_near {s : State} {seq : Seq} {rest : List Byte} (working : s.working = true)
    (near : s.queue.distance seq ≤ 8) : s.sheetRecord seq rest =
      let t := (s.appendAll (gapMarkers (s.queue.expected.getD 0) (s.queue.distance seq) ++ [(sheetEntry seq rest, seq)])).expectAfter seq
      if s.queue.distance seq = 0 then t
      else t.notifySequence .gap s.queue.expected seq (some (s.queue.distance seq)) := by
  simp only [State.sheetRecord, working, if_true, State.appendMarkers_eq, State.appendAll_append]
  by_cases zero : s.queue.distance seq = 0
  · rw [if_pos zero, if_pos zero, zero]
    rfl
  · rw [if_neg zero, if_pos near, if_neg zero]
    rfl

theorem DescQueue.distance_counts (seq : Seq) (q : DescQueue) :
    q.distance seq = 0 ∨ seq = q.expected.getD 0 + BitVec.ofNat 8 (q.distance seq) := by
  unfold DescQueue.distance
  cases q.expected with
  | none => exact .inl rfl
  | some e =>
    refine .inr ?_
    rw [BitVec.ofNat_toNat, BitVec.setWidth_eq, Option.getD_some]
    bv_omega

/-- What a SEQUENCE cause other than OVERRUN leaves: nothing but the notices (R27). -/
theorem State.notifySequence_spec (cause : Cause) (e : Option Seq) (seq : Seq) (f3 : Option Nat) (s : State) :
    let t := s.notifySequence cause e seq f3
    t = { s with report := t.report } ∧ (t.stands .queue ↔ s.stands .queue) ∧ (∀ c, t.latched c ↔ c = cause ∨ s.latched c) :=
  ⟨rfl, State.notify_stands _ _ _ _ (by decide), fun c => State.notify_latched _ _ c s⟩

/-- The seq owed next after the positions of a SHEET at distance 0 to 8 (R28). -/
theorem DescQueue.owedAfter_near {q : DescQueue} {seq : Seq} (x : Entry) (owes : q.debt = 0 → q.nextOwed = none)
    (near : q.distance seq ≤ 8) : q.owedAfter (gapMarkers (q.expected.getD 0) (q.distance seq) ++ [(x, seq)]) =
      if 0 < q.debt then q.nextOwed
      else if q.distance seq + 1 - (16 - q.entries.length) = 0 then none
      else some (seq - BitVec.ofNat 8 (q.distance seq - (16 - q.entries.length))) := by
  rw [DescQueue.owedAfter, sheetPositions_seq x (q.distance_counts seq) near]
  by_cases debt : 0 < q.debt
  · rw [if_pos debt, if_pos debt]
  · rw [if_neg debt, if_neg debt]
    by_cases room : 16 - q.entries.length ≤ q.distance seq
    · rw [if_pos room, if_neg (by omega)]
      rfl
    · rw [if_neg room, if_pos (by omega)]
      exact owes (by omega)

/-- A SHEET at distance 9 to 127 forgets the seqs owed and appends its entry alone (R26, R28). -/
theorem State.sheetRecord_far {s : State} {seq : Seq} {rest : List Byte} (working : s.working = true)
    (far : ¬ s.queue.distance seq ≤ 8) (kept : s.queue.distance seq ≤ 127) : s.sheetRecord seq rest =
      ((({ s with queue := { s.queue with nextOwed := if 0 < s.queue.debt then none else s.queue.nextOwed } } : State).appendAll
        [(sheetEntry seq rest, seq)]).expectAfter seq).notifySequence .resync s.queue.expected seq none := by
  have nonzero : s.queue.distance seq ≠ 0 := by omega
  simp only [State.sheetRecord, working, if_true, if_neg nonzero, if_neg far, if_pos kept]
  by_cases debt : 0 < s.queue.debt
  · simp only [if_pos debt]
    rfl
  · simp only [if_neg debt]
    rfl

/-- A SHEET from distance 128 on is discarded (R26). -/
theorem State.sheetRecord_stale {s : State} {seq : Seq} {rest : List Byte} (working : s.working = true)
    (stale : ¬ s.queue.distance seq ≤ 127) :
    s.sheetRecord seq rest = s.notifySequence .stale s.queue.expected seq none := by
  have nonzero : s.queue.distance seq ≠ 0 := by omega
  have far : ¬ s.queue.distance seq ≤ 8 := by omega
  simp only [State.sheetRecord, working, if_true, if_neg nonzero, if_neg far, if_neg stale]

/-- The seq owed next after the one position of a SHEET at distance 9 to 127 (R28). -/
theorem DescQueue.owedAfter_far {q : DescQueue} {seq : Seq} (x : Entry) (owes : q.debt = 0 → q.nextOwed = none) :
    DescQueue.owedAfter { q with nextOwed := if 0 < q.debt then none else q.nextOwed } [(x, seq)] =
      if 0 < q.debt then none
      else if [x].length - (16 - q.entries.length) = 0 then none
      else some (seq - BitVec.ofNat 8 ([x].length - 1 - (16 - q.entries.length))) := by
  unfold DescQueue.owedAfter
  by_cases debt : 0 < q.debt
  · simp only [if_pos debt]
  · simp only [if_neg debt, owes (by omega)]
    by_cases room : 16 - q.entries.length = 0
    · simp [room]
    · obtain ⟨n, more⟩ : ∃ n, 16 - q.entries.length = n + 1 := ⟨_, (Nat.succ_pred room).symm⟩
      simp [more]

/-- Settles O10: the positions are appended in one run, at every distance that appends any. -/
theorem sheetsAreAppendedAsFarAsThereIsRoom : Obligations.SheetsAreAppendedAsFarAsThereIsRoom := by
  unfold Obligations.SheetsAreAppendedAsFarAsThereIsRoom
  intro s seq rest live working sound g markers positions room excess
  obtain ⟨small, debt, full, owes, -⟩ := sound
  have taken := exec_taken (c := .sheet seq rest) (s := s) rfl live
  have working' : s.frameTaken.working = true := working
  by_cases near : g ≤ 8
  · obtain ⟨ps, listed⟩ : ∃ ps, ps = gapMarkers (s.queue.expected.getD 0) g ++ [(sheetEntry seq rest, seq)] := ⟨_, rfl⟩
    have firsts : positions = ps.map Prod.fst := by
      simp [listed, positions, if_pos near, markers, gapMarkers, Function.comp_def]
    have count : positions.length = g + 1 := by simp [firsts, listed, gapMarkers]
    have length : ps.length = g + 1 := by rw [← count, firsts, List.length_map]
    have owed : s.frameTaken.queue.owedAfter ps = _ := listed ▸ DescQueue.owedAfter_near (q := s.queue) (sheetEntry seq rest) owes near
    have clean (zero : g = 0) (fits : excess = 0) : ((s.frameTaken.appendAll ps).expectAfter seq).report.notice = s.report.notice := by
      rw [listed, zero]
      refine (s.frameTaken.appendPos_spec (sheetEntry seq rest, seq)).2.2.2.2 ?_
      show s.queue.entries.length < 16
      omega
    obtain ⟨frame, queue, stands, overrun⟩ := s.frameTaken.positions_spec ps seq (by simp [listed]) small debt full
    have record : s.frameTaken.sheetRecord seq rest = if g = 0 then (s.frameTaken.appendAll ps).expectAfter seq
        else ((s.frameTaken.appendAll ps).expectAfter seq).notifySequence .gap s.queue.expected seq (some g) := by
      rw [State.sheetRecord_near working' near, listed]
      rfl
    rw [record] at taken
    generalize (s.frameTaken.appendAll ps).expectAfter seq = u at *
    obtain ⟨v, is, same, stood, kept, gapped, still⟩ : ∃ v, (if g = 0 then u else u.notifySequence .gap s.queue.expected seq (some g)) = v ∧
        v = { u with report := v.report } ∧ (v.stands .queue ↔ u.stands .queue) ∧ (∀ c, u.latched c → v.latched c) ∧
        (g ≠ 0 → v.latched .gap) ∧ (g = 0 → v = u) := by
      by_cases zero : g = 0
      · exact ⟨u, if_pos zero, rfl, Iff.rfl, fun _ => id, fun h => absurd zero h, fun _ => rfl⟩
      · obtain ⟨same, stood, latched⟩ := u.notifySequence_spec .gap s.queue.expected seq (some g)
        exact ⟨_, if_neg zero, same, stood, fun c h => (latched c).mpr (.inr h), fun _ => (latched _).mpr (.inl rfl),
          fun h => absurd h zero⟩
    rw [is] at taken
    have vqueue : v.queue = u.queue := by
      have := congrArg State.queue same
      exact this
    refine ⟨_, taken, ?_, fun _ => ⟨?_, ?_, fun some_ noDebt => ?_⟩, fun zero fits => ?_, fun pos _ => gapped (by omega),
      fun far => absurd near (by omega), fun far => absurd near (by omega)⟩
    · rw [same, frame]
      rfl
    · show v.queue = _
      rw [vqueue, queue, ← firsts, length, owed]
      have last : g + 1 - 1 - room = g - room := by omega
      simp only [if_pos near, excess, count, last]
      rfl
    · show v.stands .queue ↔ v.queue.watermark ≤ v.queue.entries.length ∨ 0 < v.queue.debt
      rw [stood, vqueue]
      exact stands
    · refine kept _ (overrun ?_ noDebt)
      show 0 < ps.length - room
      omega
    · show v.report.notice = _
      rw [still zero]
      exact clean zero fits
  by_cases kept : g ≤ 127
  · rw [State.sheetRecord_far working' near kept] at taken
    have count : positions = [sheetEntry seq rest] := if_neg near
    obtain ⟨frame, queue, stands, overrun⟩ := State.positions_spec
      ({ s.frameTaken with queue := { s.queue with nextOwed := if 0 < s.queue.debt then none else s.queue.nextOwed } } : State)
      [(sheetEntry seq rest, seq)] seq (by simp) small debt full
    have alike : ({ s.frameTaken with queue := { s.frameTaken.queue with
        nextOwed := if 0 < s.frameTaken.queue.debt then none else s.frameTaken.queue.nextOwed } } : State) =
        { s.frameTaken with queue := { s.queue with nextOwed := if 0 < s.queue.debt then none else s.queue.nextOwed } } := rfl
    rw [alike] at taken
    generalize State.expectAfter seq _ = u at *
    obtain ⟨same, stood, latched⟩ := u.notifySequence_spec .resync s.queue.expected seq none
    have is : u.notifySequence .resync s.frameTaken.queue.expected seq none = u.notifySequence .resync s.queue.expected seq none := rfl
    rw [is] at taken
    generalize u.notifySequence .resync s.queue.expected seq none = v at *
    have vqueue : v.queue = u.queue := by
      have := congrArg State.queue same
      exact this
    refine ⟨_, taken, ?_, fun _ => ⟨?_, ?_, fun some_ noDebt => ?_⟩, fun zero _ => absurd near (by omega),
      fun _ n => absurd n near, fun _ _ => (latched _).mpr (.inl rfl), fun stale => absurd kept (by omega)⟩
    · rw [same, frame]
      rfl
    · show v.queue = _
      rw [vqueue, queue, DescQueue.owedAfter_far (sheetEntry seq rest) owes]
      simp only [if_neg near, excess, count]
      rfl
    · show v.stands .queue ↔ v.queue.watermark ≤ v.queue.entries.length ∨ 0 < v.queue.debt
      rw [stood, vqueue]
      exact stands
    · refine (latched _).mpr (.inr (overrun ?_ noDebt))
      show 0 < 1 - room
      simp only [excess, count, List.length_singleton] at some_
      exact some_
  · rw [State.sheetRecord_stale working' kept] at taken
    refine ⟨_, taken, rfl, fun h => absurd h kept, fun zero _ => absurd near (by omega), fun _ n => absurd n near,
      fun _ h => absurd h kept, fun _ => ⟨rfl, (State.notify_latched _ _ _ _).mpr (.inl rfl)⟩⟩

end Sys2Proof.Machine

/-! The staple decision (R72), S1 edges that classify nothing (R57, R63), departures (R81, R130), and the timers of the Run Controller
(R144 to R147, R153). -/

namespace Sys2Proof.Machine

/-! ## The staple decision -/

/-- The set itself stands nowhere against stapling (R72). -/
def SetRec.stapleable (x : SetRec) : Prop := x.broken = none ∧ x.part = 0 ∧ x.thickness ≤ 500 ∧ x.allEligible = true

/-- The stapler can give the staples of a pattern (R72). -/
def Stapler.able (x : SetRec) (p : Stapler) : Prop :=
  p.state ≠ .fault ∧ p.state ≠ .empty ∧ p.state ≠ .noCartridge ∧ ¬ (p.state = .ready ∧ p.count < x.pattern.staples)

/-- The order of R72: each reason stands exactly where its condition holds and none before it. -/
theorem skipReason_cases (p : Stapler) (x : SetRec) :
    (skipReason p x = some .broken ∧ x.broken ≠ none) ∨
    (skipReason p x = some .overLimit ∧ x.broken = none ∧ (x.part ≠ 0 ∨ 500 < x.thickness)) ∨
    (skipReason p x = some .media ∧ x.broken = none ∧ x.part = 0 ∧ x.thickness ≤ 500 ∧ x.allEligible = false) ∨
    (skipReason p x = some .staplerFault ∧ x.stapleable ∧ p.state = .fault) ∨
    (skipReason p x = some .noStaples ∧ x.stapleable ∧ p.state ≠ .fault ∧ ¬ p.able x) ∨
    (skipReason p x = none ∧ x.stapleable ∧ p.able x) := by
  have limit : Config.stapleLimit = 500 := rfl
  simp only [skipReason, SetRec.stapleable, Stapler.able, limit]
  split_ifs with broken thick media fault stopped
  · exact .inl ⟨rfl, by simpa [Option.isSome_iff_ne_none] using broken⟩
  · exact .inr (.inl ⟨rfl, by simpa using broken, by simpa using thick⟩)
  · simp only [Bool.or_eq_true, decide_eq_true_iff, not_or, not_not, not_lt] at thick
    exact .inr (.inr (.inl ⟨rfl, by simpa using broken, thick.1, thick.2, by simpa using media⟩))
  · simp only [Bool.or_eq_true, decide_eq_true_iff, not_or, not_not, not_lt] at thick
    exact .inr (.inr (.inr (.inl ⟨rfl, ⟨by simpa using broken, thick.1, thick.2, by simpa using media⟩, fault⟩)))
  · simp only [Bool.or_eq_true, decide_eq_true_iff, not_or, not_not, not_lt] at thick
    simp only [Bool.or_eq_true, Bool.and_eq_true, decide_eq_true_iff] at stopped
    exact .inr (.inr (.inr (.inr (.inl ⟨rfl, ⟨by simpa using broken, thick.1, thick.2, by simpa using media⟩, fault, by tauto⟩))))
  · simp only [Bool.or_eq_true, decide_eq_true_iff, not_or, not_not, not_lt] at thick
    simp only [Bool.or_eq_true, Bool.and_eq_true, decide_eq_true_iff] at stopped
    exact .inr (.inr (.inr (.inr (.inr ⟨rfl, ⟨by simpa using broken, thick.1, thick.2, by simpa using media⟩, by tauto⟩))))

/-- Settles O45: each outcome is read off the first reason that stands. -/
theorem stapleDecisionFollowsTheOrderOfItsConditions : Obligations.StapleDecisionFollowsTheOrderOfItsConditions := by
  unfold Obligations.StapleDecisionFollowsTheOrderOfItsConditions
  intro p x
  have reasons := skipReason_cases p x
  unfold SetRec.stapleable Stapler.able at reasons
  by_cases unstapled : x.pattern = .none
  · simp [SetRec.decide, unstapled]
  have decided : x.decide p = match skipReason p x with
      | none => (.staple, none)
      | some k => if k.awaited && x.policy = .wait then (.wait, none) else (.skip, some k) := if_neg unstapled
  have policy : x.policy = .degrade ↔ x.policy ≠ .wait := by cases x.policy <;> simp
  dsimp only
  rw [policy]
  obtain ⟨k, broken⟩ | ⟨k, whole, thick⟩ | ⟨k, whole, part, thin, media⟩ | ⟨k, whole, fault⟩ | ⟨k, whole, fault, stopped⟩ | ⟨k, whole, able⟩ :=
    reasons
  · rw [k] at decided
    simp [decided, SkipReason.awaited, unstapled, broken]
  · have : ¬ (x.part = 0 ∧ x.thickness ≤ 500) := by omega
    rw [k] at decided
    simp [decided, SkipReason.awaited, unstapled, whole, thick]
    tauto
  · rw [k] at decided
    simp [decided, SkipReason.awaited, unstapled, whole, part, thin, media]
  · rw [k] at decided
    by_cases wait : x.policy = .wait <;> simp [decided, SkipReason.awaited, unstapled, whole, fault, wait]
  · rw [k] at decided
    by_cases wait : x.policy = .wait <;>
      simp only [decided, SkipReason.awaited, unstapled, whole, fault, wait, stopped] <;> simp [whole, unstapled, fault, wait]
  · rw [k] at decided
    obtain ⟨fault, empty, absent, enough⟩ := able
    simp only [decided, enough]
    simp [whole, unstapled, fault, empty, absent]

/-! ## Departures -/

/-- What the delivery list asks for before it takes a set for a bin (R126). -/
theorem State.listTakes_iff (s : State) (b : Fin 41) : s.listTakes b = true ↔ s.delivery.list.length < 3 ∧ s.delivery.g0Busy = none ∧
    ∀ k, towerOf b = some k → s.chain.towers[k].state = .ready := by
  have reach : s.reachable b = true ↔ ∀ k, towerOf b = some k → s.chain.towers[k].state = .ready := by
    unfold State.reachable
    cases towerOf b with
    | none => simp
    | some k => simp
  simp only [State.listTakes, Bool.and_eq_true, decide_eq_true_iff, Option.isNone_iff_eq_none, reach, and_assoc]
  exact Iff.rfl

/-- The test for an eject, of the set in a compiler that waits for one (R81, R126, R127). -/
theorem State.ejectReady_of {s : State} {r : Fin 8} {x : SetRec} (working : s.working = true)
    (state : s.compiler.state = .ejecting ∨ s.compiler.state = .splitEject) (current : s.compiler.current = some r)
    (used : s.getRec r = some x) (clear : s.path.se = none) : s.ejectReady =
      if s.ejectStarted r = true then none
      else match x.chosen with
        | some b => if s.shelfReady = none ∧ s.listTakes b = true then some (r, some b) else none
        | none => if s.delivery.shelf = .free then some (r, none) else none := by
  have waits : (decide (s.compiler.state = .ejecting) || decide (s.compiler.state = .splitEject)) = true := by simpa using state
  simp only [State.ejectReady, current, used, waits, clear, working, Option.isNone_none, Bool.true_and]
  cases s.ejectStarted r with
  | true => rfl
  | false => cases x.chosen <;> simp

/-- A recombination of the governor leaves the link and the Notice Unit alone (R152, R153). -/
theorem Report.recombine_only (cond : Fin 6 → Bool) (now : Nat) (p : Report) :
    p.recombine cond now = { p with feed := (p.recombine cond now).feed, gov := (p.recombine cond now).gov } := by
  unfold Report.recombine
  dsimp only
  split_ifs <;> rfl

theorem exec_ejectStart {s : State} (live : s.live) : exec .ejectStart s =
    .next (match s.ejectReady with
      | some (r, b) => s.eject r b
      | none => s).syncIdle := by
  show execEjectStart s = _
  rw [execEjectStart]
  exact State.does_live live _

/-- The eject of a set starts exactly where its test passes (R81, R126, R127). -/
theorem ejectStart_goes {s : State} {r : Fin 8} {x : SetRec} (live : s.live) (working : s.working = true)
    (state : s.compiler.state = .ejecting ∨ s.compiler.state = .splitEject) (current : s.compiler.current = some r)
    (used : s.getRec r = some x) (clear : s.path.se = none) :
    let goes := s.ejectStarted r = false ∧ ((x.chosen = none ∧ s.delivery.shelf = .free) ∨
      (s.shelfReady = none ∧ ∃ b, x.chosen = some b ∧ s.listTakes b = true))
    (¬ goes → exec .ejectStart s = .next s.syncIdle) ∧ (goes → exec .ejectStart s = .next (s.eject r x.chosen).syncIdle) := by
  have tested := State.ejectReady_of working state current used clear
  have taken := exec_ejectStart live
  rw [tested] at taken
  cases started : s.ejectStarted r with
  | true =>
    rw [if_pos started] at taken
    exact ⟨fun _ => taken, fun goes => absurd goes.1 (by simp)⟩
  | false =>
    rw [if_neg (by simp [started])] at taken
    cases chosen : x.chosen with
    | some b =>
      simp only [chosen] at taken
      by_cases passes : s.shelfReady = none ∧ s.listTakes b = true
      · rw [if_pos passes] at taken
        exact ⟨fun stays => absurd ⟨rfl, .inr ⟨passes.1, b, rfl, passes.2⟩⟩ stays, fun _ => taken⟩
      · rw [if_neg passes] at taken
        refine ⟨fun _ => taken, fun goes => absurd ?_ passes⟩
        obtain ⟨-, ⟨none_, -⟩ | ⟨first, c, same, takes⟩⟩ := goes
        · cases none_
        · cases same
          exact ⟨first, takes⟩
    | none =>
      simp only [chosen] at taken
      by_cases free : s.delivery.shelf = .free
      · rw [if_pos free] at taken
        exact ⟨fun stays => absurd ⟨rfl, .inl ⟨rfl, free⟩⟩ stays, fun _ => taken⟩
      · rw [if_neg free] at taken
        refine ⟨fun _ => taken, fun goes => absurd ?_ free⟩
        obtain ⟨-, ⟨-, free⟩ | ⟨-, c, same, -⟩⟩ := goes
        · exact free
        · cases same

theorem State.ejectStarted_iff (r : Fin 8) (s : State) :
    s.ejectStarted r = true ↔ s.delivery.shelfSet = some r ∨ ∃ e ∈ s.delivery.list, e.set = r := by
  simp [State.ejectStarted]

/-- A sensor is S0's exactly for bin 0 (R125). -/
theorem targetOf_eq_s0 (b : Fin 41) : targetOf b = .s0 ↔ b = 0 := by
  have : b = 0 ↔ b.val = 0 := Fin.ext_iff
  rw [this]
  unfold targetOf towerOf
  by_cases h : b.val = 0 <;> simp [h]

/-- A shelf set that may be released is the one on the shelf, READY TO EJECT for a bin the list takes it for (R130). -/
theorem State.shelfReady_of {s : State} {r : Fin 8} {x : SetRec} {b : Fin 41} (working : s.working = true)
    (occupied : s.delivery.shelf = .occupied) (set : s.delivery.shelfSet = some r) (used : s.getRec r = some x)
    (state : x.state = .readyToEject) (chosen : x.chosen = some b) (clear : s.path.se = none) (takes : s.listTakes b = true) :
    s.shelfReady = some (r, b) := by
  have onShelf : s.delivery.onShelf = some r := (if_pos occupied).trans set
  simp [State.shelfReady, onShelf, used, chosen, state, clear, working, takes]

/-- Settles O47: the tests' conditions, and the fields each departure writes. -/
theorem setsDepartWhenTheirPlaceIsFree : Obligations.SetsDepartWhenTheirPlaceIsFree := by
  unfold Obligations.SetsDepartWhenTheirPlaceIsFree
  refine ⟨fun s r x live working state current used clear => ?_, fun s r x b live working occupied set used state chosen clear takes => ?_,
    fun s start live busy => ?_⟩
  · obtain ⟨stays, leaves⟩ := ejectStart_goes live working state current used clear
    have started := State.ejectStarted_iff r s
    have free : s.ejectStarted r = false ↔ ¬ (s.delivery.shelfSet = some r ∨ ∃ e ∈ s.delivery.list, e.set = r) := by
      rw [← started, Bool.not_eq_true]
    simp only [free, State.listTakes_iff] at stays leaves
    refine ⟨stays, fun goes => ⟨_, leaves goes, ?_⟩⟩
    cases x.chosen with
    | none => rfl
    | some b => rfl
  · have ready := State.shelfReady_of working occupied set used state chosen clear ((s.listTakes_iff b).mpr takes)
    have released : exec .shelfRelease s = .next (s.releaseShelf r b).syncIdle := by
      show execShelfRelease s = _
      rw [execShelfRelease, State.does_live live, ready]
    let u : State := { s.setRec r { x with state := .onBelt, place := .list } with
      delivery := { s.delivery with
        list := s.delivery.list ++ [⟨r, some ⟨targetOf b, ⟨s.now, s.path.deliveryLimit (targetOf b)⟩⟩⟩]
        shelf := .free, shelfSet := none, g0 := if targetOf b = .s0 then .bin0 else .belt, g0Busy := some s.now } }
    have eq : s.releaseShelf r b = u.recombine := by
      simp only [State.releaseShelf, State.modRec, used]
      rfl
    have governed := u.recombine_governed
    have g0 : (if targetOf b = .s0 then G0Position.bin0 else .belt) = if b = 0 then .bin0 else .belt := by
      simp only [targetOf_eq_s0]
    rw [eq] at released
    have recs : u.recombine.sets = (s.setRec r { x with state := .onBelt, place := .list }).sets := rfl
    refine ⟨_, released, ?_, fun k other => ?_, rfl, governed.of_same rfl Iff.rfl, ?_⟩
    · exact State.setRec_getRec r _ s
    · exact State.setRec_getRec_ne r k other _ s
    · rw [← g0]
      rw [State.eq_iff]
      refine ⟨rfl, rfl, rfl, rfl, ?_, rfl, rfl, rfl, rfl, rfl, rfl, rfl, rfl, rfl, rfl, rfl, rfl, rfl, rfl, rfl, rfl, rfl⟩
      exact u.report.recombine_only _ _
  · have ended : exec .g0GateFree s = .next ({ s.reach (start + s.path.gateTime) with
        delivery := { s.delivery with g0Busy := none } } : State).syncIdle := by
      show execG0GateFree s = _
      rw [execG0GateFree, State.does_live live, busy]
      rfl
    exact ⟨_, ended, rfl⟩

end Sys2Proof.Machine

/-! What a jam tells and what it loses (R60 to R62), stage by stage. -/

namespace Sys2Proof.Machine

/-! ## Reports whose hold reasons have changed too -/

/-- The reports `q` have told of `ds` after `p`, whatever has become of the hold reasons. -/
def Report.Spreads (ds : List OutRec) (p q : Report) : Prop := p.Tells ds { q with feed := p.feed }

theorem Report.Tells.spreads {ds : List OutRec} {p q : Report} (h : p.Tells ds q) : p.Spreads ds q :=
  ⟨h.gov, fun _ _ => Iff.rfl, h.flags, h.link, h.notices, h.joins⟩

/-- Reports with the same governor, link and Notice Unit have told of nothing. -/
theorem Report.Spreads.of_same {p q : Report} (gov : q.gov = p.gov) (link : q.link = p.link) (notice : q.notice = p.notice) :
    p.Spreads [] q := by
  have : ({ q with feed := p.feed } : Report) = p := by rw [gov, link, notice]
  rw [Report.Spreads, this]
  exact .refl p

theorem Report.Spreads.trans {ds es : List OutRec} {p q r : Report} (h : p.Spreads ds q) (k : q.Spreads es r) : p.Spreads (ds ++ es) r := by
  refine Report.Tells.trans h ?_
  exact ⟨k.gov, fun _ _ => Iff.rfl, k.flags, k.link, k.notices, k.joins⟩

theorem Report.Spreads.then {ds : List OutRec} {p q r : Report} (h : p.Spreads ds q) (k : q.Spreads [] r) : p.Spreads ds r := by
  simpa using h.trans k

theorem Report.Spreads.setReason (r : Reason) (c : Bool) (p : Report) : p.Spreads [] (p.setReason r c) := .of_same rfl rfl rfl

theorem Report.Spreads.raise (r : Reason) (p : Report) : p.Spreads [] (p.raise r) := .of_same rfl rfl rfl

theorem Report.Spreads.drop (r : Reason) (p : Report) : p.Spreads [] (p.drop r) := .of_same rfl rfl rfl

theorem Report.Spreads.foldl {α : Type} (f : State → α → State) (spreads : ∀ (s : State) (x : α), s.report.Spreads [] (f s x).report)
    (l : List α) (s : State) : s.report.Spreads [] (l.foldl f s).report := by
  induction l generalizing s with
  | nil => exact .of_same rfl rfl rfl
  | cons x l ih => exact (spreads s x).then (ih (f s x))

theorem State.completionTest_tells (i : Fin 16) (s : State) : s.report.Tells [] (s.completionTest i).report := by
  unfold State.completionTest
  split
  · exact State.notify_tells _ _ (s.setJob i _)
  · exact .refl _

theorem State.afterRemoval_tells (s : State) (e : Entry) : s.report.Tells [] (s.afterRemoval e).report := by
  unfold State.afterRemoval
  split
  · exact s.completionTest_tells _
  · exact .refl _

theorem State.jamFinishing_tells (s : State) : s.report.Tells [] s.jamFinishing.report := by
  rw [State.jamFinishing_eq]
  split
  · exact State.notify_tells _ _ s.jamEmptied
  · exact .refl _

/-- A record produced tells of its one disposition (R20). -/
theorem State.produce_spreads (r : Fin 8) (x : SetRec) (o : SetOutcome) (d : Option (Fin 41)) (n : Nat) (f : Bool) (s : State) :
    s.report.Spreads [.setDisp (x.disp o d n f)] (s.produce r x o d n f).report := by
  have disposed := (Report.dispose_tells (.setDisp (x.disp o d n f))
    ⟨.dispositionLost, some 0, some x.slot.val, some x.setOrdinal, some x.part⟩ s.report rfl).spreads
  refine disposed.then (Report.Spreads.then ?_ (State.completionTest_tells x.slot _).spreads)
  refine Report.Spreads.of_same ?_ ?_ ?_ <;> simp [State.syncSets, State.setReason]

/-- A record produced touches BACKLOG and SETS alone among the reasons (R20). -/
theorem State.produce_stands (r : Fin 8) (y : SetRec) (o : SetOutcome) (d : Option (Fin 41)) (n : Nat) (f : Bool) (s : State) (x : Reason)
    (other : x ≠ .backlog) (sets : x ≠ .sets) : (s.produce r y o d n f).stands x ↔ s.stands x := by
  unfold State.produce State.release
  rw [State.stands, (State.completionTest_tells _ _).reasons x other]
  show State.stands x (State.syncSets _) ↔ _
  rw [State.syncSets, State.setReason_stands, if_neg sets, State.stands]
  dsimp only
  rw [(State.bump_frame _ _ _).2.2.2.2.1]
  exact Report.dispose_mem _ _ _ _ other

/-! ## Sets of a slot -/

/-- Whether a record, in use or not, is one of slot `i`, as a number. -/
def ofSlot (i : Fin 16) : Option SetRec → Nat
  | some x => if x.slot = i then 1 else 0
  | none => 0

theorem SetTable.setsOf_eq (i : Fin 16) (t : SetTable) : t.setsOf i = ∑ r : Fin 8, ofSlot i t.recs[r] := by
  have counted (l : List (Fin 8)) : l.countP (fun r => match t.recs[r] with
      | some x => decide (x.slot = i)
      | none => false) = (l.map fun r => ofSlot i t.recs[r]).sum := by
    induction l with
    | nil => rfl
    | cons r l ih =>
      rw [List.countP_cons, List.map_cons, List.sum_cons, ih, Nat.add_comm]
      congr 1
      cases t.recs[r] with
      | none => rfl
      | some x => by_cases h : x.slot = i <;> simp [ofSlot, h]
  rw [Fin.sum_univ_def]
  exact counted _

theorem SetTable.setsOf_but_one (i : Fin 16) (r : Fin 8) (t u : SetTable)
    (h : ∀ k : Fin 8, k ≠ r → ofSlot i u.recs[k] = ofSlot i t.recs[k]) :
    u.setsOf i + ofSlot i t.recs[r] = t.setsOf i + ofSlot i u.recs[r] := by
  have rest : ∑ k ∈ Finset.univ.erase r, ofSlot i u.recs[k] = ∑ k ∈ Finset.univ.erase r, ofSlot i t.recs[k] :=
    Finset.sum_congr rfl fun k m => h k (Finset.ne_of_mem_erase m)
  have one (x : SetTable) : ofSlot i x.recs[r] + ∑ k ∈ Finset.univ.erase r, ofSlot i x.recs[k] = x.setsOf i :=
    (Finset.add_sum_erase _ (fun k : Fin 8 => ofSlot i x.recs[k]) (Finset.mem_univ r)).trans (SetTable.setsOf_eq i x).symm
  have := one t
  have := one u
  omega

/-- What freeing record `r` takes off the sets of a slot. -/
theorem SetTable.without_setsOf (i : Fin 16) (r : Fin 8) (t : SetTable) : (t.without r).setsOf i + ofSlot i t.recs[r] = t.setsOf i := by
  have recs (k : Fin 8) : ofSlot i (t.without r).recs[k] = if k = r then 0 else ofSlot i t.recs[k] := by
    rw [SetTable.without_recs]
    split
    · rfl
    · cases t.recs[k] with
      | none => rfl
      | some x => simp only [Option.map_some]; split <;> rfl
  have := SetTable.setsOf_but_one i r t (t.without r) fun k m => by rw [recs, if_neg m]
  rw [recs, if_pos rfl] at this
  exact this

/-- A slot that no record names has no sets. -/
theorem SetTable.setsOf_of_unnamed {i : Fin 16} {t : SetTable} (h : t.names i = false) : t.setsOf i = 0 := by
  rw [SetTable.setsOf, List.countP_eq_zero]
  intro r _
  have := List.any_eq_false.mp h t.recs[r] (Vector.mem_toList_iff.mpr (Vector.getElem_mem r.isLt))
  exact this

/-- A table none of whose records is in use. -/
theorem SetTable.empty_sums {t : SetTable} (h : ∀ r : Fin 8, t.recs[r] = none) (b : Fin 41) (i : Fin 16) :
    t.reservedIn b = 0 ∧ t.setsOf i = 0 := by
  rw [SetTable.reservedIn_eq, SetTable.setsOf_eq]
  simp only [h]
  exact ⟨Finset.sum_eq_zero fun _ _ => rfl, Finset.sum_eq_zero fun _ _ => rfl⟩

/-! ## Losses -/

/-- A slot with `n` of its sets lost (R6, R62). -/
def JobSlot.losing (n : Nat) (j j' : JobSlot) : Prop :=
  j' = { j with
    state := j'.state
    counters := { j.counters with lost := if j.state = .free ∨ n = 0 then j.counters.lost else min 65535 (j.counters.lost + n) } }

theorem JobSlot.losing_zero (j : JobSlot) (st : JobState) : j.losing 0 { j with state := st } := by simp [JobSlot.losing]

theorem JobSlot.losing_free (n : Nat) {j : JobSlot} (free : j.state = .free) : j.losing n j := by
  rw [JobSlot.losing, if_pos (.inl free)]

theorem JobSlot.losing.trans {m n : Nat} {j j' j'' : JobSlot} (h : j.losing m j') (k : j'.losing n j'')
    (free : j.state = .free → j'.state = .free) (freed : j'.state = .free → j.state ≠ .free → n = 0) : j.losing (m + n) j'' := by
  unfold JobSlot.losing at *
  rw [k, h]
  dsimp only
  congr 2
  by_cases held : j.state = .free
  · simp [held, free held]
  · by_cases gone : j'.state = .free
    · have := freed gone held
      subst this
      simp [held, gone]
    · by_cases none_ : n = 0
      · subst none_
        simp [held]
      · by_cases first : m = 0
        · subst first
          simp [held, gone, none_]
        · rw [if_neg (by simp [gone, none_]), if_neg (by simp [held, first]), if_neg (by simp [held, none_])]
          omega

/-- From `s` to `t` sets are lost, each with its reservation and counted in its slot, and slots may pass their completion test (R7, R62). -/
structure State.Loses (s t : State) : Prop where
  reserved : ∀ b : Fin 41, ∃ d, t.sets.reservedIn b + d = s.sets.reservedIn b ∧
    t.bins[b] = { s.bins[b] with reserved := s.bins[b].reserved - d }
  jobs : ∀ i : Fin 16, ∃ n, t.sets.setsOf i + n = s.sets.setsOf i ∧ s.jobs[i].losing n t.jobs[i]
  free : ∀ i : Fin 16, s.jobs[i].state = .free → t.jobs[i].state = .free
  freed : ∀ i : Fin 16, t.jobs[i].state = .free → s.jobs[i].state ≠ .free → t.sets.setsOf i = 0

/-- Nothing is lost where the sums of the Set Table, the bins and the slots stay. -/
theorem State.Loses.of_same {s t : State} (reserved : ∀ b, t.sets.reservedIn b = s.sets.reservedIn b)
    (setsOf : ∀ i, t.sets.setsOf i = s.sets.setsOf i) (bins : t.bins = s.bins) (jobs : t.jobs = s.jobs) : s.Loses t where
  reserved b := ⟨0, reserved b, by rw [bins]; rfl⟩
  jobs i := ⟨0, setsOf i, by rw [jobs]; exact JobSlot.losing_zero _ _⟩
  free i := by rw [jobs]; exact id
  freed i := by rw [jobs]; exact fun h n => absurd h n

theorem State.Loses.trans {s t u : State} (h : s.Loses t) (k : t.Loses u) : s.Loses u where
  reserved b := by
    obtain ⟨d, sum, bin⟩ := h.reserved b
    obtain ⟨e, sum', bin'⟩ := k.reserved b
    refine ⟨d + e, by omega, ?_⟩
    rw [bin', bin]
    dsimp only
    congr 1
    omega
  jobs i := by
    obtain ⟨m, sum, job⟩ := h.jobs i
    obtain ⟨n, sum', job'⟩ := k.jobs i
    exact ⟨m + n, by omega, job.trans job' (h.free i) fun gone held => by have := h.freed i gone held; omega⟩
  free i e := k.free i (h.free i e)
  freed i gone held := by
    by_cases before : t.jobs[i].state = .free
    · obtain ⟨n, sum, -⟩ := k.jobs i
      have := h.freed i before held
      omega
    · exact k.freed i gone before

theorem State.Loses.foldl {α : Type} (f : State → α → State) (loses : ∀ (s : State) (x : α), s.Loses (f s x)) (l : List α) (s : State) :
    s.Loses (l.foldl f s) := by
  induction l generalizing s with
  | nil => exact .of_same (fun _ => rfl) (fun _ => rfl) rfl rfl
  | cons x l ih => exact (loses s x).trans (ih (f s x))

/-- Any slot after a completion test: FREE, or as it was. -/
theorem State.completionTest_jobs (i k : Fin 16) (s : State) : (s.completionTest i).jobs[k] = s.jobs[k] ∨
    (k = i ∧ s.completes i = true ∧ (s.completionTest i).jobs[k] = { s.jobs[k] with state := .free }) := by
  by_cases passes : s.completes i = true
  · by_cases h : k = i
    · subst h
      refine .inr ⟨rfl, passes, ?_⟩
      obtain ⟨p, e, -⟩ := State.completionTest_passes passes
      rw [e]
      simp
    · refine .inl ?_
      obtain ⟨p, e, -⟩ := State.completionTest_passes passes
      rw [e]
      have : i.val ≠ k.val := fun e => h (Fin.ext e.symm)
      simp [this]
  · exact .inl (by rw [State.completionTest_fails passes])

theorem State.completionTest_loses (i : Fin 16) (s : State) : s.Loses (s.completionTest i) where
  reserved b := ⟨0, by simp, by simp⟩
  jobs k := by
    refine ⟨0, by simp, ?_⟩
    obtain e | ⟨-, -, e⟩ := s.completionTest_jobs i k <;> rw [e] <;> exact JobSlot.losing_zero _ _
  free k free := by
    obtain e | ⟨-, -, e⟩ := s.completionTest_jobs i k <;> rw [e]
    exact free
  freed k gone held := by
    obtain e | ⟨rfl, passes, -⟩ := s.completionTest_jobs i k
    · rw [e] at gone
      exact absurd gone held
    · obtain ⟨-, -, unnamed⟩ := (State.completes_iff _ _).mp passes
      rw [(State.completionTest_frame k s).2.2.2.2.2.2.2.2.1]
      exact SetTable.setsOf_of_unnamed unnamed

theorem State.afterRemoval_loses (s : State) (e : Entry) : s.Loses (s.afterRemoval e) := by
  unfold State.afterRemoval
  split
  · exact s.completionTest_loses _
  · exact .of_same (fun _ => rfl) (fun _ => rfl) rfl rfl

/-- A record produced: counted in its slot and freed, and then the slot's completion test (R7, R20). -/
theorem State.produce_eq (r : Fin 8) (x : SetRec) (o : SetOutcome) (d : Option (Fin 41)) (n : Nat) (f : Bool) (s : State) :
    ∃ v : State, s.produce r x o d n f = v.completionTest x.slot ∧ v.sets = s.sets.without r ∧ v.bins = s.bins ∧
      v.jobs = (s.bump x.slot (Counters.addOutcome o)).jobs ∧ v.queue = s.queue := by
  refine ⟨_, rfl, ?_, ?_, ?_, ?_⟩ <;> simp [State.syncSets, State.bump_jobs]

/-- A set in use, lost, takes its reservation and its place among its slot's sets along (R62). -/
theorem State.produce_loses {r : Fin 8} {x : SetRec} {s u : State} (used : s.getRec r = some x) (sets : u.sets = s.sets)
    (jobs : u.jobs = s.jobs)
    (bins : ∀ b : Fin 41, u.bins[b] = { s.bins[b] with reserved := s.bins[b].reserved - heldIn b (some x) }) :
    s.Loses (u.produce r x .lost none x.bound false) := by
  have recs : s.sets.recs[r] = some x := used
  obtain ⟨v, eq, sets', bins', jobs', -⟩ := u.produce_eq r x .lost none x.bound false
  rw [eq]
  refine State.Loses.trans ?_ (v.completionTest_loses x.slot)
  have same : v.jobs = (s.bump x.slot (Counters.addOutcome .lost)).jobs := by simp only [jobs', State.bump_jobs, jobs]
  have slot (i : Fin 16) : s.jobs[i].losing (ofSlot i (some x)) v.jobs[i] ∧ v.jobs[i].state = s.jobs[i].state := by
    rw [same, State.bump_jobs]
    by_cases free : s.jobs[x.slot].state = .free
    · rw [if_pos free]
      refine ⟨?_, rfl⟩
      by_cases here : x.slot = i
      · subst here
        exact JobSlot.losing_free _ free
      · simp [JobSlot.losing, ofSlot, here]
    · rw [if_neg free]
      by_cases here : x.slot = i
      · subst here
        have free' : s.jobs[x.slot.val].state ≠ .free := free
        simp [JobSlot.losing, free', ofSlot, Counters.addOutcome, count16]
      · have : x.slot.val ≠ i.val := fun e => here (Fin.ext e)
        simp [JobSlot.losing, ofSlot, here, this]
  refine ⟨fun b => ⟨heldIn b (some x), ?_, by rw [bins', bins b]⟩, fun i => ⟨ofSlot i (some x), ?_, (slot i).1⟩,
    fun i free => (slot i).2.trans free, fun i free held => absurd ((slot i).2.symm.trans free) held⟩
  · rw [← recs, sets', sets]
    exact SetTable.without_reservedIn b r s.sets
  · rw [← recs, sets', sets]
    exact SetTable.without_setsOf i r s.sets

theorem State.loseSet_loses (s : State) (r : Fin 8) : s.Loses (s.loseSet r) := by
  unfold State.loseSet
  split
  · exact .of_same (fun _ => rfl) (fun _ => rfl) rfl rfl
  · rename_i x used
    dsimp only
    split
    · rename_i c chosen
      refine State.produce_loses used rfl rfl fun b => ?_
      rw [State.unreserve_bins, heldIn_some b c x chosen]
      split
      · rename_i e
        subst e
        rfl
      · rfl
    · rename_i chosen
      exact State.produce_loses used rfl rfl fun b => by rw [heldIn_none b x chosen]; rfl

end Sys2Proof.Machine

/-! A jam in full (R31, R59 to R62, R84, R139, R149), the expiries that declare one (R44, R45, R137), and the end of STARTING (R57, R142). -/

namespace Sys2Proof.Machine

/-! ## The dispositions of a jam -/

/-- The disposition a set record is lost with (R62). -/
def SetRec.lostDisp (x : SetRec) : OutRec := .setDisp (x.disp .lost none x.bound false)

/-- The disposition a path-list entry is lost with: an orphan's (R61). -/
def PathEntry.lostDisp (e : PathEntry) : Option OutRec :=
  match e.body with
  | .orphan reason => some (.looseDisp ⟨false, e.seq, reason, e.slotOrd⟩)
  | .bound .. => none

theorem State.loseSet_spreads (s : State) (r : Fin 8) : s.report.Spreads ((s.getRec r).map SetRec.lostDisp).toList (s.loseSet r).report := by
  unfold State.loseSet
  cases used : s.getRec r with
  | none => exact .of_same rfl rfl rfl
  | some x =>
    dsimp only
    split
    · exact State.produce_spreads r x .lost none x.bound false (s.unreserve _ _)
    · exact State.produce_spreads r x .lost none x.bound false s

/-- A set lost leaves the dispositions of the others as they were. -/
theorem State.loseSet_lostDisp (s : State) {r k : Fin 8} (other : k ≠ r) :
    ((s.loseSet r).getRec k).map SetRec.lostDisp = (s.getRec k).map SetRec.lostDisp := by
  unfold State.loseSet
  split
  · rfl
  · rename_i x used
    have without : ((s.sets.without r).recs[k]).map SetRec.lostDisp = (s.getRec k).map SetRec.lostDisp := by
      rw [SetTable.without_recs, if_neg other, Option.map_map]
      show _ = (s.sets.recs[k]).map SetRec.lostDisp
      congr 1
      funext y
      simp only [Function.comp]
      split <;> rfl
    simp only [State.getRec]
    rw [State.produce_sets]
    split <;> exact without

/-- The sets of a list, each once, are lost with their dispositions in the order of the list (R62). -/
theorem State.foldl_loseSet_spreads (l : List (Fin 8)) (each : l.Nodup) (s : State) :
    s.report.Spreads (l.filterMap fun r => (s.getRec r).map SetRec.lostDisp) (l.foldl State.loseSet s).report := by
  induction l generalizing s with
  | nil => exact .of_same rfl rfl rfl
  | cons r l ih =>
    obtain ⟨fresh, each'⟩ := List.nodup_cons.mp each
    have rest : l.filterMap (fun k => ((s.loseSet r).getRec k).map SetRec.lostDisp) =
        l.filterMap fun k => (s.getRec k).map SetRec.lostDisp :=
      List.filterMap_congr fun k mem => s.loseSet_lostDisp fun e => fresh (e ▸ mem)
    have lost := (s.loseSet_spreads r).trans (ih each' (s.loseSet r))
    rw [rest] at lost
    rw [List.filterMap_cons, List.foldl_cons]
    cases used : (s.getRec r).map SetRec.lostDisp <;> rw [used] at lost <;> exact lost

theorem State.loseEntry_spreads (s : State) (e : PathEntry) : s.report.Spreads e.lostDisp.toList (s.loseEntry e).report := by
  unfold State.loseEntry PathEntry.lostDisp
  cases e.body with
  | orphan reason => exact (Report.dispose_tells (.looseDisp ⟨false, e.seq, reason, e.slotOrd⟩) _ _ rfl).spreads
  | bound => exact .of_same rfl rfl rfl

theorem State.foldl_loseEntry_spreads (l : List PathEntry) (s : State) :
    s.report.Spreads (l.filterMap PathEntry.lostDisp) (l.foldl State.loseEntry s).report := by
  induction l generalizing s with
  | nil => exact .of_same rfl rfl rfl
  | cons e l ih =>
    have lost := (s.loseEntry_spreads e).trans (ih (s.loseEntry e))
    rw [List.filterMap_cons, List.foldl_cons]
    cases h : e.lostDisp <;> rw [h] at lost <;> exact lost

/-! ## The hold reasons of a jam -/

theorem State.loseSet_stands (r : Fin 8) (x : Reason) (s : State) (other : x ≠ .backlog) (sets : x ≠ .sets) :
    (s.loseSet r).stands x ↔ s.stands x := by
  unfold State.loseSet
  split
  · exact Iff.rfl
  · dsimp only
    rw [State.produce_stands _ _ _ _ _ _ _ _ other sets]
    split <;> exact Iff.rfl

theorem State.loseEntry_stands (e : PathEntry) (x : Reason) (s : State) (other : x ≠ .backlog) : (s.loseEntry e).stands x ↔ s.stands x := by
  unfold State.loseEntry
  split
  · exact Report.dispose_mem _ _ _ _ other
  · exact Iff.rfl

theorem State.jamTold_stands (k : JamKind) (a : Sensor) (x : Reason) (s : State) (other : x ≠ .backlog) :
    (s.jamTold k a).stands x ↔ x = .jam ∨ (x ∉ [Reason.spinUp, .wake, .paused, .queue] ∧ s.stands x) := by
  unfold State.jamTold
  rw [foldl_stands _ x (fun t e => (t.afterRemoval_tells e).reasons x other), State.notify_stands _ _ _ _ other]
  unfold State.jamEntered
  rw [State.drop_stands]
  show _ ∧ State.stands x (((({ s with run := s.run.jammed } : State).raise .jam).drop .spinUp).drop .wake |>.drop .paused) ↔ _
  simp only [State.drop_stands, State.raise_stands, List.mem_cons, not_or, List.not_mem_nil, not_false_eq_true, and_true]
  by_cases jam : x = .jam
  · subst jam; simp
  · simp only [jam, false_or]
    show _ ∧ _ ∧ _ ∧ _ ∧ s.stands x ↔ _
    tauto

theorem State.jamLost_stands (k : JamKind) (a : Sensor) (x : Reason) (s : State) (other : x ≠ .backlog) (sets : x ≠ .sets) :
    (s.jamLost k a).stands x ↔ x = .jam ∨ (x ∉ [Reason.spinUp, .wake, .paused, .queue] ∧ s.stands x) := by
  unfold State.jamLost
  rw [foldl_stands _ x (fun t e => t.loseEntry_stands e x other), foldl_stands _ x (fun t r => t.loseSet_stands r x other sets),
    State.stands, (State.jamFinishing_tells _).reasons x other]
  exact State.jamTold_stands k a x s other

/-- The hold reasons a jam leaves: JAM, and of those that stood all it does not end (R149). -/
theorem State.jam_stands {k : JamKind} {a : Sensor} {s : State} (op : s.run.op ≠ .jam) (x : Reason) (other : x ≠ .backlog)
    (governor : x ≠ .governor) : (s.jam k a).stands x ↔
      x = .jam ∨ (x ∉ [Reason.spinUp, .wake, .paused, .queue, .buffer, .sets, .staples] ∧ s.stands x) := by
  rw [State.jam_eq k a s op, State.recombine_stands _ _ governor]
  simp only [State.drop_stands]
  show _ ∧ _ ∧ _ ∧ (s.jamLost k a).stands x ↔ _
  by_cases sets : x = .sets
  · subst sets; simp
  rw [State.jamLost_stands k a x s other sets]
  by_cases jam : x = .jam
  · subst jam; simp
  · simp only [jam, false_or, List.mem_cons, not_or, List.not_mem_nil, not_false_eq_true, and_true]
    tauto

/-! ## What a jam tells -/

/-- The part once the JAM notice is handed over (R60). -/
def State.jamNoticed (k : JamKind) (x : Sensor) (s : State) : State := s.jamEntered.notify (s.jamNotice k x) none

theorem State.jamTold_eq (k : JamKind) (x : Sensor) (s : State) :
    s.jamTold k x = s.queue.entries.foldl State.afterRemoval (s.jamNoticed k x) := by
  unfold State.jamTold State.jamNoticed State.jamNotice
  cases h : s.queue.entries with
  | nil => rfl
  | cons e l => cases e <;> rfl

/-- The set being stapled is the one in the compiler, so that every record keeps all but its result as a jam fixes it (R84). -/
theorem State.resultFixed_getRec (s : State) (r : Fin 8) :
    s.resultFixed.recs[r] = (s.getRec r).map fun x => { x with result := s.resultAtJam r x } := by
  have same (x : SetRec) (other : ¬ (s.compiler.current = some r ∧ x.state = .stapling)) :
      ({ x with result := s.resultAtJam r x } : SetRec) = x := by rw [State.resultAtJam, if_neg other]
  have kept (h : ∀ x, s.getRec r = some x → ¬ (s.compiler.current = some r ∧ x.state = .stapling)) :
      s.getRec r = (s.getRec r).map fun x => { x with result := s.resultAtJam r x } := by
    cases used : s.getRec r with
    | none => rfl
    | some x => exact (congrArg some (same x (h x used))).symm
  unfold State.resultFixed
  split
  · rename_i q x current
    have used := State.currentRec_used current
    have cur : s.compiler.current = some q := by
      unfold State.currentRec at current
      split at current
      · cases current
      · rename_i p e
        obtain ⟨y, -, pair⟩ := Option.map_eq_some_iff.mp current
        cases pair
        exact e
    split
    · rename_i stapling
      show (s.setRec q _).getRec r = _
      rw [State.setRec_getRec_ite]
      by_cases here : r = q
      · subst here
        rw [if_pos rfl, used, Option.map_some, State.resultAtJam, if_pos ⟨cur, stapling⟩]
      · rw [if_neg here]
        exact kept fun y _ h => here (Option.some.inj (h.1.symm.trans cur))
    · rename_i idle
      refine kept fun y e h => idle ?_
      have : q = r := Option.some.inj (cur.symm.trans h.1)
      subst this
      cases used.symm.trans e
      exact h.2
  · rename_i none_
    refine kept fun y e h => ?_
    unfold State.currentRec at none_
    rw [h.1] at none_
    simp [e] at none_

theorem State.jamEntered_report (s : State) : s.jamEntered.report = { s.report with feed := s.jamEntered.report.feed } := rfl

/-- What a jam leaves of the reports: the notice and the dispositions are told, and the governor is as it was until the last (R60 to R62). -/
theorem State.jamLost_spreads (k : JamKind) (x : Sensor) (s : State) (sound : s.sets.sound) :
    (s.jamNoticed k x).report.Spreads s.lostDispositions (s.jamLost k x).report := by
  have told : (s.jamNoticed k x).report.Spreads [] (s.jamTold k x).jamFinishing.report := by
    rw [State.jamTold_eq]
    exact (Report.Tells.spreads (.foldl State.afterRemoval State.afterRemoval_tells _ _)).then (State.jamFinishing_tells _).spreads
  have sets : (s.jamTold k x).jamFinishing.sets = s.resultFixed := by
    have same := s.jamTold_sets k x
    have frame : (s.jamTold k x).compiler = s.compiler ∧ (s.jamTold k x).stapler = s.stapler := by
      simp [State.jamTold, State.jamEntered]
    obtain ⟨compiler, stapler⟩ := frame
    rw [(State.jamFinishing_tables _).1]
    simp only [State.resultFixed, State.currentRec, State.getRec, State.setRec, same, compiler, stapler]
  have order : (s.jamTold k x).jamFinishing.sets.order = s.sets.order := by rw [sets, s.resultFixed_used.1]
  have recs (r : Fin 8) : ((s.jamTold k x).jamFinishing.getRec r).map SetRec.lostDisp = (s.getRec r).map fun y =>
      OutRec.setDisp ⟨.lost, none, y.slot, y.jobNumber, y.setOrdinal, y.part, y.bound, y.height.getD 0, s.resultAtJam r y, y.skip, y.side,
        y.broken, y.divert, false⟩ := by
    rw [State.getRec, sets, s.resultFixed_getRec, Option.map_map]
    rfl
  have lost := State.foldl_loseSet_spreads s.sets.order sound.1 (s.jamTold k x).jamFinishing
  simp only [recs] at lost
  have all := (told.trans lost).trans (State.foldl_loseEntry_spreads s.path.list _)
  unfold State.jamLost
  rw [order]
  exact all

/-- A jam's losses, from its declaration on (R62). -/
theorem State.jamLost_loses (k : JamKind) (x : Sensor) (s : State) : s.Loses (s.jamLost k x) := by
  have same : (s.jamNoticed k x).sets = s.sets ∧ (s.jamNoticed k x).bins = s.bins ∧ (s.jamNoticed k x).jobs = s.jobs := by
    simp [State.jamNoticed, State.jamEntered]
  obtain ⟨sets, bins, jobs⟩ := same
  have entered : s.Loses (s.jamNoticed k x) := .of_same (fun _ => by rw [sets]) (fun _ => by rw [sets]) bins jobs
  have told : s.Loses (s.jamTold k x) := by
    rw [State.jamTold_eq]
    exact entered.trans (.foldl _ State.afterRemoval_loses _ _)
  have finished : (s.jamTold k x).Loses (s.jamTold k x).jamFinishing := by
    have sums (u : State) (b : Fin 41) (i : Fin 16) :
        u.jamFinishing.sets.reservedIn b = u.sets.reservedIn b ∧ u.jamFinishing.sets.setsOf i = u.sets.setsOf i := by
      have same (r : Fin 8) : heldIn b u.resultFixed.recs[r] = heldIn b u.sets.recs[r] ∧
          ofSlot i u.resultFixed.recs[r] = ofSlot i u.sets.recs[r] := by
        rw [u.resultFixed_getRec]
        show heldIn b ((u.sets.recs[r]).map _) = _ ∧ ofSlot i ((u.sets.recs[r]).map _) = _
        cases u.sets.recs[r] <;> exact ⟨rfl, rfl⟩
      simp only [(State.jamFinishing_tables u).1, SetTable.reservedIn_eq, SetTable.setsOf_eq, same, and_self]
    exact .of_same (fun b => (sums _ b 0).1) (fun i => (sums _ 0 i).2) (by simp) (by simp)
  exact ((told.trans finished).trans (.foldl _ State.loseSet_loses _ _)).trans
    (.foldl _ (fun u e => .of_same (fun _ => by simp) (fun _ => by simp) (by simp) (by simp)) _ _)

end Sys2Proof.Machine

/-! A jam in full (R31, R59 to R62, R84, R139, R149), the expiries that declare one (R44, R45, R137), and the end of STARTING (R57, R142). -/

namespace Sys2Proof.Machine

/-! ## A jam in full -/

theorem Stapler.after_ne (b : Bool) (p : Stapler) : p.after b ≠ .stapling := by
  unfold Stapler.after
  split_ifs <;> exact nofun

/-- The stapler a jam leaves (R84). -/
theorem State.jamFinishing_stapler (s : State) : s.jamFinishing.stapler.state ≠ .stapling ∧
    s.jamFinishing.stapler.count = s.stapler.count ∧ (s.stapler.state = .stapling → s.jamFinishing.stapler.homeTimer = none) := by
  have left : s.jamFinishing.stapler = s.jamEmptied.stapler := by
    rw [State.jamFinishing_eq]
    split
    · simp
    · rfl
  rw [left]
  by_cases busy : s.stapler.state = .stapling
  · have : s.jamEmptied.stapler = s.stapler.leave (s.stapler.after !s.pins.home) := if_pos busy
    rw [this]
    exact ⟨Stapler.after_ne _ _, rfl, fun _ => rfl⟩
  · have : s.jamEmptied.stapler = s.stapler := if_neg busy
    rw [this]
    exact ⟨busy, rfl, fun h => absurd h busy⟩

/-- A jam declared is its losses, and then everything in flight gone (R62, R139). -/
theorem State.jam_fields {k : JamKind} {x : Sensor} {s : State} (op : s.run.op ≠ .jam) :
    s.jam k x = { s.jamLost k x with
      report := (s.jam k x).report
      path := { s.path with list := [], buffer := [], s1 := none, s2 := none, firstLen := none, se := none }
      binder := { s.binder with forming := none }
      delivery := { s.delivery with
        shelf := .free, shelfSet := none, holdTimer := none, compilerHold := none, list := [], g0Busy := none, jogger := none } } := by
  have frame : (s.jamLost k x).path = s.path ∧ (s.jamLost k x).binder = s.binder ∧ (s.jamLost k x).delivery = s.delivery := by
    simp [State.jamLost, State.jamTold, State.jamEntered]
  obtain ⟨path, binder, delivery⟩ := frame
  rw [State.jam_eq k x s op, ← path, ← binder, ← delivery]
  rfl

theorem State.jamLost_frame (k : JamKind) (x : Sensor) (s : State) : (s.jamLost k x).now = s.now ∧ (s.jamLost k x).run = s.run.jammed ∧
    (s.jamLost k x).queue = s.queue.flushed ∧ (s.jamLost k x).media = s.media ∧ (s.jamLost k x).chain = s.chain ∧
    (s.jamLost k x).compiler = .reset ∧ (s.jamLost k x).stapler = (s.jamTold k x).jamFinishing.stapler := by
  simp [State.jamLost, State.jamTold, State.jamEntered, (State.jamFinishing_tables _).2]

/-- The reports after a jam's last notice: its reasons dropped and the governor's combination made (R149, R152). -/
theorem State.jam_reports {k : JamKind} {x : Sensor} {s : State} (op : s.run.op ≠ .jam) :
    (s.jam k x).report.link = (s.jamLost k x).report.link ∧ (s.jam k x).report.notice = (s.jamLost k x).report.notice := by
  rw [State.jam_eq k x s op]
  exact ⟨Report.recombine_link _ _ _, State.recombine_notice _⟩

/-- From the JAM notice on, causes stay latched and the governor stays (R157). -/
theorem State.jamLost_latched (k : JamKind) (x : Sensor) (s : State) :
    (∀ c ∈ (s.jamNoticed k x).report.notice.flags, c ∈ (s.jamLost k x).report.notice.flags) ∧
      (s.jamLost k x).report.gov = s.report.gov := by
  have told : (s.jamNoticed k x).report.Tells [] (s.jamTold k x).jamFinishing.report := by
    rw [State.jamTold_eq]
    exact (Report.Tells.foldl State.afterRemoval State.afterRemoval_tells _ _).then (State.jamFinishing_tells _)
  have lostSets (l : List (Fin 8)) (u : State) : (∀ c ∈ u.report.notice.flags, c ∈ (l.foldl State.loseSet u).report.notice.flags) ∧
      (l.foldl State.loseSet u).report.gov = u.report.gov := by
    induction l generalizing u with
    | nil => exact ⟨fun _ => id, rfl⟩
    | cons r l ih =>
      have one := u.loseSet_spreads r
      exact ⟨fun c mem => (ih _).1 c (one.flags c mem), (ih _).2.trans one.gov⟩
  have lostEntries := State.foldl_loseEntry_spreads s.path.list
    ((s.jamTold k x).jamFinishing.sets.order.foldl State.loseSet (s.jamTold k x).jamFinishing)
  have sets := lostSets (s.jamTold k x).jamFinishing.sets.order (s.jamTold k x).jamFinishing
  have noticed : (s.jamNoticed k x).report.gov = s.report.gov := (State.notify_tells _ _ s.jamEntered).gov
  exact ⟨fun c mem => lostEntries.flags c (sets.1 c (told.flags c mem)),
    lostEntries.gov.trans (sets.2.trans (told.gov.trans noticed))⟩

/-- A jam declared outside JAM is in JAM, latched, with its hold reason, and every cause latched before stays (R59, R149, R157). -/
theorem State.jam_latched {k : JamKind} {x : Sensor} {s : State} (op : s.run.op ≠ .jam) :
    (s.jam k x).latched (.jam k) ∧ ∀ c, s.latched c → (s.jam k x).latched c := by
  obtain ⟨-, notice⟩ := State.jam_reports (k := k) (x := x) op
  have later := (s.jamLost_latched k x).1
  have noticed (c : Cause) : (s.jamNoticed k x).latched c ↔ c = .jam k ∨ s.latched c := State.notify_latched _ _ c s.jamEntered
  unfold State.latched at *
  rw [notice]
  exact ⟨later _ ((noticed _).mpr (.inl rfl)), fun c old => later c ((noticed c).mpr (.inr old))⟩

theorem State.jam_jams {k : JamKind} {x : Sensor} {s : State} (op : s.run.op ≠ .jam) : (s.jam k x).jams k :=
  ⟨State.jam_op k x s, (State.jam_latched op).1, (State.jam_stands op .jam (by decide) (by decide)).mpr (.inl rfl)⟩

/-- In JAM the idle timer is stopped already (R145). -/
theorem State.jam_syncIdle {k : JamKind} {x : Sensor} {s : State} (op : s.run.op ≠ .jam) : (s.jam k x).syncIdle = s.jam k x := by
  have run : (s.jam k x).run = s.run.jammed := by
    rw [State.jam_fields op]
    exact (s.jamLost_frame k x).2.1
  rw [State.syncIdle_eq, State.syncIdle_idle, run]
  rw [if_neg (by simp [RunController.jammed])]
  have idle : ({ s.run.jammed with idle := none } : RunController) = s.run.jammed := rfl
  rw [idle, ← run]

theorem State.jams_syncIdle {k : JamKind} {t : State} (h : t.jams k) : t.syncIdle.jams k := h

/-- With the Set Table sound, a jam leaves its allocation order empty (R62). -/
theorem State.jamLost_order (k : JamKind) (x : Sensor) (s : State) (sound : s.sets.sound) : (s.jamLost k x).sets.order = [] := by
  have kept := (s.jamLost_keepsBut k x [.reason .starting] (by simp) (.inr (by simp))).sets sound
  rw [List.eq_nil_iff_forall_not_mem]
  intro r mem
  have used := (kept.2 r).mp mem
  have none_ : (s.jamLost k x).sets.recs[r] = none := s.jamLost_getRec k x sound r
  rw [none_] at used
  cases used

theorem State.jam_governed {k : JamKind} {x : Sensor} {s : State} (op : s.run.op ≠ .jam) : s.governed (s.jam k x) := by
  rw [State.jam_eq k x s op]
  refine (State.recombine_governed _).of_same (s.jamLost_latched k x).2 ?_
  simp only [State.drop_stands]
  show _ ∧ _ ∧ _ ∧ (s.jamLost k x).stands .governor ↔ _
  rw [State.jamLost_stands k x .governor s (by decide) (by decide)]
  simp

/-- What a jam leaves (R31, R59 to R62, R84, R139, R149). -/
theorem State.jam_declared {k : JamKind} {x : Sensor} {s : State} (op : s.run.op ≠ .jam) (sound : s.sets.sound) :
    s.jamDeclared k s.now (s.jam k x) := by
  obtain ⟨now, run, queue, media, chain, compiler, stapler⟩ := s.jamLost_frame k x
  obtain ⟨idle, count, home⟩ := (s.jamTold k x).jamFinishing_stapler
  have told : (s.jamTold k x).stapler = s.stapler := by simp [State.jamTold, State.jamEntered]
  have fields := State.jam_fields (k := k) (x := x) op
  have stands := State.jam_stands (k := k) (a := x) op
  obtain ⟨latched, kept⟩ := State.jam_latched (k := k) (x := x) op
  have governed := State.jam_governed (k := k) (x := x) op
  have recs := s.jamLost_getRec k x sound
  have order := s.jamLost_order k x sound
  have loses := s.jamLost_loses k x
  have reasons : ∀ r ∈ [Reason.spinUp, .wake, .paused, .queue, .buffer, .sets, .staples], ¬ (s.jam k x).stands r := by
    intro r mem
    have other : r ≠ .backlog ∧ r ≠ .governor ∧ r ≠ .jam := by
      refine ⟨?_, ?_, ?_⟩ <;> rintro rfl <;> simp at mem
    rw [stands r other.1 other.2.1]
    rintro (jam | ⟨none_, -⟩)
    · exact other.2.2 jam
    · exact none_ mem
  have jam := (stands .jam (by decide) (by decide)).mpr (.inl rfl)
  rw [told] at count home
  rw [← stapler] at idle count home
  generalize s.jam k x = t at *
  refine ⟨?_, ?_, latched, jam, kept, reasons, ?_, fun r => ?_, ?_, ?_, ?_, ?_, ?_, ?_, fun busy => ?_, ?_, fun b => ?_, ?_, ?_, governed⟩
  · rw [fields, Nat.max_self]
    exact now
  · rw [fields]
    exact run
  · rw [fields]
    exact queue
  · rw [fields]
    exact recs r
  · rw [fields]
    exact order
  · rw [fields]
  · rw [fields]
  · rw [fields]
    exact compiler
  · rw [fields]
    exact idle
  · rw [fields]
    exact count
  · rw [fields]
    exact home busy
  · rw [fields]
  · obtain ⟨d, -, bin⟩ := loses.reserved b
    rw [fields]
    show (s.jamLost k x).bins[b] = { s.bins[b] with reserved := (s.jamLost k x).bins[b].reserved }
    rw [bin]
  · rw [fields]
    exact media
  · rw [fields]
    exact chain

/-- The dispositions of a jam: one of a set for each record in use, one for each orphan on the path list (R48, R61, R62). -/
theorem State.lostDispositions_length {s : State} (sound : s.sets.sound) (places : s.placesSound) : s.lostDispositions.length ≤ 14 := by
  have sets : s.sets.order.length ≤ 8 := by simpa using sound.1.length_le_card
  have path : s.path.list.length ≤ 6 := places.2.1
  unfold State.lostDispositions
  rw [List.length_append]
  exact (Nat.add_le_add (List.length_filterMap_le _ _) (List.length_filterMap_le _ _)).trans (by omega)

/-- What a jam loses (R60 to R62). -/
theorem State.jam_losses {k : JamKind} {x : Sensor} {s : State} (op : s.run.op ≠ .jam) (sound : s.sets.sound) (places : s.placesSound) :
    s.jamLosses k x (s.jam k x) := by
  have fields := State.jam_fields (k := k) (x := x) op
  have link := (State.jam_reports (k := k) (x := x) op).1
  have loses := s.jamLost_loses k x
  have empty := SetTable.empty_sums (s.jamLost_getRec k x sound)
  have few := State.lostDispositions_length sound places
  have lost := (s.jamLost_spreads k x sound).joins
  have noticed := State.notify_tells (s.jamNotice k x) none s.jamEntered
  obtain ⟨-, handed⟩ := State.notify_handed (s.jamNotice k x) none s.jamEntered
  have entered : s.jamEntered.report = { s.report with feed := s.jamEntered.report.feed } := s.jamEntered_report
  have bins : (s.jam k x).bins = (s.jamLost k x).bins := by rw [fields]
  have jobs : (s.jam k x).jobs = (s.jamLost k x).jobs := by rw [fields]
  unfold State.jamNoticed at lost
  refine ⟨fun b => ?_, fun i => ?_, fun room => ?_⟩
  · obtain ⟨d, sum, bin⟩ := loses.reserved b
    rw [(empty b 0).1, Nat.zero_add] at sum
    rw [bins, bin, sum]
  · obtain ⟨n, sum, job⟩ := loses.jobs i
    rw [(empty 0 i).2, Nat.zero_add] at sum
    rw [jobs, ← sum]
    exact job
  · rw [link]
    have queue : s.jamEntered.report.link.queue = s.report.link.queue := by rw [entered]
    obtain ⟨first, told, notices, small⟩ := noticed.joins (by rw [queue]; simp; omega)
    rw [queue] at told
    have short : (s.jamEntered.notify (s.jamNotice k x) none).report.link.queue.length ≤ 16 := by
      rw [queue] at small
      simp at small
      omega
    obtain ⟨added, all, dispositions, -⟩ := lost (by omega)
    refine ⟨?_, fun enabled unmasked global empty => ?_⟩
    · show (s.jamLost k x).report.link.queue.filter _ = _
      have all' : (s.jamLost k x).report.link.queue = _ := all
      rw [all', told, List.filter_append, List.filter_append, notices, dispositions, List.append_nil]
    · have sent : (s.jamEntered.notify (s.jamNotice k x) none).report.link.queue = s.report.link.queue ++ [.notice (s.jamNotice k x)] := by
        have cls : (s.jamNotice k x).cause.cls = 0 := rfl
        have notice : s.jamEntered.report.notice = s.report.notice := rfl
        simp only [notice, queue, cls] at handed
        rw [if_neg (by simp [enabled]), if_neg (by simp [unmasked, global]; omega), if_pos empty] at handed
        exact handed.2
      have all' : (s.jamLost k x).report.link.queue = _ := all
      rw [all', sent]
      simp

end Sys2Proof.Machine

/-! The expiries that declare a jam (R44, R45, R137), the end of STARTING (R57, R142), and S1 edges that classify nothing (R57, R63). -/

namespace Sys2Proof.Machine

/-! ## Expiries -/

/-- A command that declares a jam at the tick its timer reached (R59). -/
theorem exec_declares {c : Instr} {s : State} {k : JamKind} {x : Sensor} {n : Nat} (op : s.run.op ≠ .jam) (sound : s.sets.sound)
    (places : s.placesSound) (h : exec c s = .next ((s.reach n).jam k x).syncIdle) :
    ∃ t, exec c s = .next t ∧ s.jamDeclared k n t ∧ s.jamLosses k x t := by
  have op' : (s.reach n).run.op ≠ .jam := op
  rw [State.jam_syncIdle op'] at h
  obtain ⟨now, rest⟩ := State.jam_declared (k := k) (x := x) op' sound
  have losses := State.jam_losses (k := k) (x := x) op' sound places
  refine ⟨_, h, ⟨?_, rest⟩, losses⟩
  rw [now, Nat.max_self]
  rfl

/-- A stall timer at its limit (R45). -/
theorem exec_stallTimerExpiry {s : State} {g : StallSensor} {x : Window} (live : s.live) (runs : s.path.stall g = some x) :
    exec (.stallTimerExpiry g) s = .next ((s.reach x.limitAt).stallExpires g).syncIdle := by
  show execStallTimerExpiry g s = _
  rw [execStallTimerExpiry, State.does_live live, runs]

/-- A stall timer stopped leaves the names and the sheets it watched (R45). -/
theorem PathMonitor.stopStall_same (g : StallSensor) (p : PathMonitor) : (p.stopStall g).stall g = none ∧
    p.stopStall g = { p with s1 := (p.stopStall g).s1, s2 := (p.stopStall g).s2, se := (p.stopStall g).se } ∧
    (p.stopStall g).s1.map AtS1.id = p.s1.map AtS1.id ∧ (p.stopStall g).s1.map AtS1.edge = p.s1.map AtS1.edge ∧
    (p.stopStall g).s2.map AtS2.id = p.s2.map AtS2.id ∧ (p.stopStall g).se.map SEWatch.set = p.se.map SEWatch.set := by
  cases g with
  | s1 => cases h : p.s1 <;> simp [PathMonitor.stopStall, PathMonitor.stall, h]
  | s2 => cases h : p.s2 <;> simp [PathMonitor.stopStall, PathMonitor.stall, h]
  | se => cases h : p.se <;> simp [PathMonitor.stopStall, PathMonitor.stall, h]

/-- Settles O42: each expiry is a jam at the tick its timer reached, and a stall timer under a clear sensor only stops. -/
theorem expiriesDeclareAJam : Obligations.ExpiriesDeclareAJam := by
  unfold Obligations.ExpiriesDeclareAJam
  intro s live op sound places
  refine ⟨fun w x runs => ?_, fun g x runs => ?_, fun g x runs => ⟨fun covered => ?_, fun clear => ?_⟩⟩
  · have expired : exec (.pathLateWindowExpiry w) s = .next ((s.reach x.limitAt).jam .late (windowSensor w)).syncIdle := by
      show execPathLateWindowExpiry w s = _
      rw [execPathLateWindowExpiry, State.does_live live, runs]
    cases w <;> exact exec_declares op sound places expired
  · have expired : exec (.deliveryWindowExpiry g) s = .next ((s.reach x.limitAt).jam .late (targetSensor g)).syncIdle := by
      show execDeliveryWindowExpiry g s = _
      rw [execDeliveryWindowExpiry, State.does_live live, runs]
    cases g <;> exact exec_declares op sound places expired
  · have expired := exec_stallTimerExpiry live runs
    have covers : (s.reach x.limitAt).pins.covers g = true := by cases g <;> exact covered
    rw [State.stallExpires, if_pos covers] at expired
    cases g <;> exact exec_declares op sound places expired
  · have expired := exec_stallTimerExpiry live runs
    have covers : ¬ (s.reach x.limitAt).pins.covers g = true := by cases g <;> simpa [Pins.covers] using clear
    rw [State.stallExpires, if_neg covers] at expired
    obtain ⟨stopped, only, names⟩ := s.path.stopStall_same g
    refine ⟨_, expired, stopped, ?_, names⟩
    show _ = { s with now := _, path := { s.path with
      s1 := (s.path.stopStall g).s1, s2 := (s.path.stopStall g).s2, se := (s.path.stopStall g).se }, run := _ }
    rw [← only]
    rfl

/-! ## The end of STARTING -/

/-- Start-up is complete exactly when enumeration has ended and every start-up input has been qualified (R142). -/
theorem State.startupDone_iff (s : State) : s.startupDone = true ↔ s.run.op = .starting ∧ s.chain.enum = none ∧
    s.bins[(0 : Fin 41)].present.state ≠ none ∧ s.bins[(0 : Fin 41)].full.state ≠ none ∧ s.rejectNear.state ≠ none ∧
    s.rejectFull.state ≠ none ∧ s.stapler.cartridge.state ≠ none ∧ s.stapler.emptySensor.state ≠ none ∧
    ∀ k : Fin 4, s.towerQualified k = true := by
  simp only [State.startupDone, Bin.isQualified, Qual.isQualified, Bool.and_eq_true, decide_eq_true_iff, Option.isNone_iff_eq_none,
    Option.isSome_iff_ne_none, List.all_eq_true, List.mem_finRange, true_imp_iff, and_assoc]

theorem mem_binsOf (k : Fin 4) (b : Fin 41) : b ∈ binsOf k ↔ towerOf b = some k := by
  revert k b
  decide

theorem State.towerQualified_iff (s : State) (k : Fin 4) : s.towerQualified k = true ↔ (s.chain.towers[k].present = true →
    s.chain.towers[k].power.state ≠ none ∧ s.chain.towers[k].door.state ≠ none ∧ (s.chain.towers[k].power.state = some true →
      ∀ b : Fin 41, towerOf b = some k → s.bins[b].present.state ≠ none ∧ s.bins[b].full.state ≠ none)) := by
  unfold State.towerQualified
  generalize s.chain.towers[k] = x
  cases present : x.present with
  | false => simp [present]
  | true =>
    simp only [present, Bin.isQualified, Qual.isQualified, Bool.not_true, Bool.false_or, Bool.and_eq_true, Bool.or_eq_true,
      decide_eq_true_iff, Option.isSome_iff_ne_none, List.all_eq_true, mem_binsOf, forall_const, and_assoc]
    refine and_congr_right fun _ => and_congr_right fun _ => ?_
    by_cases on : x.power.state = some true <;> simp [on]

/-- Dropping STARTING changes the reasons as R151 places FEED GO. -/
theorem Feed.drop_reasons (r : Reason) (p : Feed) : (p.drop r).reasons = p.reasons.filter fun x => x ≠ r := by
  unfold Feed.drop
  split
  · dsimp only
    split <;> rfl
  · rename_i absent
    refine (List.filter_eq_self.mpr fun x mem => ?_).symm
    have : x ≠ r := fun e => absent (e ▸ mem)
    simpa using this

theorem Feed.drop_last (r : Reason) (p : Feed) (last : p.reasons = [r]) : (p.drop r).slot = some ⟨false, []⟩ := by
  simp [Feed.drop, last, Feed.place]

/-- STARTING ends in READY with every path sensor clear (R142). -/
theorem State.startingEnds_ready {s : State} (clear : s.pins.firstCovered = none) : s.startingEnds.syncIdle = { s with
    report := { s.report with feed := s.report.feed.drop .starting }
    run := { s.run with op := .ready, startup := none, standby := some s.now, idle := none } } := by
  unfold State.startingEnds
  dsimp only
  rw [clear]
  rfl

/-- STARTING ends in the jam STALL at the first sensor covered, and STARTING is dropped (R57, R142). -/
theorem State.startingEnds_jam {s : State} {x : Sensor} (op : s.run.op = .starting) (covered : s.pins.firstCovered = some x)
    (sound : s.sets.sound) (places : s.placesSound) : s.jamDeclared .stall s.now s.startingEnds.syncIdle ∧
      s.jamLosses .stall x s.startingEnds.syncIdle ∧ ¬ s.startingEnds.syncIdle.stands .starting := by
  let u : State := { s with run := { s.run with startup := none } }
  have op' : u.run.op ≠ .jam := by
    show s.run.op ≠ .jam
    rw [op]
    exact nofun
  have ended : s.startingEnds.syncIdle = (u.jam .stall x).drop .starting := by
    have idle := State.jam_syncIdle (k := .stall) (x := x) op'
    unfold State.startingEnds
    dsimp only
    rw [covered]
    show ((u.jam .stall x).syncIdle).drop .starting = _
    rw [idle]
  rw [ended]
  have latched := (State.jam_latched (k := .stall) (x := x) op')
  obtain ⟨now, run, cause, stands, kept, reasons, queue, recs, order, binder, path, compiler, idle, count, home, delivery, bins, media,
    chain, governed⟩ := State.jam_declared (k := .stall) (x := x) op' sound
  have losses := State.jam_losses (k := .stall) (x := x) op' sound places
  generalize u.jam .stall x = t at *
  refine ⟨⟨now, run, cause, ?_, kept, fun r mem => ?_, queue, recs, order, binder, path, compiler, idle, count, home, delivery, bins,
    media, chain, governed.1, governed.2.1, ?_⟩, losses, ?_⟩
  · exact (State.drop_stands _ _ _).mpr ⟨by decide, stands⟩
  · exact fun h => reasons r mem ((State.drop_stands _ _ _).mp h).2
  · have same : (t.drop .starting).stands .governor ↔ t.stands .governor := by rw [State.drop_stands]; simp
    obtain ⟨changed, unchanged⟩ := governed.2.2
    exact ⟨fun h => same.trans (changed h), fun h => same.trans (unchanged h)⟩
  · exact fun h => ((State.drop_stands _ _ _).mp h).1 rfl

theorem exec_startupComplete {s : State} (live : s.live) :
    exec .startupComplete s = .next (if s.startupDone then s.startingEnds else s).syncIdle := by
  show execStartupComplete s = _
  rw [execStartupComplete, State.does_live live]

theorem exec_startupTimerExpiry {s : State} {start : Nat} (live : s.live) (op : s.run.op = .starting) (runs : s.run.startup = some start) :
    exec .startupTimerExpiry s = .next (s.reach (start + 1500)).startingEnds.syncIdle := by
  show execStartupTimerExpiry s = _
  rw [execStartupTimerExpiry, State.does_live live, runs]
  exact congrArg (fun t : State => Host.Outcome.next t.syncIdle) (if_pos op)

/-- Settles O8: completeness is read off its inputs, and STARTING ends in READY or in the jam of the first covered sensor. -/
theorem startupEndsInReadyOrInAJam : Obligations.StartupEndsInReadyOrInAJam := by
  unfold Obligations.StartupEndsInReadyOrInAJam
  refine ⟨fun s => ⟨?_, fun live before => ?_⟩, fun s live done clear => ?_, fun s start live op runs clear => ?_,
    fun s x live done covered sound places => ?_, fun s start x live op runs covered sound places => ?_⟩
  · simp only [State.startupDone_iff, State.towerQualified_iff]
  · rw [exec_startupComplete live, before]
    rfl
  · have ended := exec_startupComplete live
    rw [if_pos done, State.startingEnds_ready clear] at ended
    exact ⟨_, ended, rfl, Feed.drop_reasons _ _, Feed.drop_last _ _⟩
  · have ended := exec_startupTimerExpiry live op runs
    have clear' : (s.reach (start + 1500)).pins.firstCovered = none := clear
    rw [State.startingEnds_ready clear'] at ended
    exact ⟨_, ended, rfl, Feed.drop_reasons _ _, Feed.drop_last _ _⟩
  · have ended := exec_startupComplete live
    rw [if_pos done] at ended
    exact ⟨_, ended, State.startingEnds_jam ((State.startupDone_iff s).mp done).1 covered sound places⟩
  · have ended := exec_startupTimerExpiry live op runs
    have op' : (s.reach (start + 1500)).run.op = .starting := op
    obtain ⟨⟨now, rest⟩, losses, dropped⟩ := State.startingEnds_jam (s := s.reach (start + 1500)) op' covered sound places
    refine ⟨_, ended, ⟨?_, rest⟩, losses, dropped⟩
    rw [now, Nat.max_self]
    rfl

/-! ## S1 edges -/

theorem State.endForming_same (b : BrokenReason) (s : State) : (s.endForming b).pins = s.pins ∧ (s.endForming b).run = s.run := by
  unfold State.endForming
  split <;> simp

theorem State.bind_same (d : Descriptor) (r : Fin 8) (s : State) : (s.bind d r).pins = s.pins ∧ (s.bind d r).run = s.run := by
  simp [State.bind, State.enterPath]

theorem State.lastBound_same (d : Descriptor) (r : Fin 8) (s : State) : (s.lastBound d r).pins = s.pins ∧ (s.lastBound d r).run = s.run := by
  unfold State.lastBound
  split
  · exact ⟨rfl, rfl⟩
  · split <;> simp

theorem State.looseOf_same (o : OrphanReason) (d : Descriptor) (s : State) :
    (s.looseOf o d).pins = s.pins ∧ (s.looseOf o d).run = s.run := by
  simp [State.looseOf, State.orphanOf, State.enterPath]

/-- The classification of a sheet with a readable descriptor leaves the pins and the Run Controller alone (R35 to R38). -/
theorem State.classifyDescriptor_same (d : Descriptor) (s : State) :
    (s.classifyDescriptor d).pins = s.pins ∧ (s.classifyDescriptor d).run = s.run := by
  have loose (o : OrphanReason) (b : BrokenReason) : ((s.endForming b).looseOf o d).pins = s.pins ∧
      ((s.endForming b).looseOf o d).run = s.run := by
    simp [State.looseOf_same, State.endForming_same]
  have last (u : State) (r : Fin 8) (h : u.pins = s.pins ∧ u.run = s.run) :
      (if d.last then u.lastBound d r else u).pins = s.pins ∧ (if d.last then u.lastBound d r else u).run = s.run := by
    split
    · simpa [State.lastBound_same] using h
    · exact h
  unfold State.classifyDescriptor
  simp only [State.completionTest_frame]
  split_ifs
  · unfold State.unopened
    split
    · exact ⟨rfl, rfl⟩
    · exact State.looseOf_same _ _ _
    · split
      · exact loose _ _
      · exact State.looseOf_same _ _ _
  · unfold State.openSet
    dsimp only
    split
    · exact loose _ _
    · refine last _ _ ?_
      simp [State.bind_same, State.endForming_same]
  · unfold State.extendSet
    split
    · exact State.looseOf_same _ _ _
    · split
      · exact State.looseOf_same _ _ _
      · split
        · exact loose _ _
        split
        · exact loose _ _
        · refine last _ _ ?_
          simp [State.bind_same]

/-- The classification of a sheet leaves the pins and the Run Controller alone (R32 to R38). -/
theorem State.classify_same (s : State) : s.classify.pins = s.pins ∧ s.classify.run = s.run := by
  have broken : (s.takeHead.breakForming .sheetMissing).pins = s.pins ∧ (s.takeHead.breakForming .sheetMissing).run = s.run := by
    rw [State.breakForming_eq]
    exact ⟨rfl, rfl⟩
  unfold State.classify
  split
  · exact ⟨rfl, rfl⟩
  · exact broken
  · exact broken
  · exact State.classifyDescriptor_same _ _

theorem exec_s1LeadingEdge {s : State} (live : s.live) : exec .s1LeadingEdge s = .next (match s.run.op with
    | .running => s.coverS1.s1Sheet
    | .paused => s.coverS1.s1Sheet
    | .starting => s.coverS1
    | _ => s.coverS1.jam .unexpectedSheet .s1).syncIdle := by
  show execS1LeadingEdge s = _
  rw [execS1LeadingEdge, State.does_live live]
  rfl

/-- A seventh sheet declares BUFFER OVERFLOW (R50). -/
theorem State.s1Sheet_of_full {s : State} (full : 6 ≤ s.path.list.length) : s.s1Sheet = s.jam .bufferOverflow .s1 :=
  if_neg (Nat.not_lt.mpr full)

/-- A sheet that has S1 to itself, in RUNNING or PAUSED: classified, or one too many (R50). -/
theorem State.s1Sheet_edge {s : State} (op : s.run.op ≠ .jam) : s.s1Sheet.syncIdle.pins = s.pins ∧
    (6 ≤ s.path.list.length → s.s1Sheet.syncIdle.jams .bufferOverflow) := by
  by_cases full : 6 ≤ s.path.list.length
  · rw [State.s1Sheet_of_full full, State.jam_syncIdle op]
    exact ⟨(State.jam_frame _ _ _).2.2.2.1, fun _ => State.jam_jams op⟩
  · have room : s.s1Sheet = s.classify := if_pos (Nat.lt_of_not_le full)
    rw [room]
    exact ⟨s.classify_same.1, fun h => absurd h full⟩

/-- Settles O35: the edge's branches by the operating state. -/
theorem s1EdgesThatClassifyNothing : Obligations.S1EdgesThatClassifyNothing := by
  unfold Obligations.S1EdgesThatClassifyNothing
  intro s live
  have edge := exec_s1LeadingEdge live
  have idle_ (u : State) (op : u.run.op ≠ .running) : u.syncIdle = { u with run := { u.run with idle := none } } := by
    rw [State.syncIdle_eq, State.syncIdle_idle, if_neg fun h => op h.1]
  have unexpected (op : s.run.op ≠ .jam) (h : exec .s1LeadingEdge s = .next (s.coverS1.jam .unexpectedSheet .s1).syncIdle) :
      ∃ t, exec .s1LeadingEdge s = .next t ∧ t.pins = { s.pins with s1 := true } ∧ t.jams .unexpectedSheet := by
    have op' : s.coverS1.run.op ≠ .jam := op
    rw [State.jam_syncIdle op'] at h
    exact ⟨_, h, (State.jam_frame _ _ _).2.2.2.1, State.jam_jams op'⟩
  have sheet (op : s.run.op ≠ .jam) (h : exec .s1LeadingEdge s = .next s.coverS1.s1Sheet.syncIdle) :
      ∃ t, exec .s1LeadingEdge s = .next t ∧ t.pins = { s.pins with s1 := true } ∧ (6 ≤ s.path.list.length → t.jams .bufferOverflow) :=
    ⟨_, h, State.s1Sheet_edge (s := s.coverS1) op⟩
  unfold State.working
  cases op : s.run.op with
  | starting =>
    rw [op] at edge
    rw [idle_ s.coverS1 (by show s.run.op ≠ _; simp [op])] at edge
    exact ⟨_, edge, rfl, fun _ => rfl, nofun, nofun, nofun⟩
  | ready =>
    rw [op] at edge
    obtain ⟨t, taken, pins, jams⟩ := unexpected (by simp [op]) edge
    exact ⟨t, taken, pins, nofun, fun _ => jams, nofun, nofun⟩
  | standby =>
    rw [op] at edge
    obtain ⟨t, taken, pins, jams⟩ := unexpected (by simp [op]) edge
    exact ⟨t, taken, pins, nofun, fun _ => jams, nofun, nofun⟩
  | waking =>
    rw [op] at edge
    obtain ⟨t, taken, pins, jams⟩ := unexpected (by simp [op]) edge
    exact ⟨t, taken, pins, nofun, fun _ => jams, nofun, nofun⟩
  | running =>
    rw [op] at edge
    obtain ⟨t, taken, pins, full⟩ := sheet (by simp [op]) edge
    exact ⟨t, taken, pins, nofun, nofun, nofun, fun _ => full⟩
  | paused =>
    rw [op] at edge
    obtain ⟨t, taken, pins, full⟩ := sheet (by simp [op]) edge
    exact ⟨t, taken, pins, nofun, nofun, nofun, fun _ => full⟩
  | jam =>
    rw [op] at edge
    have op' : s.coverS1.run.op = .jam := op
    dsimp only at edge
    rw [State.jam_second _ _ _ op', idle_ _ (by show s.run.op ≠ _; simp [op])] at edge
    refine ⟨_, edge, rfl, nofun, by simp, fun _ => ⟨?_, ?_, fun c => NoticeUnit.latch_mem _ _ _ _⟩, nofun⟩
    · exact (NoticeUnit.latch_mem _ _ _ _).mpr (.inl rfl)
    · rfl

end Sys2Proof.Machine

/-! Sheets at S1's trailing edge, at S2, SC and SR, and the entry buffer (R46, R49, R51 to R55). -/

namespace Sys2Proof.Machine

/-! ## Entries of the path list -/

/-- An entry changed is found by its name, changed (R48). -/
theorem PathMonitor.modEntry_entry (p : PathMonitor) (id : EntryName) (f : PathEntry → PathEntry) (same : ∀ e, (f e).id = e.id)
    (k : EntryName) : (p.modEntry id f).entry k = if k = id then (p.entry id).map f else p.entry k := by
  unfold PathMonitor.modEntry PathMonitor.entry
  induction p.list with
  | nil => simp
  | cons e l ih =>
    by_cases named : e.id = id
    · by_cases here : k = id
      · subst here
        simp [named, same]
      · have : e.id ≠ k := fun h => here (h ▸ named)
        simp only [if_neg here] at ih ⊢
        simp [named, same, named ▸ this, ih]
    · by_cases here : k = id
      · subst here
        simp only [if_true] at ih ⊢
        simp [named, ih]
      · simp only [if_neg here] at ih ⊢
        by_cases found : e.id = k <;> simp [named, found, ih, here]

/-- An entry that has left the list was changed for nothing. -/
theorem PathMonitor.modEntry_filter (p : PathMonitor) (id : EntryName) (f : PathEntry → PathEntry) (same : ∀ e, (f e).id = e.id) :
    (p.modEntry id f).list.filter (fun e => e.id ≠ id) = p.list.filter fun e => e.id ≠ id := by
  unfold PathMonitor.modEntry
  induction p.list with
  | nil => rfl
  | cons e l ih =>
    have ih' : List.filter (fun e => decide (e.id ≠ id)) (l.map fun e => if e.id = id then f e else e) =
      l.filter fun e => decide (e.id ≠ id) := ih
    by_cases named : e.id = id
    · simp only [List.map_cons, if_pos named]
      rw [List.filter_cons_of_neg (by simp [same, named]), List.filter_cons_of_neg (by simp [named])]
      exact ih'
    · simp only [List.map_cons, if_neg named]
      rw [List.filter_cons_of_pos (by simp [named]), List.filter_cons_of_pos (by simp [named])]
      exact congrArg (e :: ·) ih'

/-- The path without an entry. -/
def PathMonitor.without (id : EntryName) (p : PathMonitor) : PathMonitor := { p with list := p.list.filter fun x => x.id ≠ id }

/-- An entry that is ARRIVED with S1 clear leaves the list, and its arrival takes effect (R49). -/
theorem State.leaveIfDone_done {s : State} {id : EntryName} {e : PathEntry} (entry : s.path.entry id = some e) (stage : e.stage = .arrived)
    (clear : e.s1Clear = true) : s.leaveIfDone id = State.arrivalEffect e { s with path := s.path.without id } := by
  unfold State.leaveIfDone
  rw [entry]
  exact if_pos (by simp [stage, clear])

theorem State.leaveIfDone_stays {s : State} {id : EntryName} {e : PathEntry} (entry : s.path.entry id = some e)
    (stays : ¬ (e.stage = .arrived ∧ e.s1Clear = true)) : s.leaveIfDone id = s := by
  unfold State.leaveIfDone
  rw [entry]
  exact if_neg (by simpa using stays)

/-- An entry that has arrived (R49). -/
def PathEntry.arrives (e : PathEntry) : PathEntry := { e with stage := .arrived, window := none }

theorem State.sheetArrives_some {s : State} {st : Stage} {x : Sensor} {e : PathEntry} (oldest : s.path.oldest st = some e) :
    s.sheetArrives st x = State.leaveIfDone e.id { s with path := s.path.modEntry e.id PathEntry.arrives } := by
  unfold State.sheetArrives
  rw [oldest]
  rfl

/-- An arrival with S1 clear takes effect at once (R49). -/
theorem State.sheetArrives_clear {s : State} {st : Stage} {x : Sensor} {e : PathEntry} (oldest : s.path.oldest st = some e)
    (entry : s.path.entry e.id = some e) (clear : e.s1Clear = true) :
    s.sheetArrives st x = State.arrivalEffect e.arrives { s with path := s.path.without e.id } := by
  have found := s.path.modEntry_entry e.id PathEntry.arrives (fun _ => rfl) e.id
  rw [if_pos rfl, entry] at found
  rw [State.sheetArrives_some oldest, State.leaveIfDone_done (e := e.arrives) found rfl clear]
  have path : (s.path.modEntry e.id PathEntry.arrives).without e.id = s.path.without e.id := by
    have := s.path.modEntry_filter e.id PathEntry.arrives fun _ => rfl
    unfold PathMonitor.without
    rw [this]
    rfl
  show State.arrivalEffect e.arrives { s with path := (s.path.modEntry e.id PathEntry.arrives).without e.id } = _
  rw [path]

/-- An arrival with S1 still covered waits for it (R49). -/
theorem State.sheetArrives_covered {s : State} {st : Stage} {x : Sensor} {e : PathEntry} (oldest : s.path.oldest st = some e)
    (entry : s.path.entry e.id = some e) (covered : e.s1Clear = false) :
    s.sheetArrives st x = { s with path := s.path.modEntry e.id PathEntry.arrives } := by
  have found := s.path.modEntry_entry e.id PathEntry.arrives (fun _ => rfl) e.id
  rw [if_pos rfl, entry] at found
  rw [State.sheetArrives_some oldest]
  exact State.leaveIfDone_stays (e := e.arrives) found (by simp [PathEntry.arrives, covered])

/-! ## SR, and edges that find no entry -/

/-- What tells of something leaves the governor, the receiver and the record being sent alone. -/
theorem Report.Tells.only {ds : List OutRec} {p q : Report} (h : p.Tells ds q) :
    q = { p with feed := q.feed, notice := q.notice, link := { p.link with queue := q.link.queue } } := by
  have gov := h.gov
  have link := h.link
  cases q
  dsimp only at gov link
  rw [gov, ← link]

theorem exec_srLeadingEdge {s : State} (live : s.live) (working : s.working = true) : exec .srLeadingEdge s =
    .next (State.sheetArrives .toSR .sr { s with pins := { s.pins with sr := true } }).syncIdle := by
  show execSrLeadingEdge s = _
  rw [execSrLeadingEdge, State.does_live live]
  exact congrArg (fun t : State => Host.Outcome.next t.syncIdle) (if_pos working)

theorem exec_scLeadingEdge {s : State} (live : s.live) (working : s.working = true) : exec .scLeadingEdge s =
    .next (State.sheetArrives .toSC .sc { s with pins := { s.pins with sc := true } }).syncIdle := by
  show execScLeadingEdge s = _
  rw [execScLeadingEdge, State.does_live live]
  exact congrArg (fun t : State => Host.Outcome.next t.syncIdle) (if_pos working)

/-- A jam declared by a command outside JAM. -/
theorem exec_jams {c : Instr} {s u : State} {k : JamKind} {x : Sensor} (working : u.working = true)
    (h : exec c s = .next (u.jam k x).syncIdle) : ∃ t, exec c s = .next t ∧ t.jams k := by
  have op : u.run.op ≠ .jam := by
    obtain op | op := State.working_op working <;> rw [op] <;> exact nofun
  exact ⟨_, h, State.jams_syncIdle (State.jam_jams op)⟩

theorem State.sheetArrives_none {s : State} {st : Stage} {x : Sensor} (none_ : s.path.oldest st = none) :
    s.sheetArrives st x = s.jam .unexpectedSheet x := by
  unfold State.sheetArrives
  rw [none_]

/-- Outside RUNNING the idle timer is stopped (R145). -/
theorem State.syncIdle_of_not_working {s : State} (still : s.working = false) :
    s.syncIdle = { s with run := { s.run with idle := none } } := by
  have op : s.run.op ≠ .running := fun e => by simp [State.working, e] at still
  rw [State.syncIdle_eq, State.syncIdle_idle, if_neg fun h => op h.1]

/-- A sensor's edge that has no effect but on its pin (R57). -/
theorem exec_quiet {c : Instr} {s u : State} {f : State → State} (does : exec c s = s.does f) (live : s.live) (same : f s = u)
    (still : u.working = false) : exec c s = .next { u with run := { u.run with idle := none } } := by
  rw [does, State.does_live live, same, State.syncIdle_of_not_working still]

/-- Settles O39: an orphan's entry leaves with its disposition, an arrival nothing expects is a jam, and a part not working takes none. -/
theorem orphansAreRejectedAtSR : Obligations.OrphansAreRejectedAtSR := by
  unfold Obligations.OrphansAreRejectedAtSR
  refine ⟨fun s e reason live working oldest entry body clear => ?_, fun s live => ⟨fun working => ⟨fun none_ => ?_, fun none_ => ?_,
    fun none_ => ?_⟩, fun still => ?_⟩⟩
  · let u : State := { s with pins := { s.pins with sr := true }, path := s.path.without e.id }
    have arrived : exec .srLeadingEdge s = .next (u.produceLoose true e.seq reason e.slotOrd).syncIdle := by
      have := State.sheetArrives_clear (s := { s with pins := { s.pins with sr := true } }) (x := .sr) oldest entry clear
      rw [exec_srLeadingEdge live working, this, State.arrivalEffect]
      have body' : e.arrives.body = .orphan reason := body
      rw [body']
      rfl
    have tells := Report.dispose_tells (.looseDisp ⟨true, e.seq, reason, e.slotOrd⟩)
      ⟨.dispositionLost, some 1, e.slotOrd.map fun x => x.1.val, e.slotOrd.map fun x => x.2, e.seq.map BitVec.toNat⟩ u.report rfl
    refine ⟨_, arrived, Report.dispose_disposed _ _ u, ?_⟩
    rw [State.eq_iff]
    exact ⟨rfl, rfl, rfl, rfl, tells.only, rfl, rfl, rfl, rfl, rfl, rfl, rfl, rfl, rfl, rfl, rfl, rfl, rfl, rfl, rfl, rfl, rfl⟩
  · have edge : exec .s2LeadingEdge s =
        .next (State.jam .unexpectedSheet .s2 { s with pins := { s.pins with s2 := true } }).syncIdle := by
      show execS2LeadingEdge s = _
      rw [execS2LeadingEdge, State.does_live live]
      refine congrArg (fun t : State => Host.Outcome.next t.syncIdle) ((if_pos working).trans ?_)
      dsimp only
      rw [none_]
    exact exec_jams (u := { s with pins := { s.pins with s2 := true } }) working edge
  · have edge := exec_scLeadingEdge live working
    rw [State.sheetArrives_none (s := { s with pins := { s.pins with sc := true } }) none_] at edge
    exact exec_jams (u := { s with pins := { s.pins with sc := true } }) working edge
  · have edge := exec_srLeadingEdge live working
    rw [State.sheetArrives_none (s := { s with pins := { s.pins with sr := true } }) none_] at edge
    exact exec_jams (u := { s with pins := { s.pins with sr := true } }) working edge
  · have off : ¬ s.working = true := by simp [still]
    refine ⟨exec_quiet (u := { s with pins := { s.pins with s2 := true } }) (Eq.refl (execS2LeadingEdge s)) live ?_ still,
      exec_quiet (u := { s with pins := { s.pins with s2 := false } }) (Eq.refl (execS2TrailingEdge s)) live ?_ still,
      exec_quiet (u := { s with pins := { s.pins with sc := true } }) (Eq.refl (execScLeadingEdge s)) live ?_ still,
      exec_quiet (u := { s with pins := { s.pins with sr := true } }) (Eq.refl (execSrLeadingEdge s)) live ?_ still,
      exec_quiet (u := { s with pins := { s.pins with se := true } }) (Eq.refl (execSeLeadingEdge s)) live ?_ still,
      exec_quiet (u := { s with pins := { s.pins with se := false } }) (Eq.refl (execSeTrailingEdge s)) live ?_ still,
      exec_quiet (u := { s with pins := { s.pins with s0 := true } })
        (f := fun s => State.arrive .s0 { s with pins := { s.pins with s0 := true } }) rfl live ?_ still⟩ <;> exact if_neg off

end Sys2Proof.Machine

/-! Bound sheets at S2, the entry buffer and its head (R52, R53, R66, R70). -/

namespace Sys2Proof.Machine

/-! ## The readiness test -/

/-- The compiler is collecting the sheet's set, with no split sheet standing (R66). -/
def State.collects (r : Fin 8) (s : State) : Prop :=
  s.compiler.state = .collecting ∧ s.compiler.current = some r ∧ s.compiler.splitSheet = none

/-- The compiler is ready: EMPTY with no set at SE, or COLLECTING the sheet's set with room for it (R66). -/
theorem State.compilerReady_iff (r : Fin 8) (thickness : Nat) (s : State) : s.compilerReady r thickness = true ↔
    (s.compiler.state = .empty ∧ s.path.se = none) ∨
      (s.collects r ∧ s.compiler.contents + s.compiler.inFlight + thickness ≤ 1000) := by
  simp only [State.compilerReady, State.collects, Bool.or_eq_true, Bool.and_eq_true, decide_eq_true_iff, Option.isNone_iff_eq_none,
    and_assoc]
  exact Iff.rfl

/-- The readiness test fails on the capacity alone (R70). -/
theorem State.overCapacity_iff (r : Fin 8) (thickness : Nat) (s : State) : s.overCapacity r thickness = true ↔
    s.collects r ∧ 1000 < s.compiler.contents + s.compiler.inFlight + thickness := by
  simp only [State.overCapacity, State.collects, Bool.and_eq_true, decide_eq_true_iff, Option.isNone_iff_eq_none, and_assoc]
  exact Iff.rfl

/-- Nothing of another set is in flight (R52, R53). -/
theorem State.sameSetInFlight_iff (r : Fin 8) (s : State) : s.sameSetInFlight r = true ↔
    ∀ x ∈ s.path.list, x.stage = .toSC → ∃ q m, x.boundTo = some (q, m) ∧ s.sets.continues q r = true := by
  simp only [State.sameSetInFlight, List.all_eq_true, Bool.or_eq_true, decide_eq_true_iff]
  refine forall₂_congr fun x _ => ?_
  cases h : x.boundTo with
  | none => simp
  | some y =>
    obtain ⟨q, m⟩ := y
    simp only [Option.some.injEq, Prod.mk.injEq]
    constructor
    · rintro (other | one) flying
      · exact absurd flying other
      · exact ⟨q, m, ⟨rfl, rfl⟩, one⟩
    · intro all
      by_cases flying : x.stage = .toSC
      · obtain ⟨_, _, ⟨rfl, rfl⟩, one⟩ := all flying
        exact .inr one
      · exact .inl flying

/-- The head of the entry buffer, with its sheet's set (R52). -/
theorem PathMonitor.bufferHead_of {p : PathMonitor} {id : EntryName} {rest : List EntryName} {e : PathEntry} {r : Fin 8} {m : Media}
    (buffer : p.buffer = id :: rest) (entry : p.entry id = some e) (bound : e.boundTo = some (r, m)) : p.bufferHead = some (e, r, m) := by
  simp [PathMonitor.bufferHead, buffer, entry, bound]

/-- The head's test makes it the split sheet where it fails on the capacity alone, and nothing else (R53, R70). -/
theorem State.bufferTest_of {s : State} {e : PathEntry} {r : Fin 8} {m : Media} (head : s.path.bufferHead = some (e, r, m)) :
    s.bufferTest = { s with
      compiler := { s.compiler with
        splitSheet := if s.overCapacity r m.thickness then some e.id else s.compiler.splitSheet } } := by
  unfold State.bufferTest
  rw [head]
  dsimp only
  split <;> rfl

theorem State.bufferTest_empty {s : State} (empty : s.path.buffer = []) : s.bufferTest = s := by
  simp [State.bufferTest, PathMonitor.bufferHead, empty]

/-! ## S2 -/

/-- An entry sent towards SC (R44, R52, R53). -/
def PathMonitor.sentEntry (now : Nat) (released : Bool) (p : PathMonitor) (e : PathEntry) : PathEntry :=
  { e with stage := .toSC, window := some ⟨now, p.lateLimit p.timing[5]⟩, released := released }

theorem exec_s2LeadingEdge {s : State} {e : PathEntry} {r : Fin 8} {snap : Media} (live : s.live) (working : s.working = true)
    (oldest : s.path.oldest .toS2 = some e) (bound : e.boundTo = some (r, snap)) :
    exec .s2LeadingEdge s = .next (State.s2Sheet e r snap { s with pins := { s.pins with s2 := true } }).syncIdle := by
  show execS2LeadingEdge s = _
  rw [execS2LeadingEdge, State.does_live live]
  refine congrArg (fun t : State => Host.Outcome.next t.syncIdle) ((if_pos working).trans ?_)
  dsimp only
  rw [oldest]
  dsimp only
  rw [bound]

/-- A bound sheet at S2 goes straight on, or to the entry buffer (R52). -/
theorem State.s2Sheet_eq (e : PathEntry) (r : Fin 8) (snap : Media) (s : State) :
    let u : State := { s with path := { s.path with s2 := some ⟨e.id, some ⟨s.now, s.path.stallLimit snap.length⟩⟩ } }
    (s.path.buffer = [] ∧ s.compilerReady r snap.thickness = true ∧ s.sameSetInFlight r = true →
      s.s2Sheet e r snap = u.sendToSC e snap false) ∧
    (¬ (s.path.buffer = [] ∧ s.compilerReady r snap.thickness = true ∧ s.sameSetInFlight r = true) →
      s.s2Sheet e r snap = u.sendToBuffer e) := by
  have test : ∀ u : State, u.path = { s.path with s2 := u.path.s2 } → u.compiler = s.compiler → u.sets = s.sets →
      ((u.path.buffer.isEmpty && u.compilerReady r snap.thickness && u.sameSetInFlight r) = true ↔
        s.path.buffer = [] ∧ s.compilerReady r snap.thickness = true ∧ s.sameSetInFlight r = true) := by
    intro u path compiler sets
    have list : u.path.list = s.path.list := by rw [path]
    have se : u.path.se = s.path.se := by rw [path]
    have buffer : u.path.buffer = s.path.buffer := by rw [path]
    have ready : u.compilerReady r snap.thickness = s.compilerReady r snap.thickness := by
      simp only [State.compilerReady, compiler, se]
    have alone : u.sameSetInFlight r = s.sameSetInFlight r := by simp only [State.sameSetInFlight, list, sets]
    rw [buffer, ready, alone, Bool.and_eq_true, Bool.and_eq_true, List.isEmpty_iff, and_assoc]
  intro u
  have test := test u rfl rfl rfl
  exact ⟨fun straight => if_pos (test.mpr straight), fun not => if_neg fun h => not (test.mp h)⟩

theorem State.s2Sheet_pins (e : PathEntry) (r : Fin 8) (snap : Media) (s : State) : (s.s2Sheet e r snap).pins = s.pins := by
  unfold State.s2Sheet State.sendToBuffer
  dsimp only
  split
  · rfl
  split
  · simp
  split
  · simp [State.syncBuffer]
  · rfl

/-- A fifth sheet for the entry buffer is a jam (R52). -/
theorem State.sendToBuffer_full {e : PathEntry} {s : State} (full : 4 ≤ s.path.buffer.length) :
    s.sendToBuffer e = s.jam .bufferOverflow .s2 := if_pos full

/-- A sheet that joins the entry buffer, with BUFFER; one that finds it empty is tested there (R52, R53, R70). -/
theorem State.sendToBuffer_eq {e : PathEntry} {s : State} {r : Fin 8} {snap : Media} (room : s.path.buffer.length < 4)
    (entry : s.path.entry e.id = some e) (bound : e.boundTo = some (r, snap)) :
    s.sendToBuffer e = { s with
      report := s.report.setReason .buffer true
      path := { s.path with
        buffer := s.path.buffer ++ [e.id]
        list := s.path.list.map fun x => if x.id = e.id then { x with stage := .onBuffer, window := none } else x }
      compiler := { s.compiler with
        splitSheet := if s.path.buffer = [] ∧ s.overCapacity r snap.thickness = true then some e.id else s.compiler.splitSheet } } := by
  let p := s.path.modEntry e.id fun x => { x with stage := .onBuffer, window := none }
  let u : State := { s with path := { p with buffer := p.buffer ++ [e.id] }, report := s.report.setReason .buffer true }
  have joined : s.sendToBuffer e = if s.path.buffer.isEmpty then u.bufferTest else u := by
    have sync : ({ s with path := { p with buffer := p.buffer ++ [e.id] } } : State).syncBuffer = u := by
      have some_ : (!(p.buffer ++ [e.id]).isEmpty) = true := by cases p.buffer <;> rfl
      show ({ s with path := { p with buffer := p.buffer ++ [e.id] } } : State).setReason .buffer (!(p.buffer ++ [e.id]).isEmpty) = u
      rw [some_]
      rfl
    refine (if_neg (Nat.not_le.mpr room)).trans ?_
    show (if s.path.buffer.isEmpty then State.bufferTest (State.syncBuffer _) else State.syncBuffer _) = _
    rw [sync]
  rw [joined]
  by_cases empty : s.path.buffer = []
  · have found := s.path.modEntry_entry e.id (fun x => { x with stage := .onBuffer, window := none }) (fun _ => rfl) e.id
    rw [if_pos rfl, entry] at found
    have head : u.path.bufferHead = some ({ e with stage := .onBuffer, window := none }, r, snap) := by
      refine PathMonitor.bufferHead_of (id := e.id) (rest := []) ?_ found bound
      show s.path.buffer ++ [e.id] = _
      rw [empty, List.nil_append]
    rw [if_pos (by simp [empty]), State.bufferTest_of head]
    by_cases over_ : s.overCapacity r snap.thickness = true
    · rw [if_pos (show u.overCapacity r snap.thickness = true from over_), if_pos ⟨empty, over_⟩]
      rfl
    · rw [if_neg (show ¬ u.overCapacity r snap.thickness = true from over_), if_neg fun h => over_ h.2]
      rfl
  · rw [if_neg (by simpa using empty), if_neg fun h => empty h.1]
    rfl

/-! ## The release from the buffer -/

theorem exec_bufferRelease {s : State} (live : s.live) : exec .bufferRelease s = .next (match s.releaseReady with
    | none => s
    | some (e, snap) => (State.sendToSC e snap true { s with path := { s.path with buffer := s.path.buffer.tail } }).syncBuffer).syncIdle := by
  show execBufferRelease s = _
  rw [execBufferRelease]
  exact State.does_live live _

/-- The test of the buffer's head for its release (R53). -/
theorem State.releaseReady_of {s : State} {e : PathEntry} {r : Fin 8} {m : Media} (head : s.path.bufferHead = some (e, r, m)) :
    let goes := s.compilerReady r m.thickness = true ∧ s.sameSetInFlight r = true ∧
      ∀ x ∈ s.path.list, x.released = true → x.stage ≠ .toSC
    (goes → s.releaseReady = some (e, m)) ∧ (¬ goes → s.releaseReady = none) := by
  have test : (s.compilerReady r m.thickness && s.sameSetInFlight r && s.path.list.all fun x => !(x.released && x.stage = .toSC)) = true ↔
      s.compilerReady r m.thickness = true ∧ s.sameSetInFlight r = true ∧ ∀ x ∈ s.path.list, x.released = true → x.stage ≠ .toSC := by
    simp only [Bool.and_eq_true, List.all_eq_true, Bool.not_eq_true', Bool.and_eq_false_iff, decide_eq_false_iff_not, and_assoc]
    refine and_congr_right fun _ => and_congr_right fun _ => forall₂_congr fun x _ => ?_
    cases x.released <;> simp
  have ready : s.releaseReady = if (s.compilerReady r m.thickness && s.sameSetInFlight r &&
      s.path.list.all fun x => !(x.released && x.stage = .toSC)) = true then some (e, m) else none := by
    unfold State.releaseReady
    rw [head]
  exact ⟨fun goes => ready.trans (if_pos (test.mpr goes)), fun stays => ready.trans (if_neg fun h => stays (test.mp h))⟩

/-- Settles O37: the readiness test's two outcomes at S2, the trailing edge, and the same test for the buffer's head. -/
theorem sheetsGoStraightOnOrOntoTheBuffer : Obligations.SheetsGoStraightOnOrOntoTheBuffer := by
  unfold Obligations.SheetsGoStraightOnOrOntoTheBuffer
  intro s live
  refine ⟨fun e r snap working oldest entry bound => ?_, ?_, fun empty => ?_, fun e id rest r snap buffer entry bound => ?_⟩
  · have edge := exec_s2LeadingEdge live working oldest bound
    let v : State := { s with pins := { s.pins with s2 := true } }
    obtain ⟨goes, joins⟩ := v.s2Sheet_eq e r snap
    rw [State.compilerReady_iff, State.sameSetInFlight_iff] at goes joins
    have entry' : v.path.entry e.id = some e := entry
    refine ⟨_, edge, ?_, fun straight => ?_, fun stays room => ?_, fun full => ?_⟩
    · exact v.s2Sheet_pins e r snap
    · rw [goes straight]
      rfl
    · obtain ⟨u, u_eq⟩ : ∃ u : State,
        u = { v with path := { v.path with s2 := some ⟨e.id, some ⟨v.now, v.path.stallLimit snap.length⟩⟩ } } := ⟨_, rfl⟩
      have joined := State.sendToBuffer_eq (s := u) (e := e) (by rw [u_eq]; exact room) (by rw [u_eq]; exact entry') bound
      have over_ : u.overCapacity r snap.thickness = true ↔ _ := State.overCapacity_iff r snap.thickness u
      rw [joins stays, ← u_eq, joined]
      rw [u_eq] at over_ ⊢
      refine ⟨rfl, fun empty collects thick => if_pos ⟨empty, over_.mpr ⟨collects, thick⟩⟩, fun other => if_neg fun h => ?_, ?_,
        fun x other => ?_⟩
      · obtain some_ | fits := other
        · exact some_ h.1
        · exact fits (over_.mp h.2)
      · exact (Feed.set_mem _ _ _ _).mpr (by simp)
      · exact (Feed.set_mem _ _ _ _).trans (by rw [if_neg other]; exact Iff.rfl)
    · have op : s.run.op ≠ .jam := by
        obtain op | op := State.working_op working <;> rw [op] <;> exact nofun
      have stays : s.path.buffer ≠ [] := by
        intro h
        rw [h] at full
        exact absurd full (by decide)
      rw [joins fun h => stays h.1, State.sendToBuffer_full (by exact full)]
      exact State.jams_syncIdle (State.jam_jams op)
  · have edge : exec .s2TrailingEdge s = .next (if s.working then
        { s with pins := { s.pins with s2 := false }, path := { s.path with s2 := none } }
        else { s with pins := { s.pins with s2 := false } }).syncIdle := by
      show execS2TrailingEdge s = _
      rw [execS2TrailingEdge, State.does_live live]
      rfl
    refine ⟨_, edge, ?_⟩
    cases s.working <;> rfl
  · have released := exec_bufferRelease live
    have none_ : s.releaseReady = none := by simp [State.releaseReady, PathMonitor.bufferHead, empty]
    rw [none_] at released
    exact released
  · obtain ⟨leaves, stays⟩ := State.releaseReady_of (PathMonitor.bufferHead_of buffer entry bound)
    rw [State.compilerReady_iff, State.sameSetInFlight_iff] at leaves stays
    have released := exec_bufferRelease live
    refine ⟨fun not => ?_, fun goes => ?_⟩
    · rw [stays not] at released
      exact released
    · obtain rfl : e.id = id := by simpa using List.find?_some entry
      have tail : s.path.buffer.tail = rest := by rw [buffer]; rfl
      rw [leaves goes] at released
      dsimp only at released
      rw [tail] at released
      refine ⟨_, released, ?_, ?_, fun x other => ?_⟩
      · rfl
      · refine (Feed.set_mem _ _ _ _).trans ?_
        rw [if_pos rfl]
        show (!rest.isEmpty) = true ↔ _
        cases rest <;> simp
      · exact (Feed.set_mem _ _ _ _).trans (by rw [if_neg other]; exact Iff.rfl)

end Sys2Proof.Machine

/-! What a bin choice and a re-evaluation may change (R91 to R97, R106, R108, R131, R132): of the set records their bin, divert reason, side,
part bin and state; of the bins their reserved height and next side; the cursors; the two holds of the Delivery Controller; and reports. -/

namespace Sys2Proof.Machine

/-! ## The relation -/

/-- `y` is the record `x`, given a bin, a divert reason or a state anew. -/
def SetRec.rebinned (x y : SetRec) : Prop :=
  y = { x with chosen := y.chosen, divert := y.divert, side := y.side, partBin := y.partBin, state := y.state }

theorem SetRec.rebinned.refl (x : SetRec) : x.rebinned x := rfl

theorem SetRec.rebinned.trans {x y z : SetRec} (h : x.rebinned y) (k : y.rebinned z) : x.rebinned z := by
  unfold SetRec.rebinned at *
  rw [k, h]

/-- `t` is `s` after bins have been chosen for sets, or taken from them. -/
structure State.Rebins (s t : State) : Prop where
  frame : t = { s with
    report := t.report, sets := ⟨t.sets.recs, s.sets.order⟩, routes := { s.routes with entries := t.routes.entries }, bins := t.bins
    delivery := { s.delivery with holdTimer := t.delivery.holdTimer, compilerHold := t.delivery.compilerHold } }
  free : ∀ k, s.getRec k = none → t.getRec k = none
  used : ∀ k x, s.getRec k = some x → ∃ y, t.getRec k = some y ∧ x.rebinned y
  bins : ∀ b : Fin 41, t.bins[b] = { s.bins[b] with reserved := t.bins[b].reserved, nextSide := t.bins[b].nextSide }
  tells : s.report.Tells [] t.report

theorem State.Rebins.refl (s : State) : s.Rebins s where
  frame := rfl
  free _ := id
  used _ x h := ⟨x, h, rfl⟩
  bins _ := rfl
  tells := .refl _

theorem State.Rebins.trans {s t u : State} (h : s.Rebins t) (k : t.Rebins u) : s.Rebins u where
  frame := by rw [k.frame, h.frame]
  free r e := k.free r (h.free r e)
  used r x e := by
    obtain ⟨y, e, one⟩ := h.used r x e
    obtain ⟨z, e, two⟩ := k.used r y e
    exact ⟨z, e, one.trans two⟩
  bins b := by rw [k.bins b, h.bins b]
  tells := h.tells.then k.tells

theorem State.Rebins.foldl {α : Type} (f : State → α → State) (rebins : ∀ (s : State) (x : α), s.Rebins (f s x)) (l : List α) (s : State) :
    s.Rebins (l.foldl f s) := by
  induction l generalizing s with
  | nil => exact .refl s
  | cons x l ih => exact (rebins s x).trans (ih (f s x))

theorem State.Rebins.ite {c : Prop} [Decidable c] {s t u : State} (h : s.Rebins t) (k : s.Rebins u) : s.Rebins (if c then t else u) := by
  split
  · exact h
  · exact k

/-! ## The operations -/

/-- A record in use rewritten in what a bin choice writes. -/
theorem State.setRec_rebins {s : State} {r : Fin 8} {x y : SetRec} (used : s.getRec r = some x) (same : x.rebinned y) :
    s.Rebins (s.setRec r y) where
  frame := rfl
  free k e := by
    rw [State.setRec_getRec_ite, if_neg fun h => by rw [h, used] at e; cases e]
    exact e
  used k z e := by
    rw [State.setRec_getRec_ite]
    by_cases h : k = r
    · subst h
      rw [used] at e
      cases e
      exact ⟨y, if_pos rfl, same⟩
    · exact ⟨z, (if_neg h).trans e, rfl⟩
  bins _ := rfl
  tells := .refl _

/-- A bin's reserved height and next side rewritten. -/
theorem State.modBin_rebins (b : Fin 41) (f : Bin → Bin) (s : State)
    (same : ∀ x, f x = { x with reserved := (f x).reserved, nextSide := (f x).nextSide }) : s.Rebins (s.modBin b f) where
  frame := rfl
  free _ := id
  used _ x e := ⟨x, e, rfl⟩
  bins k := by
    rw [State.modBin_bins]
    split
    · rename_i h
      subst h
      exact same _
    · rfl
  tells := .refl _

theorem State.notify_rebins (n : Notice) (origin : Option (Fin 4)) (s : State) : s.Rebins (s.notify n origin) where
  frame := rfl
  free _ := id
  used _ x e := ⟨x, e, rfl⟩
  bins _ := rfl
  tells := s.notify_tells n origin

theorem State.cursorReturn_rebins (b : Fin 41) (s : State) : s.Rebins (s.cursorReturn b) where
  frame := rfl
  free _ := id
  used _ x e := ⟨x, e, rfl⟩
  bins _ := rfl
  tells := .refl _

theorem State.moveCursor_rebins (i : Fin 32) (b : Fin 41) (s : State) : s.Rebins (s.moveCursor i b) where
  frame := rfl
  free _ := id
  used _ x e := ⟨x, e, rfl⟩
  bins _ := rfl
  tells := .refl _

theorem State.dropReservation_rebins (r : Fin 8) (s : State) : s.Rebins (s.dropReservation r) := by
  unfold State.dropReservation
  split
  · rename_i x used
    split
    · exact ((State.setRec_rebins used (y := { x with chosen := none }) rfl).trans
        (State.modBin_rebins _ (fun y => { y with reserved := y.reserved - x.height.getD 0 }) _ fun _ => rfl)).trans
        (State.cursorReturn_rebins _ _)
    · exact .refl s
  · exact .refl s

theorem State.takeSide_rebins (r : Fin 8) (b : Fin 41) (s : State) : s.Rebins (s.takeSide r b) := by
  unfold State.takeSide
  split
  · exact .refl s
  · rename_i x used
    dsimp only
    split
    · refine State.Rebins.trans (State.setRec_rebins used ?_) (State.modBin_rebins b _ _ fun _ => ?_) <;> rfl
    · exact State.setRec_rebins used (y := { x with side := .none }) rfl

theorem State.reserve_rebins (b : Fin 41) (h : Nat) (s : State) : s.Rebins (s.reserve b h) :=
  State.modBin_rebins b (fun x => { x with reserved := x.reserved + h }) s fun _ => rfl

theorem State.choose_rebins (r : Fin 8) (b : Fin 41) (s : State) : s.Rebins (s.choose r b) := by
  have dropped := s.dropReservation_rebins r
  unfold State.choose
  dsimp only
  split
  · exact dropped
  · rename_i x used
    exact ((dropped.trans (State.setRec_rebins used (y := { x with chosen := some b }) rfl)).trans (State.reserve_rebins _ _ _)).trans
      (State.takeSide_rebins _ _ _)

theorem State.retarget_rebins (r : Fin 8) (d : DivertReason) (s : State) : s.Rebins (s.retarget r d) := by
  have dropped := s.dropReservation_rebins r
  unfold State.retarget
  dsimp only
  split
  · exact dropped
  · rename_i x used
    exact ((dropped.trans (State.setRec_rebins used (y := { x with divert := _, chosen := some 0 }) rfl)).trans
      (State.reserve_rebins _ _ _)).trans (State.takeSide_rebins _ _ _)

theorem State.scan_rebins (r : Fin 8) (h : Nat) (bins : List (Fin 41)) (moved : Fin 41 → State → State) (s : State)
    (rebins : ∀ b t, State.Rebins t (moved b t)) : s.Rebins (s.scan r h bins moved) := by
  unfold State.scan
  split
  · exact (s.choose_rebins r _).trans (rebins _ _)
  · exact .refl s

theorem State.selectBin_rebins (r : Fin 8) (s : State) : s.Rebins (s.selectBin r) := by
  have still := State.scan_rebins r (moved := fun _ s => s) (rebins := fun _ t => .refl t)
  unfold State.selectBin
  split
  · exact .refl s
  · dsimp only
    split
    · exact s.retarget_rebins r _
    split
    · exact s.retarget_rebins r _
    split
    · split
      · exact .refl s
      · exact still _ _ s
    split
    · exact (s.retarget_rebins r _).trans (State.notify_rebins _ _ _)
    · exact still _ _ s
    · split
      · exact still _ _ s
      · unfold State.scanSequence
        dsimp only
        split
        · exact State.scan_rebins r _ _ _ s fun b t => t.moveCursor_rebins _ b
        · exact still _ _ s

/-- A set that has found a bin (R131, R132). -/
theorem State.foundBin_rebins (r : Fin 8) (s : State) : s.Rebins (s.foundBin r) := by
  have found : s.Rebins (s.modRec r fun x => { x with state := .readyToEject }) := by
    unfold State.modRec
    split
    · rename_i x used
      exact State.setRec_rebins used (y := { x with state := .readyToEject }) rfl
    · exact .refl s
  refine ⟨?_, found.free, found.used, found.bins, found.tells⟩
  rw [State.eq_iff]
  unfold State.foundBin
  refine ⟨?_, ?_, ?_, ?_, ?_, ?_, ?_, ?_, ?_, ?_, ?_, ?_, ?_, ?_, ?_, ?_, ?_, ?_, ?_, ?_, ?_, ?_⟩ <;> dsimp only <;> rw [found.frame]

theorem State.reevaluatePart_rebins (r : Fin 8) (s : State) : s.Rebins (s.reevaluatePart r) :=
  .ite ((s.selectBin_rebins r).trans (State.foundBin_rebins r _)) (s.selectBin_rebins r)

theorem State.passTo_rebins (b : Fin 41) (d : Option DivertReason) (s : State) (k : Fin 8) : s.Rebins (s.passTo b d k) := by
  unfold State.passTo
  split
  · exact .refl s
  · rename_i x used
    have written := State.setRec_rebins used (y := { x with
      partBin := some b, divert := x.divert.orElse fun _ => if x.state = .onBelt then none else d }) rfl
    exact .ite (written.trans (State.reevaluatePart_rebins k _)) written

theorem State.passPartBin_rebins (r : Fin 8) (s : State) : s.Rebins (s.passPartBin r) := by
  unfold State.passPartBin
  split
  · split
    · exact .ite (.foldl _ (fun t k => t.passTo_rebins _ _ k) _ s) (.refl s)
    · exact .refl s
  · exact .refl s

theorem State.binChoice_rebins (r : Fin 8) (s : State) : s.Rebins (s.binChoice r) :=
  (s.selectBin_rebins r).trans (State.passPartBin_rebins r _)

theorem State.reevaluate_rebins (r : Fin 8) (s : State) : s.Rebins (s.reevaluate r) :=
  .ite (((s.selectBin_rebins r).trans (State.foundBin_rebins r _)).trans (State.passPartBin_rebins r _)) (s.selectBin_rebins r)

theorem State.reevaluateFor_rebins (b : Fin 41) (r : Option (Fin 8)) (s : State) : s.Rebins (s.reevaluateFor b r) := by
  unfold State.reevaluateFor
  split
  · exact .refl s
  · split
    · exact .ite (s.reevaluate_rebins _) (.refl s)
    · exact .refl s

theorem State.binEvent_rebins (s : State) (b : Fin 41) : s.Rebins (s.binEvent b) :=
  (s.reevaluateFor_rebins b _).trans (State.reevaluateFor_rebins b _ _)

theorem State.divertHeld_rebins (r : Fin 8) (d : DivertReason) (s : State) : s.Rebins (s.divertHeld r d) :=
  ((s.retarget_rebins r d).trans (State.foundBin_rebins r _)).trans (State.passPartBin_rebins r _)

theorem State.holdExpires_rebins (s : State) : s.Rebins s.holdExpires := by
  unfold State.holdExpires
  split
  · exact .refl s
  · split
    · exact .refl s
    · exact (s.divertHeld_rebins _ _).trans (State.notify_rebins _ _ _)

/-! ## What the governor reads stays -/

theorem State.Rebins.alike {s t : State} (h : s.Rebins t) (b : Fin 41) : (t.bins[b]).alike s.bins[b] := by
  rw [h.bins b]
  exact ⟨rfl, rfl, rfl, rfl, rfl⟩

theorem State.Rebins.binState {s t : State} (h : s.Rebins t) (b : Fin 41) : t.binState b = s.binState b := by
  have chain : t.chain = s.chain := by rw [h.frame]
  refine State.binState_congr b ?_ (h.alike b)
  unfold State.reachable
  rw [chain]

/-- The governor's combination is that of the conditions before (R152). -/
theorem State.Rebins.combines {s t : State} (h : s.Rebins t) : t.combines ↔ s.combines := by
  have gov := h.tells.gov
  have stapler : t.stapler = s.stapler := by rw [h.frame]
  have near : t.rejectNear = s.rejectNear := by rw [h.frame]
  have chain : t.chain = s.chain := by rw [h.frame]
  have shelf : t.delivery.shelf = s.delivery.shelf := by rw [h.frame]
  have full : t.fullCount = s.fullCount := State.fullCount_congr h.binState
  have condition (i : Fin 6) : t.condition i ↔ s.condition i := by
    match i with
    | 0 => show t.stapler.count < t.stapler.low ↔ _; rw [stapler]; exact Iff.rfl
    | 1 => show t.rejectNear.state = _ ↔ _; rw [near]; exact Iff.rfl
    | 2 => show (t.binState 0 = _ ∨ t.binState 0 = _) ↔ _; rw [h.binState]; exact Iff.rfl
    | 3 => show t.delivery.shelf = _ ↔ _; rw [shelf]; exact Iff.rfl
    | 4 => show t.report.gov.threshold ≤ t.fullCount ↔ _; rw [gov, full]; exact Iff.rfl
    | 5 => show (∃ k : Fin 4, t.chain.towers[k].state = _) ↔ _; rw [chain]; exact Iff.rfl
  unfold State.combines
  simp only [condition, gov]

end Sys2Proof.Machine

/-! What bin choices made for other sets leave of a set that is not HELD: all but its part bin, and its divert reason where it has none
(R19, R131). -/

namespace Sys2Proof.Machine

/-! ## Other records -/

/-- A set's bin choice changes no other set's record (R91 to R95). -/
theorem State.selectBin_getRec_ne {r k : Fin 8} (other : r ≠ k) (s : State) : (s.selectBin k).getRec r = s.getRec r := by
  cases used : s.getRec k with
  | none => rw [State.selectBin_free k s used]
  | some x =>
    have scans : ∀ (h : Nat) (bins : List (Fin 41)) (moved : Fin 41 → State → State), (∀ b t, (moved b t).getRec r = t.getRec r) →
        (s.scan k h bins moved).getRec r = s.getRec r := by
      intro h bins moved still
      obtain ⟨_, e⟩ | ⟨b, _, _, e⟩ := State.scan_cases k h bins moved s
      · rw [e]
      · obtain ⟨_, chosen⟩ := State.choose_getRec k r b x s used
        rw [e, still, chosen, if_neg other]
    have retargets : ∀ d, (s.retarget k d).getRec r = s.getRec r := by
      intro d
      obtain ⟨_, e⟩ := State.retarget_getRec k r d x s used
      rw [e, if_neg other]
    have still := fun h bins => scans h bins (fun _ t => t) fun _ _ => rfl
    unfold State.selectBin
    rw [used]
    dsimp only
    split
    · exact retargets _
    split
    · exact retargets _
    split
    · split
      · rfl
      · exact still _ _
    split
    · exact retargets .noRoute
    · exact still _ _
    · split
      · exact still _ _
      · unfold State.scanSequence
        dsimp only
        split
        · exact scans _ _ _ fun _ _ => rfl
        · exact still _ _

theorem State.foundBin_getRec_ne {r k : Fin 8} (other : r ≠ k) (s : State) : (s.foundBin k).getRec r = s.getRec r := by
  cases used : s.getRec k with
  | some x => rw [State.foundBin_getRec k r x s used, if_neg other]
  | none =>
    show (s.modRec k fun x => { x with state := .readyToEject }).getRec r = _
    rw [State.modRec_free k _ s used]

theorem State.reevaluatePart_getRec_ne {r k : Fin 8} (other : r ≠ k) (s : State) : (s.reevaluatePart k).getRec r = s.getRec r := by
  unfold State.reevaluatePart
  dsimp only
  split
  · exact (State.foundBin_getRec_ne other _).trans (State.selectBin_getRec_ne other s)
  · exact State.selectBin_getRec_ne other s

/-! ## A set that is not HELD -/

/-- `t` is `s`, with a set that is not HELD as it was but for its part bin, and for a divert reason it may have been given. -/
def State.Spares (r : Fin 8) (s t : State) : Prop :=
  ∀ x, s.getRec r = some x → x.state ≠ .held → ∃ y, t.getRec r = some y ∧
    y = { x with partBin := y.partBin, divert := y.divert } ∧ (x.divert.isSome → y.divert = x.divert)

theorem State.Spares.refl (r : Fin 8) (s : State) : s.Spares r s := fun x used _ => ⟨x, used, rfl, fun _ => rfl⟩

theorem State.Spares.trans {r : Fin 8} {s t u : State} (h : s.Spares r t) (k : t.Spares r u) : s.Spares r u := by
  intro x used held
  obtain ⟨y, used_y, same_y, divert_y⟩ := h x used held
  have held_y : y.state ≠ .held := by rw [same_y]; exact held
  obtain ⟨z, used_z, same_z, divert_z⟩ := k y used_y held_y
  refine ⟨z, used_z, ?_, fun carries => ?_⟩
  · rw [same_z, same_y]
  · rw [divert_z (by rw [divert_y carries]; exact carries), divert_y carries]

theorem State.Spares.of_getRec {r : Fin 8} {s t : State} (same : t.getRec r = s.getRec r) : s.Spares r t :=
  fun x used _ => ⟨x, same.trans used, rfl, fun _ => rfl⟩

theorem State.passTo_spares (r : Fin 8) (b : Fin 41) (d : Option DivertReason) (s : State) (k : Fin 8) : s.Spares r (s.passTo b d k) := by
  unfold State.passTo
  split
  · exact .refl r s
  · rename_i x used
    dsimp only
    by_cases here : r = k
    · subst here
      intro y used' held
      rw [used] at used'
      cases used'
      rw [if_neg held]
      refine ⟨_, State.setRec_getRec _ _ _, rfl, fun carries => ?_⟩
      cases h : x.divert with
      | none => rw [h] at carries; cases carries
      | some _ => rfl
    · refine .of_getRec ?_
      split
      · exact (State.reevaluatePart_getRec_ne here _).trans (State.setRec_getRec_ne k r here _ s)
      · exact State.setRec_getRec_ne k r here _ s

theorem State.passPartBin_spares (r q : Fin 8) (s : State) : s.Spares r (s.passPartBin q) := by
  have fold : ∀ (b : Fin 41) (d : Option DivertReason) (l : List (Fin 8)) (s : State),
      s.Spares r (l.foldl (fun s k => s.passTo b d k) s) := by
    intro b d l
    induction l with
    | nil => exact fun s => .refl r s
    | cons k l ih => exact fun s => (s.passTo_spares r b d k).trans (ih _)
  unfold State.passPartBin
  split
  · split
    · split
      · exact fold _ _ _ s
      · exact .refl r s
    · exact .refl r s
  · exact .refl r s

theorem State.reevaluateFor_spares (r : Fin 8) (b : Fin 41) (q : Option (Fin 8)) (s : State) : s.Spares r (s.reevaluateFor b q) := by
  unfold State.reevaluateFor
  split
  · exact .refl r s
  · rename_i k
    split
    · rename_i x used
      by_cases here : r = k
      · subst here
        intro y used' held
        rw [used] at used'
        cases used'
        rw [if_neg (by simp [held])]
        exact State.Spares.refl _ s x used held
      · split
        · unfold State.reevaluate
          dsimp only
          have chosen := State.Spares.of_getRec (State.selectBin_getRec_ne here s)
          split
          · exact (chosen.trans (.of_getRec (State.foundBin_getRec_ne here _))).trans (State.passPartBin_spares r k _)
          · exact chosen
        · exact .refl r s
    · exact .refl r s

theorem State.binEvent_spares (r : Fin 8) (s : State) (b : Fin 41) : s.Spares r (s.binEvent b) :=
  (s.reevaluateFor_spares r b _).trans (State.reevaluateFor_spares r b _ _)

/-! ## A purged set leaves finishing (R83) -/

/-- The staple result a purged set leaves finishing with (R83). -/
def SetRec.purgedResult (x : SetRec) : StapleResult :=
  if x.state = .stapling then x.result else if x.pattern = .none then .notRequested else .skipped

/-- A purged set leaves finishing READY TO EJECT for bin 0, with its result and its height (R83, R106). -/
theorem State.purgedEject_getRec {s : State} {r : Fin 8} {x : SetRec} (used : s.getRec r = some x) (purged : x.divert = some .purged) :
    ∃ y, (s.purgedEject r).getRec r = some y ∧ y = { x with
      result := x.purgedResult, height := some (x.height.getD x.thickness), chosen := some 0, side := y.side, partBin := y.partBin
      state := .readyToEject } := by
  have dropped := State.dropReservation_getRec r r x s used
  rw [if_pos rfl] at dropped
  obtain ⟨u, u_eq⟩ : ∃ u, u = (s.dropReservation r).modRec r fun x' =>
    { x' with result := x.purgedResult, height := some (x'.height.getD x'.thickness) } := ⟨_, rfl⟩
  have fixed : u.getRec r = some { x with
      chosen := none, result := x.purgedResult, height := some (x.height.getD x.thickness) } := by
    rw [u_eq]
    exact State.modRec_getRec _ _ _ _ dropped
  obtain ⟨side, diverted⟩ := State.retarget_getRec r r .purged _ u fixed
  rw [if_pos rfl] at diverted
  have waits := State.awaitEject_getRec r r .ejecting _ _ diverted
  rw [if_pos rfl] at waits
  have kept : x.divert.getD .purged = .purged := by rw [purged]; rfl
  have ends : s.purgedEject r = match x.chosen with
      | some b => ((u.retarget r .purged).awaitEject r .ejecting).binEvent b
      | none => (u.retarget r .purged).awaitEject r .ejecting := by
    unfold State.purgedEject
    rw [used, u_eq]
    rfl
  rw [ends]
  split
  · obtain ⟨y, used_y, same, divert⟩ := State.binEvent_spares r _ _ _ waits nofun
    refine ⟨y, used_y, ?_⟩
    have divert' : y.divert = some .purged := (divert rfl).trans (congrArg some kept)
    rw [same, divert']
    dsimp only
    rw [← purged]
    rfl
  · refine ⟨_, waits, ?_⟩
    dsimp only
    rw [kept, ← purged]
    rfl

end Sys2Proof.Machine

/-! Landings (R14, R49, R54, R67, R68). -/

namespace Sys2Proof.Machine

/-! ## The credit of a landing -/

/-- A set's record with one more sheet landed (R14). -/
def SetRec.landed (snap : Media) (x : SetRec) : SetRec :=
  { x with compiled := x.compiled + 1, thickness := x.thickness + snap.thickness, place := .compiler }

/-- A landing credited to its set and to the compiler (R14, R67, R68). -/
def State.landed (r : Fin 8) (snap : Media) (x : SetRec) (s : State) : State :=
  { s.setRec r (x.landed snap) with
    compiler := { s.compiler with
      inFlight := s.compiler.inFlight - snap.thickness
      state := if s.compiler.state = .empty then .collecting else s.compiler.state
      current := if s.compiler.state = .empty then some r else s.compiler.current
      contents := x.thickness + snap.thickness }
    path := { s.path with firstLen := if x.compiled = 0 then some snap.length else s.path.firstLen } }

theorem State.landing_of {s : State} {r : Fin 8} {x : SetRec} (snap : Media) (used : s.getRec r = some x) :
    s.landing r snap = if x.state = .gathering ∧ x.compiled + 1 = x.bound then (s.landed r snap x).partComplete r
      else s.landed r snap x := by
  have first : (x.compiled + 1 = 1) = (x.compiled = 0) := propext (by omega)
  unfold State.landing State.landed SetRec.landed
  rw [used]
  dsimp only
  simp only [first]
  rfl

/-- A set that is complete and not purged is COMPILING, and its jog starts (R69). -/
theorem State.partComplete_compiles {s : State} {r : Fin 8} {x : SetRec} (used : s.getRec r = some x) (whole : x.divert ≠ some .purged)
    (collects : s.compiler.state ≠ .stapleWait) : s.partComplete r =
      { s.setRec r { x with state := .compiling } with compiler := { s.compiler with jog := some s.now, state := .finishing } } := by
  unfold State.partComplete State.setCompiler
  rw [used]
  refine (if_neg whole).trans (if_neg fun h => collects h.1)

theorem State.partComplete_purged {s : State} {r : Fin 8} {x : SetRec} (used : s.getRec r = some x) (purged : x.divert = some .purged) :
    s.partComplete r = s.purgedEject r := by
  unfold State.partComplete
  rw [used]
  exact if_pos purged

/-- The buffer's test writes the split sheet alone (R53, R70). -/
theorem State.bufferTest_only (s : State) :
    s.bufferTest = { s with compiler := { s.compiler with splitSheet := s.bufferTest.compiler.splitSheet } } := by
  unfold State.bufferTest
  split
  · split <;> rfl
  · rfl

/-- Outside COLLECTING, and with a split sheet standing, the buffer's test finds nothing (R70). -/
theorem State.bufferTest_stays {s : State} (other : s.compiler.state ≠ .collecting ∨ s.compiler.splitSheet ≠ none) : s.bufferTest = s := by
  have not (r : Fin 8) (h : Nat) : ¬ s.overCapacity r h = true := by
    rw [State.overCapacity_iff]
    rintro ⟨⟨state, _, split_⟩, _⟩
    exact other.elim (· state) (· split_)
  unfold State.bufferTest
  split
  · exact if_neg (not _ _)
  · rfl

/-- Another entry is found after one has left the list. -/
theorem PathMonitor.without_entry {p : PathMonitor} {id k : EntryName} (other : k ≠ id) : (p.without id).entry k = p.entry k := by
  unfold PathMonitor.without PathMonitor.entry
  rw [List.find?_filter]
  refine congrArg (fun f => p.list.find? f) (funext fun e => ?_)
  by_cases h : e.id = k <;> simp [h, other]

/-! ## The compiler and the table after a landing -/

/-- The landing of a set's sheet that does not send a purged set away: the credit, and the jog of a whole set (R14, R67 to R69). -/
def State.credited (r : Fin 8) (snap : Media) (x : SetRec) (s : State) : State :=
  let whole := x.state = .gathering ∧ x.compiled + 1 = x.bound
  { s.setRec r { x.landed snap with state := if whole then .compiling else x.state } with
    compiler := { s.compiler with
      inFlight := s.compiler.inFlight - snap.thickness
      contents := x.thickness + snap.thickness
      current := some r
      state := if whole then .finishing else .collecting
      jog := if whole then some s.now else s.compiler.jog }
    path := { s.path with firstLen := if x.compiled = 0 then some snap.length else s.path.firstLen } }

/-- The compiler that takes a sheet is EMPTY, or COLLECTING the sheet's set (R68). -/
def State.readyFor (r : Fin 8) (s : State) : Prop :=
  s.compiler.state = .empty ∨ (s.compiler.state = .collecting ∧ s.compiler.current = some r)

theorem State.landed_compiler {s : State} {r : Fin 8} (snap : Media) (x : SetRec) (takes : s.readyFor r) :
    (s.landed r snap x).compiler = { s.compiler with
      inFlight := s.compiler.inFlight - snap.thickness, contents := x.thickness + snap.thickness
      current := some r, state := .collecting } := by
  unfold State.landed
  obtain empty | ⟨state, current⟩ := takes
  · rw [if_pos empty, if_pos empty]
  · have full : s.compiler.state ≠ .empty := by rw [state]; exact nofun
    dsimp only
    rw [if_neg full, if_neg full, state, current]

theorem State.landing_credited {s : State} {r : Fin 8} {x : SetRec} {snap : Media} (used : s.getRec r = some x) (takes : s.readyFor r)
    (stays : ¬ ((x.state = .gathering ∧ x.compiled + 1 = x.bound) ∧ x.divert = some .purged)) :
    s.landing r snap = s.credited r snap x := by
  have compiler := State.landed_compiler snap x takes
  have there : (s.landed r snap x).getRec r = some (x.landed snap) := State.setRec_getRec r _ s
  rw [State.landing_of snap used]
  unfold State.credited
  dsimp only
  by_cases whole : x.state = .gathering ∧ x.compiled + 1 = x.bound
  · have done := State.partComplete_compiles there (fun h => stays ⟨whole, h⟩) (by rw [compiler]; exact nofun)
    rw [if_pos whole, if_pos whole, if_pos whole, if_pos whole, done, compiler]
    have sets : ((s.landed r snap x).setRec r { x.landed snap with state := .compiling }).sets =
        (s.setRec r { x.landed snap with state := .compiling }).sets := by
      show (⟨_, s.sets.order⟩ : SetTable) = _
      simp [State.setRec, State.landed]
    rw [State.eq_iff]
    exact ⟨rfl, rfl, rfl, rfl, rfl, rfl, rfl, rfl, rfl, rfl, sets, rfl, rfl, rfl, rfl, rfl, rfl, rfl, rfl, rfl, rfl, rfl⟩
  · rw [if_neg whole, if_neg whole, if_neg whole, if_neg whole, ← compiler]
    rfl

/-- A purged set whole with its last landing leaves for bin 0 (R83). -/
theorem State.landing_purged {s : State} {r : Fin 8} {x : SetRec} {snap : Media} (used : s.getRec r = some x)
    (whole : x.state = .gathering ∧ x.compiled + 1 = x.bound) (purged : x.divert = some .purged) :
    s.landing r snap = (s.landed r snap x).purgedEject r := by
  have there : (s.landed r snap x).getRec r = some (x.landed snap) := State.setRec_getRec r _ s
  rw [State.landing_of snap used, if_pos whole]
  exact State.partComplete_purged there purged

theorem State.arrivalEffect_bound {s : State} {e : PathEntry} {r : Fin 8} {snap : Media} (bound : e.boundTo = some (r, snap)) :
    s.arrivalEffect e = (s.landing r snap).bufferTest := by
  unfold PathEntry.boundTo at bound
  unfold State.arrivalEffect
  split at bound
  · rename_i body
    cases bound
    rfl
  · cases bound

/-- Settles O38: the credit of a landing, by whether its set is whole and purged, and the buffer's test after it. -/
theorem landingsAreCreditedToTheirSet : Obligations.LandingsAreCreditedToTheirSet := by
  unfold Obligations.LandingsAreCreditedToTheirSet
  intro s e r snap x live working oldest entry bound used takes
  dsimp only
  have edge := exec_scLeadingEdge live working
  let v : State := { s with pins := { s.pins with sc := true } }
  let w : State := { v with path := s.path.without e.id }
  cases clear : e.s1Clear with
  | false =>
    rw [State.sheetArrives_covered (s := v) oldest entry clear] at edge
    exact ⟨_, edge, rfl, fun _ => rfl, nofun, nofun, nofun⟩
  | true =>
    have bound' : e.arrives.boundTo = some (r, snap) := bound
    have effect : State.sheetArrives .toSC .sc v = (State.landing r snap w).bufferTest :=
      (State.sheetArrives_clear (s := v) oldest entry clear).trans (State.arrivalEffect_bound bound')
    rw [effect] at edge
    by_cases leaves : (x.state = .gathering ∧ x.compiled + 1 = x.bound) ∧ x.divert = some .purged
    · obtain ⟨whole, purged⟩ := leaves
      have there : (w.landed r snap x).getRec r = some (x.landed snap) := State.setRec_getRec r _ w
      have compiler := State.purgedEject_compiler there
      obtain ⟨y, used_y, y_eq⟩ := State.purgedEject_getRec there purged
      have path : ((w.landed r snap x).purgedEject r).path = (w.landed r snap x).path := by simp
      have pins : ((w.landed r snap x).purgedEject r).pins = (w.landed r snap x).pins := by simp
      rw [State.landing_purged (s := w) used whole purged, State.bufferTest_stays (.inl (by rw [compiler]; exact nofun))] at edge
      refine ⟨_, edge, pins, nofun, fun _ => path, fun _ _ _ => ⟨y, used_y, compiler, ?_⟩, fun _ other => absurd ⟨whole, purged⟩ other⟩
      rw [y_eq]
      have result : (x.landed snap).purgedResult = if x.pattern = .none then .notRequested else .skipped := by
        have state : (x.landed snap).state ≠ .stapling := by
          rw [show (x.landed snap).state = .gathering from whole.1]
          exact nofun
        exact if_neg state
      rw [result]
      rfl
    · rw [State.landing_credited (s := w) used takes leaves] at edge
      obtain ⟨u, u_eq⟩ : ∃ u, u = w.credited r snap x := ⟨_, rfl⟩
      have test := u.bufferTest_only
      rw [← u_eq] at edge
      refine ⟨_, edge, ?_, nofun, fun _ => ?_, fun _ whole purged => absurd ⟨whole, purged⟩ leaves, fun _ _ => ⟨?_, fun k other => ?_, ?_,
        fun empty => ?_, fun id rest h q m buffer other found named => ?_, ?_⟩⟩
      · rw [test, u_eq]
        rfl
      · rw [test, u_eq]
        rfl
      · rw [test, u_eq]
        exact State.setRec_getRec r _ w
      · rw [test, u_eq]
        exact State.setRec_getRec_ne r k other _ w
      · show u.bufferTest.compiler = _
        rw [test, u_eq]
        rfl
      · have : u.path.buffer = [] := by rw [u_eq]; exact empty
        show u.bufferTest.compiler.splitSheet = _
        rw [State.bufferTest_empty this, u_eq]
        rfl
      · have head : u.path.bufferHead = some (h, q, m) := by
          have entry' : (s.path.without e.id).entry id = some h := (PathMonitor.without_entry other).trans found
          rw [u_eq]
          exact PathMonitor.bufferHead_of (p := (w.credited r snap x).path) buffer entry' named
        have fails := State.overCapacity_iff q m.thickness u
        have only := State.bufferTest_of head
        have current : u.compiler.current = some r := by rw [u_eq]; rfl
        have splitSheet : u.compiler.splitSheet = s.compiler.splitSheet := by rw [u_eq]; rfl
        have state : u.compiler.state = .collecting ↔ ¬ (x.state = .gathering ∧ x.compiled + 1 = x.bound) := by
          rw [u_eq]
          show (if x.state = .gathering ∧ x.compiled + 1 = x.bound then CompilerState.finishing else .collecting) = _ ↔ _
          by_cases whole : x.state = .gathering ∧ x.compiled + 1 = x.bound
          · rw [if_pos whole]
            exact ⟨nofun, fun h => absurd whole h⟩
          · rw [if_neg whole]
            exact ⟨fun _ => whole, fun _ => rfl⟩
        have meets : u.overCapacity q m.thickness = true ↔ ¬ (x.state = .gathering ∧ x.compiled + 1 = x.bound) ∧ q = r ∧
            s.compiler.splitSheet = none ∧ 1000 < u.compiler.contents + u.compiler.inFlight + m.thickness := by
          rw [fails, State.collects, state, current, splitSheet, Option.some.injEq, eq_comm (a := r), and_assoc, and_assoc]
        show let tooMuch := _ ∧ _ ∧ _ ∧ 1000 < u.bufferTest.compiler.contents + u.bufferTest.compiler.inFlight + m.thickness
          (tooMuch → u.bufferTest.compiler.splitSheet = some id) ∧ (¬ tooMuch → u.bufferTest.compiler.splitSheet = s.compiler.splitSheet)
        have named_ : h.id = id := by simpa using List.find?_some found
        rw [only]
        dsimp only
        refine ⟨fun too => ?_, fun fits => ?_⟩
        · rw [if_pos (meets.mpr too), named_]
        · rw [if_neg fun c => fits (meets.mp c), splitSheet]
      · rw [test, u_eq]
        rfl

end Sys2Proof.Machine

/-! The length check and the S1 trailing edge (R46, R49, R51). -/

namespace Sys2Proof.Machine

/-- One change of an entry after another. -/
theorem PathMonitor.modEntry_modEntry (p : PathMonitor) (id : EntryName) (f g : PathEntry → PathEntry) (same : ∀ e, (f e).id = e.id) :
    (p.modEntry id f).modEntry id g = p.modEntry id fun e => g (f e) := by
  unfold PathMonitor.modEntry
  dsimp only
  rw [List.map_map]
  refine congrArg (fun l => { p with list := l }) (List.map_congr_left fun e _ => ?_)
  by_cases named : e.id = id <;> simp [named, same]

/-- An entry after S1's trailing edge: clear of S1, and flagged where its length differs (R46, R51). -/
def PathEntry.checked (differs : Bool) (e : PathEntry) : PathEntry := { e with s1Clear := true, mismatch := e.mismatch || differs }

/-- The Set Table after the length check of a sheet (R46). -/
def State.lengthBreaks (e : PathEntry) (differs : Bool) (s : State) : State :=
  match e.boundTo with
  | some (r, _) => if differs then s.modRec r (SetRec.markBroken .length) else s
  | none => s

theorem State.modRec_order (r : Fin 8) (f : SetRec → SetRec) (s : State) :
    s.modRec r f = { s with sets := { s.sets with recs := (s.modRec r f).sets.recs } } := by
  unfold State.modRec
  split <;> rfl

theorem State.lengthBreaks_only (e : PathEntry) (differs : Bool) (s : State) :
    s.lengthBreaks e differs = { s with sets := { s.sets with recs := (s.lengthBreaks e differs).sets.recs } } := by
  unfold State.lengthBreaks
  split
  · split
    · exact s.modRec_order _ _
    · rfl
  · rfl

/-- A record's break is one of its set alone (R13, R46). -/
theorem State.lengthBreaks_getRec {s : State} {e : PathEntry} {r : Fin 8} {snap : Media} {x : SetRec} (differs : Bool)
    (bound : e.boundTo = some (r, snap)) (used : s.getRec r = some x) : (s.lengthBreaks e differs).getRec r =
      some { x with broken := if differs then some (x.broken.getD .length) else x.broken } := by
  unfold State.lengthBreaks
  rw [bound]
  cases differs
  · exact used
  · exact State.modRec_getRec r _ x s used

theorem State.lengthBreaks_getRec_ne {s : State} {e : PathEntry} {k : Fin 8} {differs : Bool}
    (other : e.boundTo.map Prod.fst ≠ some k ∨ differs = false) : (s.lengthBreaks e differs).getRec k = s.getRec k := by
  unfold State.lengthBreaks
  split
  · rename_i r snap bound
    obtain other | equal := other
    · rw [bound] at other
      have ne : k ≠ r := fun h => other (by rw [h]; rfl)
      split
      · unfold State.modRec
        split
        · exact State.setRec_getRec_ne r k ne _ s
        · rfl
      · rfl
    · rw [equal]
      rfl
  · rfl

/-- Two lengths differ by more than the tolerance (R46). -/
theorem PathMonitor.lengthDiffers_iff (p : PathMonitor) (a b : Nat) :
    p.lengthDiffers a b = true ↔ p.timing[3] + b < a ∨ p.timing[3] + a < b := by
  show decide (p.timing[3] < (a - b) + (b - a)) = true ↔ _
  rw [decide_eq_true_iff]
  omega

/-- The part as the sheet at S1 clears it: checked, and S1 empty (R46, R51). -/
def State.s1Checked (a : AtS1) (e : PathEntry) (differs : Bool) (s : State) : State :=
  State.lengthBreaks e differs { s with path := { s.path.modEntry a.id (PathEntry.checked differs) with s1 := none } }

/-- The path list has no part in the break of a set. -/
theorem State.lengthBreaks_path (e : PathEntry) (differs : Bool) (p : PathMonitor) (s : State) :
    State.lengthBreaks e differs { s with path := p } = { s.lengthBreaks e differs with path := p } := by
  have breaks (r : Fin 8) : State.modRec r (SetRec.markBroken .length) { s with path := p } =
      { s.modRec r (SetRec.markBroken .length) with path := p } := by
    unfold State.modRec
    rw [show State.getRec r { s with path := p } = s.getRec r from rfl]
    cases s.getRec r <;> rfl
  unfold State.lengthBreaks
  cases e.boundTo with
  | none => rfl
  | some y =>
    cases differs
    · rfl
    · exact breaks y.1

theorem State.lengthCheck_eq (e : PathEntry) (a : AtS1) (s : State) :
    s.lengthCheck e a =
      let differs := s.path.lengthDiffers (s.path.measured (s.now - a.edge)) a.len
      { s.lengthBreaks e differs with
        path := if differs then s.path.modEntry a.id fun e => { e with mismatch := true } else s.path } := by
  unfold State.lengthCheck
  dsimp only
  rw [← State.lengthBreaks_path]
  unfold State.lengthBreaks
  cases s.path.lengthDiffers (s.path.measured (s.now - a.edge)) a.len <;> cases e.boundTo <;> rfl

theorem State.s1Clears_eq {s : State} {a : AtS1} {e : PathEntry} (entry : s.path.entry a.id = some e) :
    s.s1Clears a = (s.s1Checked a e (s.path.lengthDiffers (s.path.measured (s.now - a.edge)) a.len)).leaveIfDone a.id := by
  let u : State := { s with path := { s.path with s1 := none } }
  let clear : PathEntry → PathEntry := fun e => { e with s1Clear := true }
  let flag : PathEntry → PathEntry := fun e => { e with mismatch := true }
  have clears : s.s1Clears a = State.leaveIfDone a.id { State.lengthCheck e a u with
      path := (State.lengthCheck e a u).path.modEntry a.id clear } := by
    have found : u.path.entry a.id = some e := entry
    show (match u.path.entry a.id with
      | none => u
      | some e => State.leaveIfDone a.id { State.lengthCheck e a u with
          path := (State.lengthCheck e a u).path.modEntry a.id clear }) = _
    rw [found]
  rw [clears, State.lengthCheck_eq]
  obtain ⟨differs, d_eq⟩ : ∃ d, d = s.path.lengthDiffers (s.path.measured (s.now - a.edge)) a.len := ⟨_, rfl⟩
  have d_eq' : u.path.lengthDiffers (u.path.measured (u.now - a.edge)) a.len = differs := d_eq.symm
  have path : (if differs = true then u.path.modEntry a.id flag else u.path).modEntry a.id clear =
      { s.path.modEntry a.id (PathEntry.checked differs) with s1 := none } := by
    cases differs with
    | false =>
      have same : PathEntry.checked false = clear := by
        funext e
        simp [PathEntry.checked, clear]
      rw [same]
      rfl
    | true =>
      have same : PathEntry.checked true = fun e => clear (flag e) := by
        funext e
        simp [PathEntry.checked, clear, flag]
      rw [if_pos rfl, u.path.modEntry_modEntry a.id flag clear fun _ => rfl, same]
      rfl
  dsimp only
  rw [← d_eq, d_eq', path]
  unfold State.s1Checked
  rw [State.lengthBreaks_path e differs { s.path.modEntry a.id (PathEntry.checked differs) with s1 := none } s]
  exact congrArg (fun t => State.leaveIfDone a.id
    { t with path := { s.path.modEntry a.id (PathEntry.checked differs) with s1 := none } })
    (State.lengthBreaks_path e differs { s.path with s1 := none } s)

/-- A whole set's record keeps its sheets, its thickness and its break (R14, R69, R83). -/
theorem State.partComplete_getRec {s : State} {r : Fin 8} {x : SetRec} (used : s.getRec r = some x) :
    ∃ y, (s.partComplete r).getRec r = some y ∧ y.compiled = x.compiled ∧ y.thickness = x.thickness ∧ y.bound = x.bound ∧
      y.broken = x.broken := by
  by_cases purged : x.divert = some .purged
  · obtain ⟨y, used_y, same⟩ := State.purgedEject_getRec used purged
    rw [State.partComplete_purged used purged]
    refine ⟨y, used_y, ?_⟩
    rw [same]
    exact ⟨rfl, rfl, rfl, rfl⟩
  · refine ⟨{ x with state := .compiling }, ?_, rfl, rfl, rfl, rfl⟩
    unfold State.partComplete
    rw [used]
    refine (congrArg (State.getRec r) (if_neg purged)).trans ((State.setCompiler_getRec r _ _).trans ?_)
    exact State.setRec_getRec r _ s

theorem State.landing_getRec {s : State} {r : Fin 8} {x : SetRec} (snap : Media) (used : s.getRec r = some x) :
    ∃ y, (s.landing r snap).getRec r = some y ∧ y.compiled = x.compiled + 1 ∧ y.thickness = x.thickness + snap.thickness ∧
      y.bound = x.bound ∧ y.broken = x.broken := by
  have there : (s.landed r snap x).getRec r = some (x.landed snap) := State.setRec_getRec r _ s
  rw [State.landing_of snap used]
  split
  · exact State.partComplete_getRec there
  · exact ⟨_, there, rfl, rfl, rfl, rfl⟩

/-- A landing leaves the list and the sheet at S1 alone. -/
theorem State.landing_path (r : Fin 8) (snap : Media) (s : State) :
    (s.landing r snap).path = { s.path with firstLen := (s.landing r snap).path.firstLen } := by
  cases used : s.getRec r with
  | none =>
    unfold State.landing
    rw [used]
  | some x =>
    rw [State.landing_of snap used]
    split
    · simp [State.landed]
    · rfl

theorem State.bufferTest_getRec (k : Fin 8) (s : State) : s.bufferTest.getRec k = s.getRec k := by
  rw [s.bufferTest_only]
  rfl

/-- A disposition is placed in the reports alone (R174). -/
theorem State.disposed_of_report {d : OutRec} {lost : Notice} {s s' t : State} (report : s'.report = s.report) (h : s.disposed d lost t) :
    s'.disposed d lost t := by
  unfold State.disposed at h ⊢
  unfold State.handed State.latched at h ⊢
  rw [report]
  exact h

theorem exec_s1TrailingEdge {s : State} (live : s.live) : exec .s1TrailingEdge s = .next (match s.path.s1 with
    | none => { s with pins := { s.pins with s1 := false } }
    | some a => State.s1Clears a { s with pins := { s.pins with s1 := false } }).syncIdle := by
  show execS1TrailingEdge s = _
  rw [execS1TrailingEdge]
  exact State.does_live live _

/-- What an arrival at once with S1's trailing edge leaves of the path (R49, R51). -/
theorem State.arrivalEffect_path (e : PathEntry) (s : State) :
    (s.arrivalEffect e).path = { s.path with firstLen := (s.arrivalEffect e).path.firstLen } ∧ (s.arrivalEffect e).pins = s.pins := by
  unfold State.arrivalEffect
  split
  · rename_i r m snap body
    have pins : (s.landing r snap).bufferTest.pins = s.pins := by simp
    have path : (s.landing r snap).bufferTest.path = (s.landing r snap).path := by
      rw [State.bufferTest_only]
    rw [path]
    exact ⟨State.landing_path r snap s, pins⟩
  · exact ⟨rfl, rfl⟩

/-- Settles O36: the check, and the arrival that was held back where the sheet had arrived. -/
theorem s1TrailingEdgeChecksTheLength : Obligations.S1TrailingEdgeChecksTheLength := by
  unfold Obligations.S1TrailingEdgeChecksTheLength
  refine ⟨fun s live none_ => ?_, fun s a e live at_ entry => ?_⟩
  · have edge := exec_s1TrailingEdge live
    rw [none_] at edge
    exact ⟨_, edge, rfl⟩
  · intro measured differs
    have edge := exec_s1TrailingEdge live
    rw [at_] at edge
    let v : State := { s with pins := { s.pins with s1 := false } }
    obtain ⟨d, d_eq⟩ : ∃ d, d = v.path.lengthDiffers (v.path.measured (v.now - a.edge)) a.len := ⟨_, rfl⟩
    have d_iff : d = true ↔ differs := by
      rw [d_eq]
      exact PathMonitor.lengthDiffers_iff _ _ _
    have decided : decide differs = d := by
      cases d with
      | true => exact decide_eq_true (d_iff.mp rfl)
      | false => exact decide_eq_false fun h => nomatch d_iff.mpr h
    have clears := State.s1Clears_eq (s := v) (a := a) entry
    rw [← d_eq] at clears
    replace edge : exec .s1TrailingEdge s = .next ((v.s1Checked a e d).leaveIfDone a.id).syncIdle :=
      edge.trans (congrArg (fun t : State => Host.Outcome.next t.syncIdle) clears)
    obtain ⟨u, u_eq⟩ : ∃ u, u = v.s1Checked a e d := ⟨_, rfl⟩
    have only := State.lengthBreaks_only e d { v with path := { v.path.modEntry a.id (PathEntry.checked d) with s1 := none } }
    have u_only : u = { v with
        path := { v.path.modEntry a.id (PathEntry.checked d) with s1 := none }
        sets := { s.sets with recs := u.sets.recs } } := by
      rw [u_eq]
      exact only
    have path : u.path = { v.path.modEntry a.id (PathEntry.checked d) with s1 := none } := by rw [u_only]
    have found : u.path.entry a.id = some (e.checked d) := by
      rw [path]
      have := s.path.modEntry_entry a.id (PathEntry.checked d) (fun _ => rfl) a.id
      rw [if_pos rfl, entry] at this
      exact this
    have others (k : Fin 8) (h : e.boundTo.map Prod.fst ≠ some k ∨ ¬ differs) : u.getRec k = s.getRec k := by
      rw [u_eq]
      exact State.lengthBreaks_getRec_ne (h.imp_right fun h => Bool.eq_false_iff.mpr fun t => h (d_iff.mp t))
    have own (r : Fin 8) (snap : Media) (x : SetRec) (bound : e.boundTo = some (r, snap)) (used : s.getRec r = some x) :
        u.getRec r = some { x with broken := if differs then some (x.broken.getD .length) else x.broken } := by
      have := State.lengthBreaks_getRec (s := { v with path := { v.path.modEntry a.id (PathEntry.checked d) with s1 := none } }) d bound used
      rw [u_eq]
      refine this.trans ?_
      by_cases h : differs
      · rw [if_pos h, d_iff.mpr h]
        rfl
      · rw [if_neg h, if_neg fun t => h (d_iff.mp t)]
    have unbroken (unbound : e.boundTo = none) : u.sets = s.sets := by
      rw [u_eq]
      unfold State.s1Checked State.lengthBreaks
      rw [unbound]
    rw [← u_eq] at edge
    clear u_eq clears only
    by_cases arrived : e.stage = .arrived
    · rw [State.leaveIfDone_done found arrived rfl] at edge
      let w : State := { u with path := u.path.without a.id }
      obtain ⟨kept, pins⟩ := w.arrivalEffect_path (e.checked d)
      refine ⟨_, edge, ?_, ?_, fun waits => absurd arrived waits, fun _ => ?_, fun reason _ body => ?_, fun r snap x _ bound used => ?_⟩
      · show (w.arrivalEffect (e.checked d)).path.s1 = none
        rw [kept]
        show u.path.s1 = none
        rw [path]
      · refine pins.trans ?_
        show u.pins = _
        rw [u_only]
      · have list : (w.arrivalEffect (e.checked d)).path.list =
            (s.path.list.map fun x => if x.id = a.id then x.checked d else x).filter fun x => x.id ≠ a.id := by
          rw [kept]
          show u.path.list.filter (fun x => x.id ≠ a.id) = _
          rw [path]
          rfl
        show (w.arrivalEffect (e.checked d)).path.list.map PathEntry.id = _
        rw [list]
        have left : (s.path.modEntry a.id (PathEntry.checked d)).list.filter (fun x => x.id ≠ a.id) = _ :=
          s.path.modEntry_filter a.id (PathEntry.checked d) fun _ => rfl
        have left' : List.filter (fun x => decide (x.id ≠ a.id)) (s.path.list.map fun x => if x.id = a.id then x.checked d else x) =
            s.path.list.filter fun x => x.id ≠ a.id := left
        rw [left', List.filter_map]
        rfl
      · have effect : w.arrivalEffect (e.checked d) = w.produceLoose true e.seq reason e.slotOrd := by
          unfold State.arrivalEffect
          rw [show (e.checked d).body = .orphan reason from body]
          rfl
        have unbound : e.boundTo = none := by
          unfold PathEntry.boundTo
          rw [body]
        rw [effect]
        refine ⟨unbroken unbound, ?_⟩
        have report : w.report = s.report := by
          show u.report = _
          rw [u_only]
        exact State.disposed_of_report report.symm (Report.dispose_disposed _ _ w)
      · have effect := State.arrivalEffect_bound (s := w) (e := e.checked d) bound
        obtain ⟨y, used_y, facts⟩ := State.landing_getRec snap (s := w) (own r snap x bound used)
        refine ⟨y, ?_, ?_⟩
        · show (w.arrivalEffect (e.checked d)).getRec r = _
          rw [effect, State.bufferTest_getRec]
          exact used_y
        · obtain ⟨compiled, thickness, bound_, broken⟩ := facts
          exact ⟨compiled, thickness, bound_, broken⟩
    · rw [State.leaveIfDone_stays found fun h => arrived h.1] at edge
      refine ⟨_, edge, ?_, ?_, fun _ => ⟨fun k h => others k h, fun r snap x bound breaks used => ?_, ?_⟩, fun h => absurd h arrived,
        fun _ h => absurd h arrived, fun _ _ _ h => absurd h arrived⟩
      · show u.path.s1 = none
        rw [path]
      · show u.pins = _
        rw [u_only]
      · exact (own r snap x bound used).trans (by rw [if_pos breaks])
      · rw [decided]
        rw [u_only]
        rfl

end Sys2Proof.Machine

/-! A set at SE (R56, R82, R128, R129). -/

namespace Sys2Proof.Machine

/-! ## Reports that only the Feed Controller has touched -/

/-- A cause handed over is placed in the notices and the queue alone (R157 to R160). -/
theorem State.handed_of {n : Notice} {origin : Option (Fin 4)} {s s' t t' : State} (h : s.handed n origin t)
    (notice : s'.report.notice = s.report.notice) (queue : s'.report.link.queue = s.report.link.queue)
    (notice' : t'.report.notice = t.report.notice) (queue' : t'.report.link.queue = t.report.link.queue) : s'.handed n origin t' := by
  unfold State.handed State.latched State.sendsFrom at h ⊢
  rw [notice, queue, notice', queue']
  exact h

theorem State.recombine_link (s : State) : s.recombine.report.link = s.report.link := by
  show (s.report.recombine s.govCond s.now).link = _
  rw [Report.recombine_only]

/-! ## The compiler emptied -/

theorem State.setCompiler_report (c : CompilerState) (s : State) : (s.setCompiler c).report =
    if s.compiler.state = .stapleWait ∧ c ≠ .stapleWait then s.report.drop .staples else s.report := by
  unfold State.setCompiler
  dsimp only
  split <;> rfl

/-- A change of the compiler's state, field by field (R65, R73). -/
theorem State.setCompiler_only (c : CompilerState) (s : State) : s.setCompiler c =
    { s with compiler := { s.compiler with state := c }, report := { s.report with feed := (s.setCompiler c).report.feed } } := by
  unfold State.setCompiler
  dsimp only
  split <;> rfl

/-- The compiler is EMPTY as its set reaches SE (R82). -/
theorem State.vacate_only (s : State) : s.vacate = { s with
    compiler := { s.compiler with state := .empty, current := none, contents := 0 }
    report := { s.report with feed := s.vacate.report.feed } } :=
  State.setCompiler_only .empty { s with compiler := { s.compiler with current := none, contents := 0 } }

theorem State.vacate_report {s : State} (state : s.compiler.state ≠ .stapleWait) : s.vacate.report = s.report :=
  (State.setCompiler_report _ _).trans (if_neg fun h => state h.1)

theorem State.vacate_stands (x : Reason) (other : x ≠ .staples) (s : State) : s.vacate.stands x ↔ s.stands x := by
  unfold State.vacate
  rw [State.setCompiler_stands]
  constructor
  · exact fun h => h.1
  · exact fun h => ⟨h, fun staples => other staples.1⟩

/-! ## The hand-over -/

/-- The watch at SE as its set's edge is taken (R56, R82). -/
def State.edgeTaken (w : SEWatch) (s : State) : State :=
  { s with
    path := { s.path with
      firstLen := none
      se := some { w with edgeTaken := true, window := none, stall := some ⟨s.now, s.path.stallLimit w.len⟩ } } }

theorem State.setAtSE_eq {w : SEWatch} {s : State} {x : SetRec} (used : s.getRec w.set = some x) :
    s.setAtSE w = if ⟨w.set, none⟩ ∈ s.delivery.list then (s.edgeTaken w).vacate.setTravels w.set x
      else (s.edgeTaken w).vacate.setShelved w.set x := by
  have only := (s.edgeTaken w).vacate_only
  have used' : (s.edgeTaken w).vacate.getRec w.set = some x := by
    rw [only]
    exact used
  have list : (s.edgeTaken w).vacate.delivery.list = s.delivery.list := by
    rw [only]
    rfl
  have claims : (s.delivery.list.any fun e => e.set = w.set && e.travel.isNone) = true ↔ ⟨w.set, none⟩ ∈ s.delivery.list := by
    simp only [List.any_eq_true, Bool.and_eq_true, decide_eq_true_iff, Option.isNone_iff_eq_none]
    constructor
    · rintro ⟨⟨set, travel⟩, mem, rfl, rfl⟩
      exact mem
    · exact fun mem => ⟨_, mem, rfl, rfl⟩
  show (match (s.edgeTaken w).vacate.getRec w.set with
    | none => (s.edgeTaken w).vacate
    | some x => if (s.edgeTaken w).vacate.delivery.list.any fun e => e.set = w.set && e.travel.isNone then
        (s.edgeTaken w).vacate.setTravels w.set x else (s.edgeTaken w).vacate.setShelved w.set x) = _
  rw [used', list]
  by_cases mem : ⟨w.set, none⟩ ∈ s.delivery.list
  · rw [if_pos mem]
    exact if_pos (claims.mpr mem)
  · rw [if_neg mem]
    exact if_neg fun h => mem (claims.mp h)

/-- The delivery list with a departing set sent on its way (R128). -/
theorem Delivery.travels_list (r : Fin 8) (v : Travel) (d : Delivery) :
    (d.travels r v).list = d.list.map fun y => if y = ⟨r, none⟩ then ⟨r, some v⟩ else y := by
  unfold Delivery.travels
  dsimp only
  refine List.map_congr_left fun y _ => ?_
  obtain ⟨set, travel⟩ := y
  cases travel with
  | none =>
    by_cases h : set = r
    · simp [h]
    · simp [h]
  | some _ => simp

/-- A set on its way to a bin (R125, R128). -/
theorem State.setTravels_only {r : Fin 8} {x : SetRec} {b : Fin 41} (chosen : x.chosen = some b) (s : State) :
    s.setTravels r x = { s.setRec r { x with state := .onBelt, place := .list } with
      delivery := { s.delivery with
        g0 := if b = 0 then .bin0 else .belt
        g0Busy := some s.now
        list := s.delivery.list.map fun y =>
          if y = ⟨r, none⟩ then ⟨r, some ⟨targetOf b, ⟨s.now, s.path.deliveryLimit (targetOf b)⟩⟩⟩ else y } } := by
  have gate : (targetOf b = .s0) = (b = 0) := propext (targetOf_eq_s0 b)
  unfold State.setTravels Delivery.setG0
  dsimp only
  rw [chosen, Option.getD_some, Delivery.travels_list]
  simp only [gate]
  rfl

/-- A set that lands on the shelf, before the governor is told (R128, R129). -/
def State.onShelf (r : Fin 8) (x : SetRec) (s : State) : State :=
  { s.setRec r { x with state := if x.chosen = none then .held else .readyToEject, place := .shelf } with
    delivery := { s.delivery with
      shelf := .occupied
      holdTimer := if x.chosen = none then some s.now else none
      compilerHold := if s.delivery.compilerHold = some r then none else s.delivery.compilerHold } }

theorem State.setShelved_eq (r : Fin 8) (x : SetRec) (s : State) :
    s.setShelved r x = (if x.chosen = none then
        (s.onShelf r x).notify ⟨.held, some x.slot.val, some x.jobNumber, some x.setOrdinal, some x.part⟩ none
      else s.onShelf r x).recombine := by
  unfold State.setShelved State.onShelf
  cases x.chosen <;> rfl

theorem exec_seLeadingEdge {s : State} (live : s.live) (working : s.working = true) : exec .seLeadingEdge s =
    .next (match s.path.se with
      | some w => if w.edgeTaken then State.jam .unexpectedSet .se { s with pins := { s.pins with se := true } }
        else State.setAtSE w { s with pins := { s.pins with se := true } }
      | none => State.jam .unexpectedSet .se { s with pins := { s.pins with se := true } }).syncIdle := by
  show execSeLeadingEdge s = _
  rw [execSeLeadingEdge, State.does_live live]
  exact congrArg (fun t : State => Host.Outcome.next t.syncIdle) (if_pos working)

theorem exec_seTrailingEdge {s : State} (live : s.live) (working : s.working = true) : exec .seTrailingEdge s =
    .next (State.bufferTest { s with
      pins := { s.pins with se := false }
      path := { s.path with se := none }
      compiler := { s.compiler with ejectDrive := false } }).syncIdle := by
  show execSeTrailingEdge s = _
  rw [execSeTrailingEdge, State.does_live live]
  exact congrArg (fun t : State => Host.Outcome.next t.syncIdle) (if_pos working)

/-- Settles O40: the two ways on from SE, the trailing edge, and the sets nothing announced. -/
theorem setsPassSE : Obligations.SetsPassSE := by
  unfold Obligations.SetsPassSE
  refine ⟨fun s w x live working watch awaited used => ?_, fun s live working none_ => ?_, fun s live working => ?_⟩
  · let v : State := { s with pins := { s.pins with se := true } }
    have edge : exec .seLeadingEdge s = .next (v.setAtSE w).syncIdle := by
      have := exec_seLeadingEdge live working
      rw [watch] at this
      exact this.trans (congrArg (fun t : State => Host.Outcome.next t.syncIdle) (if_neg (by simp [awaited])))
    have ends := State.setAtSE_eq (s := v) used
    obtain ⟨u, u_eq⟩ : ∃ u, u = (v.edgeTaken w).vacate := ⟨_, rfl⟩
    have only := (v.edgeTaken w).vacate_only
    have quiet : s.compiler.state ≠ .stapleWait → u.report = s.report := by
      rw [u_eq]
      exact fun h => State.vacate_report (s := v.edgeTaken w) h
    have governor : u.stands .governor ↔ s.stands .governor := by
      rw [u_eq]
      exact State.vacate_stands .governor nofun (v.edgeTaken w)
    rw [← u_eq] at ends only
    obtain ⟨feed, only⟩ : ∃ feed, u = { v.edgeTaken w with
        compiler := { s.compiler with state := .empty, current := none, contents := 0 }
        report := { s.report with feed := feed } } := ⟨_, only⟩
    clear u_eq
    rw [ends] at edge
    by_cases claimed : ⟨w.set, none⟩ ∈ s.delivery.list
    · rw [if_pos (show ⟨w.set, none⟩ ∈ v.delivery.list from claimed)] at edge
      subst only
      refine ⟨_, edge, fun k other => State.setRec_getRec_ne w.set k other _ v, rfl, rfl, rfl, rfl, fun b chosen _ => ?_,
        fun not => absurd claimed not⟩
      rw [State.setTravels_only chosen]
      exact ⟨State.setRec_getRec w.set _ v, quiet, rfl⟩
    · rw [if_neg (show ⟨w.set, none⟩ ∉ v.delivery.list from claimed), State.setShelved_eq] at edge
      obtain ⟨z, z_eq⟩ : ∃ z, z = if x.chosen = none then
          (u.onShelf w.set x).notify ⟨.held, some x.slot.val, some x.jobNumber, some x.setOrdinal, some x.part⟩ none
        else u.onShelf w.set x := ⟨_, rfl⟩
      have z_only : z = { u.onShelf w.set x with report := z.report } := by
        rw [z_eq]
        split <;> rfl
      have tells : u.report.Tells [] z.report := by
        rw [z_eq]
        split
        · exact (u.onShelf w.set x).notify_tells _ _
        · exact .refl _
      have handed : x.chosen = none →
          u.handed ⟨.held, some x.slot.val, some x.jobNumber, some x.setOrdinal, some x.part⟩ none z := by
        intro none_
        rw [z_eq, if_pos none_]
        exact State.notify_handed _ _ (u.onShelf w.set x)
      rw [← z_eq] at edge
      obtain ⟨report, z_only⟩ : ∃ report, z = { u.onShelf w.set x with report := report } := ⟨_, z_only⟩
      subst only
      clear z_eq
      subst z_only
      refine ⟨_, edge, fun k other => State.setRec_getRec_ne w.set k other _ v, rfl, rfl, rfl, rfl, fun _ _ mem => absurd mem claimed,
        fun _ => ⟨State.setRec_getRec w.set _ v, rfl, ?_, fun none_ => ?_⟩⟩
      · have governed := State.recombine_governed { State.onShelf w.set x { v.edgeTaken w with
          compiler := { s.compiler with state := .empty, current := none, contents := 0 }
          report := { s.report with feed := feed } } with report := report }
        refine State.governed.of_same (s := s) governed tells.gov ?_
        exact (tells.reasons .governor nofun).trans governor
      · refine State.handed_of (handed none_) rfl rfl ?_ ?_
        · exact State.recombine_notice _
        · exact congrArg Link.queue (State.recombine_link _)
  · have edge := exec_seLeadingEdge live working
    have jams : exec .seLeadingEdge s = .next (State.jam .unexpectedSet .se { s with pins := { s.pins with se := true } }).syncIdle := by
      obtain none_ | ⟨w, watch, taken⟩ := none_
      · rw [none_] at edge
        exact edge
      · rw [watch] at edge
        exact edge.trans (congrArg (fun t : State => Host.Outcome.next t.syncIdle) (if_pos taken))
    exact exec_jams (u := { s with pins := { s.pins with se := true } }) working jams
  · have edge := exec_seTrailingEdge live working
    obtain ⟨u, u_eq⟩ : ∃ u : State, u = { s with
      pins := { s.pins with se := false }
      path := { s.path with se := none }
      compiler := { s.compiler with ejectDrive := false } } := ⟨_, rfl⟩
    rw [← u_eq] at edge
    have only := u.bufferTest_only
    refine ⟨_, edge, ?_, fun other => ?_⟩
    · rw [only, u_eq]
      rfl
    · have same : u.bufferTest = u := by
        rw [← or_assoc] at other
        obtain other | empty := other
        · exact State.bufferTest_stays (by rw [u_eq]; exact other)
        · exact State.bufferTest_empty (by rw [u_eq]; exact empty)
      show u.bufferTest.compiler.splitSheet = _
      rw [same, u_eq]

end Sys2Proof.Machine

/-! Arrivals confirmed (R17, R20, R107, R135, R136). -/

namespace Sys2Proof.Machine

/-! ## The governor's conditions -/

/-- The governor's combination reads the stapler, the near-full sensor, the bins, the towers and the shelf alone (R152). -/
theorem State.combines_congr {s t : State} (gov : t.report.gov = s.report.gov) (stapler : t.stapler = s.stapler)
    (near : t.rejectNear = s.rejectNear) (bins : t.bins = s.bins) (chain : t.chain = s.chain)
    (shelf : t.delivery.shelf = s.delivery.shelf) : t.combines ↔ s.combines := by
  have states := State.binState_same bins chain
  have full : t.fullCount = s.fullCount := State.fullCount_congr states
  have condition (i : Fin 6) : t.condition i ↔ s.condition i := by
    match i with
    | 0 => show t.stapler.count < t.stapler.low ↔ _; rw [stapler]; exact Iff.rfl
    | 1 => show t.rejectNear.state = _ ↔ _; rw [near]; exact Iff.rfl
    | 2 => show (t.binState 0 = _ ∨ t.binState 0 = _) ↔ _; rw [states]; exact Iff.rfl
    | 3 => show t.delivery.shelf = _ ↔ _; rw [shelf]; exact Iff.rfl
    | 4 => show t.report.gov.threshold ≤ t.fullCount ↔ _; rw [gov, full]; exact Iff.rfl
    | 5 => show (∃ k : Fin 4, t.chain.towers[k].state = _) ↔ _; rw [chain]; exact Iff.rfl
  unfold State.combines
  simp only [condition, gov]

/-- What leaves the governor and its conditions alone leaves it as it followed them (R152, R153). -/
theorem State.governed.then {s u t : State} (h : s.governed u) (gov : t.report.gov = u.report.gov) (now : t.now = u.now)
    (combines : t.combines ↔ u.combines) (reason : t.stands .governor ↔ u.stands .governor) : s.governed t := by
  obtain ⟨comb, follows, changed, kept⟩ := h
  refine ⟨?_, ?_, fun differs => ?_, fun same => ?_⟩
  · rw [gov, combines]
    exact comb
  · rw [gov, now]
    exact follows
  · rw [gov] at differs ⊢
    exact reason.trans (changed differs)
  · rw [gov] at same
    exact reason.trans (kept same)

/-! ## The outbound queue at its marks -/

/-- From 16 records on, a NOTICE does not join the queue (R160, R173). -/
theorem State.binsTold_backlog (was : State) (bs : List (Fin 41)) (s : State) (backlog : 16 ≤ s.report.link.queue.length) :
    (s.binsTold was bs).report.link.queue = s.report.link.queue := by
  induction bs generalizing s with
  | nil => rfl
  | cons b bs ih =>
    have one : (s.binNotice (was.binState b) b).report.link.queue = s.report.link.queue := by
      have notice := fun n o => State.notify_queue_of_backlog n o s backlog
      unfold State.binNotice
      dsimp only
      split
      · rfl
      split
      · exact notice _ _
      split
      · exact notice _ _
      · rfl
    exact (ih _ (by rw [one]; exact backlog)).trans one

theorem State.binsChanged_link (s was : State) (bs : List (Fin 41)) : (s.binsChanged was bs).report.link = (s.binsTold was bs).report.link :=
  Report.recombine_link _ _ _

/-- A cause handed over from 16 records on leaves the queue as it is (R160). -/
theorem State.handed.backlog {n : Notice} {origin : Option (Fin 4)} {s t : State} (h : s.handed n origin t)
    (backlog : 16 ≤ s.report.link.queue.length) : t.report.link.queue = s.report.link.queue := by
  obtain ⟨-, becomes⟩ := h
  split_ifs at becomes with stopped parks
  · exact becomes.2
  · exact becomes.2
  · exact absurd (.inr (.inr backlog)) parks
  · exact absurd (.inr (.inr backlog)) parks

theorem State.completionTest_backlog (i : Fin 16) (s : State) (backlog : 16 ≤ s.report.link.queue.length) :
    (s.completionTest i).report.link.queue = s.report.link.queue := by
  unfold State.completionTest
  split
  · exact State.notify_queue_of_backlog _ _ (s.setJob i _) backlog
  · rfl

/-- The disposition of a set, produced at 48 records, takes the place of the first NOTICE, or is dropped (R174). -/
theorem State.produce_full {r : Fin 8} {x : SetRec} {o : SetOutcome} {d : Option (Fin 41)} {n : Nat} {f : Bool} {s : State}
    (full : 48 ≤ s.report.link.queue.length) :
    (∀ before m after, s.report.link.queue = before ++ .notice m :: after → (∀ r ∈ before, r.isOther) →
      (s.produce r x o d n f).report.link.queue = before ++ after ++ [.setDisp (x.disp o d n f)]) ∧
    ((∀ r ∈ s.report.link.queue, r.isOther) → (s.produce r x o d n f).report.link.queue = s.report.link.queue ∧
      (s.produce r x o d n f).latched .dispositionLost) := by
  let lost : Notice := ⟨.dispositionLost, some 0, some x.slot.val, some x.setOrdinal, some x.part⟩
  have disposed := (Report.dispose_disposed (.setDisp (x.disp o d n f)) lost s).2 full
  obtain ⟨v, v_eq⟩ : ∃ v : State, v = { s with report := s.report.dispose (.setDisp (x.disp o d n f)) lost } := ⟨_, rfl⟩
  rw [← v_eq] at disposed
  obtain ⟨w, w_eq⟩ : ∃ w : State, w =
    State.syncSets { v.bump x.slot (Counters.addOutcome o) with sets := (v.bump x.slot (Counters.addOutcome o)).sets.without r } := ⟨_, rfl⟩
  have produced : s.produce r x o d n f = w.completionTest x.slot := by
    rw [w_eq, v_eq]
    rfl
  have queue : w.report.link.queue = v.report.link.queue := by rw [w_eq]; simp [State.syncSets, State.setReason]
  have flags : w.report.notice.flags = v.report.notice.flags := by rw [w_eq]; simp [State.syncSets, State.setReason]
  rw [produced]
  refine ⟨fun before m after split_ others => ?_, fun others => ?_⟩
  · obtain ⟨placed, -⟩ := disposed.1 before m after split_ others
    have length : 16 ≤ w.report.link.queue.length := by
      have := congrArg List.length split_
      rw [queue, placed]
      simp only [List.length_append, List.length_cons, List.length_nil] at this ⊢
      omega
    rw [State.completionTest_backlog _ _ length, queue, placed]
  · have handed := disposed.2 others
    have kept := handed.backlog (by omega)
    have length : 16 ≤ w.report.link.queue.length := by rw [queue, kept]; omega
    refine ⟨by rw [State.completionTest_backlog _ _ length, queue, kept], ?_⟩
    have latched : v.latched .dispositionLost := (handed.1 _).mpr (.inl rfl)
    refine (State.completionTest_tells x.slot w).flags _ ?_
    rw [flags]
    exact latched

/-! ## The confirmation -/

theorem SetRec.outcome_eq (x : SetRec) :
    x.outcome = if x.divert = some .purged then .purged else if x.divert = none then .delivered else .diverted := by
  unfold SetRec.outcome
  cases x.divert with
  | none => rfl
  | some d => cases d <;> rfl

/-- A bin as a set of height `h` arrives in it (R107). -/
def Bin.filled (h : Nat) (x : Bin) : Bin :=
  { x with fill := min 9999 (x.fill + h), reserved := x.reserved - h, count := count16 x.count }

/-- The part with a set taken off the delivery list, and its bin's jogger driven (R107, R136). -/
def State.arrived (r : Fin 8) (x : SetRec) (b : Fin 41) (s : State) : State :=
  { s with delivery := { s.delivery with list := s.delivery.list.filter fun e => e.set ≠ r, jogger := x.jogs b } }

theorem State.confirm_eq {s : State} {r : Fin 8} {x : SetRec} {b : Fin 41} (used : s.getRec r = some x) (chosen : x.chosen = some b) :
    s.confirm r = State.produce r x x.outcome (some b) x.compiled (s.binState b = .full)
      (((s.arrived r x b).updateBin b (Bin.filled (x.height.getD 0))).cursorReturn b) := by
  let u : State := { s with delivery := { s.delivery with list := s.delivery.list.filter fun e => e.set ≠ r } }
  have used' : u.getRec r = some x := used
  unfold State.confirm
  show (match u.getRec r with
    | none => u
    | some x => _) = _
  rw [used']
  dsimp only
  rw [chosen]
  rfl

/-- What a confirmation does (R17, R20, R107, R108, R136, R174). -/
structure State.Confirms (s : State) (r : Fin 8) (x : SetRec) (b : Fin 41) (t : State) : Prop where
  frame : t = { s with
    report := t.report, jobs := t.jobs, sets := t.sets, routes := t.routes, bins := t.bins
    delivery := { s.delivery with list := s.delivery.list.filter fun y => y.set ≠ r, jogger := x.jogs b } }
  bin : t.bins[b] = s.bins[b].filled (x.height.getD 0)
  bins : ∀ k : Fin 41, k ≠ b → t.bins[k] = s.bins[k]
  joins : s.dispositionJoins (.setDisp (x.disp x.outcome (some b) x.compiled (s.binState b = .full))) t
  governed : s.governed t
  sets : t.sets = s.sets.without r
  slot : s.jobs[x.slot].state ≠ .free → t.jobs[x.slot].counters = s.jobs[x.slot].counters.addOutcome x.outcome
  jobs : ∀ k : Fin 16, k ≠ x.slot → t.jobs[k] = s.jobs[k]

theorem State.confirm_confirms {s : State} {r : Fin 8} {x : SetRec} {b : Fin 41} (used : s.getRec r = some x)
    (chosen : x.chosen = some b) : s.Confirms r x b (s.confirm r) := by
  rw [State.confirm_eq used chosen]
  obtain ⟨d, d_eq⟩ : ∃ d : OutRec, d = .setDisp (x.disp x.outcome (some b) x.compiled (s.binState b = .full)) := ⟨_, rfl⟩
  let v : State := (s.arrived r x b).modBin b (Bin.filled (x.height.getD 0))
  obtain ⟨u, u_eq⟩ : ∃ u, u = v.binsChanged (s.arrived r x b) [b] := ⟨_, rfl⟩
  obtain ⟨only, governed, -, -, -⟩ := v.binsChanged_tells (s.arrived r x b) [b]
  have told := State.binsTold_tells (s.arrived r x b) [b] v
  have link := v.binsChanged_link (s.arrived r x b) [b]
  have backlog := State.binsTold_backlog (s.arrived r x b) [b] v
  rw [← u_eq] at only governed link
  have updated : (s.arrived r x b).updateBin b (Bin.filled (x.height.getD 0)) = u := u_eq.symm
  rw [updated]
  obtain ⟨w, w_eq⟩ : ∃ w, w = u.cursorReturn b := ⟨_, rfl⟩
  have w_report : w.report = u.report := by rw [w_eq]; simp
  have w_bins : w.bins = v.bins := by rw [w_eq, only]; rfl
  have w_sets : w.sets = s.sets := by rw [w_eq, only]; rfl
  have w_jobs : w.jobs = s.jobs := by rw [w_eq, only]; rfl
  rw [← w_eq]
  have spreads := w.produce_spreads r x x.outcome (some b) x.compiled (s.binState b = .full)
  have stands := w.produce_stands r x x.outcome (some b) x.compiled (s.binState b = .full) .governor nofun nofun
  obtain ⟨z, produced, z_sets, z_bins, z_jobs, -⟩ := w.produce_eq r x x.outcome (some b) x.compiled (s.binState b = .full)
  have bins : (w.produce r x x.outcome (some b) x.compiled (s.binState b = .full)).bins = v.bins := by simp [w_bins]
  refine ⟨?_, ?_, fun k other => ?_, ⟨fun room => ?_, fun full => ?_⟩, ?_, ?_, fun held => ?_, fun k other => ?_⟩
  · have w_only : w = { s.arrived r x b with report := w.report, routes := w.routes, bins := w.bins } := by
      rw [w_eq, only]
      rfl
    rw [State.eq_iff]
    and_intros <;> simp only [State.produce_frame] <;> rw [w_only] <;> rfl
  · rw [bins, State.modBin_bins, if_pos rfl]
    rfl
  · rw [bins, State.modBin_bins, if_neg other]
    rfl
  · obtain ⟨added, queue, none_, small⟩ := told.joins (by show max 16 s.report.link.queue.length + 0 ≤ 48; omega)
    have small' : u.report.link.queue.length ≤ max 16 s.report.link.queue.length := by rw [link]; exact small
    obtain ⟨more, queue', one, -⟩ := spreads.joins (by
      rw [w_report]
      show max 16 u.report.link.queue.length + 1 ≤ 48
      omega)
    have queue'' : (w.produce r x x.outcome (some b) x.compiled (s.binState b = .full)).report.link.queue =
        w.report.link.queue ++ more := queue'
    rw [queue'', w_report, link, queue, List.filter_append, List.filter_append, none_, one, List.append_nil]
    rfl
  · have same : w.report.link.queue = s.report.link.queue := by
      rw [w_report, link]
      exact backlog (by show 16 ≤ s.report.link.queue.length; omega)
    have placed := State.produce_full (r := r) (x := x) (o := x.outcome) (d := some b) (n := x.compiled) (f := s.binState b = .full)
      (s := w) (by rw [same]; exact full)
    rw [same] at placed
    exact placed
  · have same : s.governed u := governed
    refine same.then (spreads.gov.trans (by rw [w_report])) (by simp [w_eq]) ?_ (stands.trans (by rw [State.stands, w_report]; rfl))
    refine State.combines_congr (spreads.gov.trans (by rw [w_report])) ?_ ?_ ?_ ?_ ?_ <;> simp [w_eq]
  · rw [produced]
    simp [z_sets, w_sets]
  · have bumped : z.jobs[x.slot] = { s.jobs[x.slot] with counters := s.jobs[x.slot].counters.addOutcome x.outcome } := by
      rw [z_jobs, State.bump_jobs, w_jobs, if_neg held]
      simp
    rw [produced]
    obtain kept | ⟨-, -, freed⟩ := State.completionTest_jobs x.slot x.slot z
    · rw [kept, bumped]
    · rw [freed, bumped]
  · have other' : x.slot.val ≠ k.val := fun h => other (Fin.ext h.symm)
    have same : z.jobs[k] = s.jobs[k] := by
      rw [z_jobs, State.bump_jobs, w_jobs]
      split
      · rfl
      · simp [other']
    rw [produced]
    obtain kept | ⟨here, -, -⟩ := State.completionTest_jobs x.slot k z
    · rw [kept, same]
    · exact absurd here other

theorem exec_s0Arrival {s : State} (live : s.live) (working : s.working = true) : exec .s0Arrival s =
    .next (match s.delivery.expecting .s0 with
      | some e => State.confirm e.set { s with pins := { s.pins with s0 := true } }
      | none => State.jam .unexpectedSet .s0 { s with pins := { s.pins with s0 := true } }).syncIdle := by
  have does : exec .s0Arrival s = s.does fun s => State.arrive .s0 { s with pins := { s.pins with s0 := true } } := rfl
  rw [does, State.does_live live]
  exact congrArg (fun t : State => Host.Outcome.next t.syncIdle) (if_pos working)

/-- Settles O41: the confirmation of the set that travels to S0, and the jam where none does. -/
theorem arrivalsAreConfirmed : Obligations.ArrivalsAreConfirmed := by
  unfold Obligations.ArrivalsAreConfirmed
  refine ⟨fun s e x b live working expects used chosen => ?_, fun s live working none_ => ?_⟩
  · have arrival := exec_s0Arrival live working
    rw [expects] at arrival
    let v : State := { s with pins := { s.pins with s0 := true } }
    have confirms : v.Confirms e.set x b (v.confirm e.set) := State.confirm_confirms used chosen
    obtain ⟨t, t_eq⟩ : ∃ t, t = v.confirm e.set := ⟨_, rfl⟩
    replace arrival : exec .s0Arrival s = .next t.syncIdle := by rw [t_eq]; exact arrival
    rw [← t_eq] at confirms
    clear t_eq
    obtain ⟨frame, bin, bins, joins, governed, sets, slot, jobs⟩ := confirms
    have recs (k : Fin 8) : t.getRec k = (s.sets.without e.set).recs[k] := by
      show t.sets.recs[k] = _
      rw [sets]
    refine ⟨_, arrival, bin, bins, ?_, joins, governed, x.outcome_eq, ?_, ?_, fun k y other used' named => ?_, slot, jobs, ?_⟩
    · show t.delivery = _
      rw [frame]
      rfl
    · exact (recs e.set).trans ((SetTable.without_recs _ _ _).trans (if_pos rfl))
    · show t.sets.order = _
      rw [sets]
      rfl
    · refine (recs k).trans ((SetTable.without_recs _ _ _).trans ((if_neg other).trans ?_))
      rw [show s.sets.recs[k] = some y from used']
      exact congrArg some (if_neg named)
    · rw [frame]
      rfl
  · have arrival := exec_s0Arrival live working
    rw [none_] at arrival
    exact exec_jams (u := { s with pins := { s.pins with s0 := true } }) working arrival

end Sys2Proof.Machine

/-! Staple operations (R76, R77, R80). -/

namespace Sys2Proof.Machine

/-! ## The start of an operation -/

/-- The part with a staple operation begun, before the governor has read the count (R76). -/
def State.stapleBegun (s : State) : State :=
  { s with
    stapler := { s.stapler with state := .stapling, count := s.stapler.count - 1, drive := true, homeTimer := some s.now }
    pins := { s.pins with home := Config.headHome s.draws }
    draws := s.draws + 1 }

/-- The LOW notice of an operation (R80). -/
def Stapler.lowNotice (p : Stapler) : Notice := ⟨.stapleLow, some (p.count - 1), some p.low, none, none⟩

theorem State.startStaple_eq (s : State) : s.startStaple =
    if s.stapler.low ≤ s.stapler.count ∧ s.stapler.count - 1 < s.stapler.low then
      s.stapleBegun.recombine.notify s.stapler.lowNotice none
    else s.stapleBegun.recombine := by
  by_cases low : s.stapler.low ≤ s.stapler.count ∧ s.stapler.count - 1 < s.stapler.low
  · rw [if_pos low]
    exact if_pos (Bool.and_eq_true_iff.mpr ⟨decide_eq_true low.1, decide_eq_true low.2⟩)
  · rw [if_neg low]
    exact if_neg fun h => low (And.imp of_decide_eq_true of_decide_eq_true (Bool.and_eq_true_iff.mp h))

theorem State.startStaple_only (s : State) : s.startStaple = { s.stapleBegun with report := s.startStaple.report } := by
  rw [State.startStaple_eq]
  split <;> rfl

/-- A cause handed over leaves the governor as it is. -/
theorem State.governed.notify {s u : State} (h : s.governed u) (n : Notice) (origin : Option (Fin 4)) : s.governed (u.notify n origin) := by
  have tells := u.notify_tells n origin
  exact h.then tells.gov rfl (State.combines_congr tells.gov rfl rfl rfl rfl rfl) (tells.reasons .governor nofun)

/-- The governor follows the count of an operation (R80, R152). -/
theorem State.startStaple_governed (s : State) : s.governed s.startStaple := by
  have governed : s.governed s.stapleBegun.recombine := State.recombine_governed s.stapleBegun
  rw [State.startStaple_eq]
  split
  · exact governed.notify _ _
  · exact governed

/-- LOW is given as the count falls below the threshold (R80). -/
theorem State.startStaple_low {s : State} (before : s.stapler.low ≤ s.stapler.count) (after : s.stapler.count - 1 < s.stapler.low) :
    s.handed s.stapler.lowNotice none s.startStaple := by
  rw [State.startStaple_eq, if_pos ⟨before, after⟩]
  have handed := State.notify_handed s.stapler.lowNotice none s.stapleBegun.recombine
  exact State.handed_of handed (State.recombine_notice s.stapleBegun).symm (congrArg Link.queue (State.recombine_link s.stapleBegun)).symm
    rfl rfl

theorem State.startStaple_quiet {s : State} (stays : s.stapler.count < s.stapler.low ∨ s.stapler.low ≤ s.stapler.count - 1) :
    s.startStaple.report.notice = s.report.notice := by
  rw [State.startStaple_eq, if_neg (by omega)]
  exact State.recombine_notice s.stapleBegun

/-! ## The wait for the eject -/

/-- A set waits for its eject: its record's state, the compiler's, the hold and the reason STAPLES alone change (R16, R73, R81). -/
theorem State.awaitEject_only (r : Fin 8) (c : CompilerState) (s : State) : s.awaitEject r c = { s with
    report := { s.report with feed := (s.awaitEject r c).report.feed }
    sets := { s.sets with recs := (s.awaitEject r c).sets.recs }
    compiler := { s.compiler with state := c }
    delivery := { s.delivery with compilerHold := if s.hasBin r then s.delivery.compilerHold else some r } } := by
  obtain ⟨u, u_eq⟩ : ∃ u, u = s.modRec r fun x => { x with state := if s.hasBin r then .readyToEject else .held } := ⟨_, rfl⟩
  have only := s.modRec_order r fun x => { x with state := if s.hasBin r then .readyToEject else .held }
  rw [← u_eq] at only
  have waits : s.awaitEject r c = State.setCompiler c { u with
      delivery := { u.delivery with compilerHold := if s.hasBin r then u.delivery.compilerHold else some r } } := by
    rw [u_eq]
    rfl
  rw [waits, State.setCompiler_only, only]

/-! ## The end of stapling -/

theorem State.currentRec_of {s : State} {r : Fin 8} {x : SetRec} (current : s.compiler.current = some r) (used : s.getRec r = some x) :
    s.currentRec = some (r, x) := by
  unfold State.currentRec
  rw [current]
  dsimp only
  rw [used]
  rfl

/-- The part as stapling ends, before the set waits for its eject (R77). -/
def State.stapled (r : Fin 8) (x : SetRec) (timedOut : Bool) (s : State) : State :=
  { s.setRec r { x with result := stapleResult x.pattern.staples s.stapler.made } with
    stapler := s.stapler.leave (s.stapler.after timedOut) }

theorem State.staplingEnds_of {s : State} {r : Fin 8} {x : SetRec} (timedOut : Bool) (current : s.compiler.current = some r)
    (used : s.getRec r = some x) (whole : x.divert ≠ some .purged) :
    s.staplingEnds timedOut = (s.stapled r x timedOut).awaitEject r .ejecting := by
  unfold State.staplingEnds
  rw [State.currentRec_of current used]
  exact if_neg whole

/-- What is left as stapling ends (R77): the result, the set on to its eject, and the stapler out of STAPLING. -/
theorem State.staplingEnds_ends {s : State} {r : Fin 8} {x : SetRec} (timedOut : Bool) (current : s.compiler.current = some r)
    (used : s.getRec r = some x) (whole : x.divert ≠ some .purged) :
    let t := s.staplingEnds timedOut
    t = { s with
      report := { s.report with feed := t.report.feed }
      sets := { s.sets with recs := t.sets.recs }
      compiler := { s.compiler with state := .ejecting }
      stapler := s.stapler.leave (s.stapler.after timedOut)
      delivery := t.delivery } ∧
    t.getRec r = some { x with
      result := stapleResult x.pattern.staples s.stapler.made, state := if x.chosen.isSome then .readyToEject else .held } ∧
    ∀ k : Fin 8, k ≠ r → t.getRec k = s.getRec k := by
  have there : (s.stapled r x timedOut).getRec r = some { x with result := stapleResult x.pattern.staples s.stapler.made } :=
    State.setRec_getRec r _ s
  rw [State.staplingEnds_of timedOut current used whole]
  refine ⟨?_, (State.awaitEject_getRec r r .ejecting _ _ there).trans (if_pos rfl), fun k other => ?_⟩
  · rw [State.awaitEject_only]
    rfl
  · refine (State.awaitEject_getRec r k .ejecting _ _ there).trans ((if_neg other).trans ?_)
    exact State.setRec_getRec_ne r k other _ s

theorem Pattern.staples_eq (p : Pattern) : p.staples = if p = .edge2 then 2 else if p = .corner then 1 else 0 := by
  cases p <;> rfl

/-- The part as the head is home again, before the next operation or the end of stapling (R76). -/
def State.stapleMade (s : State) : State :=
  { s with
    pins := { s.pins with home := true }
    stapler := { s.stapler with made := s.stapler.made + 1, drive := false, homeTimer := none } }

theorem exec_stapleHomeReturn {s : State} {start : Nat} {r : Fin 8} {x : SetRec} (live : s.live)
    (timer : s.stapler.homeTimer = some start) (current : s.compiler.current = some r) (used : s.getRec r = some x) :
    exec .stapleHomeReturn s = .next (if s.now - start ≤ 600 then
        if s.stapleMade.secondStaple x then s.stapleMade.startStaple else s.stapleMade.staplingEnds false
      else { s with pins := { s.pins with home := true } }).syncIdle := by
  have current_ : s.stapleMade.currentRec = some (r, x) := State.currentRec_of (s := s.stapleMade) current used
  have good : State.goodStaple { s with pins := { s.pins with home := true } } =
      if s.stapleMade.secondStaple x then s.stapleMade.startStaple else s.stapleMade.staplingEnds false := by
    show (match s.stapleMade.currentRec with
      | some (_, x) => if s.stapleMade.secondStaple x then s.stapleMade.startStaple else s.stapleMade.staplingEnds false
      | none => s.stapleMade.staplingEnds false) = _
    rw [current_]
  show execStapleHomeReturn s = _
  rw [execStapleHomeReturn, State.does_live live, ← good]
  refine congrArg (fun t : State => Host.Outcome.next t.syncIdle) ?_
  dsimp only
  rw [timer]
  rfl

theorem exec_stapleHomeTimeout {s : State} {start : Nat} {r : Fin 8} {x : SetRec} (live : s.live)
    (timer : s.stapler.homeTimer = some start) (current : s.compiler.current = some r) (used : s.getRec r = some x) :
    exec .stapleHomeTimeout s =
      .next (State.staplingEnds true ((s.reach (start + 600)).notifyFault (some x) (s.stapler.made + 1))).syncIdle := by
  have current_ : (s.reach (start + 600)).currentRec = some (r, x) := State.currentRec_of (s := s.reach (start + 600)) current used
  show execStapleHomeTimeout s = _
  rw [execStapleHomeTimeout, State.does_live live]
  refine congrArg (fun t : State => Host.Outcome.next t.syncIdle) ?_
  rw [timer]
  dsimp only
  rw [show Config.homeTime = 600 from rfl, current_]
  rfl

/-- Whether the second operation begins (R76, R83). -/
theorem State.secondStaple_iff (x : SetRec) (s : State) : s.secondStaple x = true ↔
    s.stapler.made < x.pattern.staples ∧ s.stapler.stopPending = false ∧ s.stapler.cartridge.state = some true ∧
      1 ≤ s.stapler.count ∧ x.divert ≠ some .purged := by
  simp only [State.secondStaple, Bool.and_eq_true, decide_eq_true_iff, Bool.not_eq_true', and_assoc]

/-- Settles O46: the next operation, the end of stapling, and the time-out. -/
theorem stapleOperationsEndInTheirResult : Obligations.StapleOperationsEndInTheirResult := by
  unfold Obligations.StapleOperationsEndInTheirResult
  intro s start r x live timer current used whole needed more ended
  have needed_eq : x.pattern.staples = needed := x.pattern.staples_eq
  refine ⟨?_, ?_⟩
  · have home := exec_stapleHomeReturn live timer current used
    have second : s.stapleMade.secondStaple x = true ↔ more := by
      rw [State.secondStaple_iff, needed_eq]
      constructor
      · rintro ⟨made, stop, cartridge, count, -⟩
        exact ⟨made, stop, cartridge, count⟩
      · rintro ⟨made, stop, cartridge, count⟩
        exact ⟨made, stop, cartridge, count, whole⟩
    by_cases late : s.now - start ≤ 600
    · rw [if_pos late] at home
      by_cases again : more
      · rw [if_pos (second.mpr again)] at home
        have only := s.stapleMade.startStaple_only
        have governed := s.stapleMade.startStaple_governed
        have low := State.startStaple_low (s := s.stapleMade)
        have quiet := State.startStaple_quiet (s := s.stapleMade)
        generalize s.stapleMade.startStaple = t at *
        refine ⟨_, home, ?_, fun h => absurd late (by omega), fun _ _ => ⟨?_, ?_, ?_, governed, low, quiet⟩,
          fun _ other => absurd again other⟩
        · show t.pins = { s.pins with home := t.pins.home }
          rw [only]
          rfl
        · show t.compiler = _
          rw [only]
          rfl
        · show t.sets = _
          rw [only]
          rfl
        · show t.stapler = _
          rw [only]
          rfl
      · rw [if_neg fun h => again (second.mp h)] at home
        obtain ⟨only, own, others⟩ := State.staplingEnds_ends (s := s.stapleMade) false current used whole
        generalize s.stapleMade.staplingEnds false = t at *
        have stapler : t.stapler = s.stapleMade.stapler.leave (s.stapleMade.stapler.after false) := by rw [only]
        refine ⟨_, home, ?_, fun h => absurd late (by omega), fun _ yes => absurd yes again,
          fun _ _ => ⟨⟨?_, ?_, ?_, ?_, ?_, ?_, ?_, others, ?_, ?_⟩, ?_⟩⟩
        · show t.pins = { s.pins with home := t.pins.home }
          rw [only]
          rfl
        · show t.compiler = _
          rw [only]
          rfl
        · exact congrArg Stapler.made stapler
        · exact congrArg Stapler.stopPending stapler
        · exact congrArg Stapler.drive stapler
        · exact congrArg Stapler.homeTimer stapler
        · exact (congrArg Stapler.count stapler).trans rfl
        · rw [← needed_eq]
          exact own
        · show t.bins = _
          rw [only]
          rfl
        · show t.path = _
          rw [only]
          rfl
        · exact congrArg Stapler.state stapler
    · rw [if_neg late] at home
      exact ⟨_, home, rfl, fun _ => rfl, fun h => absurd h late, fun h => absurd h late⟩
  · have out := exec_stapleHomeTimeout live timer current used
    let u : State := (s.reach (start + 600)).notifyFault (some x) (s.stapler.made + 1)
    have fault : u.latched .stapleFault := (State.notify_latched _ none .stapleFault (s.reach (start + 600))).mpr (.inl rfl)
    obtain ⟨only, own, others⟩ := State.staplingEnds_ends (s := u) true current used whole
    generalize u.staplingEnds true = t at *
    have stapler : t.stapler = u.stapler.leave (u.stapler.after true) := by rw [only]
    refine ⟨t.syncIdle, out, ?_, ⟨?_, ?_, ?_, ?_, ?_, ?_, ?_, others, ?_, ?_⟩, ?_, ?_⟩
    · show t.now = _
      rw [only]
      rfl
    · show t.compiler = _
      rw [only]
      rfl
    · exact congrArg Stapler.made stapler
    · exact congrArg Stapler.stopPending stapler
    · exact congrArg Stapler.drive stapler
    · exact congrArg Stapler.homeTimer stapler
    · exact (congrArg Stapler.count stapler).trans rfl
    · rw [← needed_eq]
      exact own
    · show t.bins = _
      rw [only]
      rfl
    · show t.path = _
      rw [only]
      rfl
    · exact congrArg Stapler.state stapler
    · show _ ∈ t.report.notice.flags
      rw [only]
      exact fault

end Sys2Proof.Machine

/-! A set without a bin is given one, or none (R91 to R96, R105, R106, R108). -/

namespace Sys2Proof.Machine

/-! ## A bin given -/

/-- The side a set takes from a bin (R108). -/
def SetRec.sideFrom (x : SetRec) (y : Bin) : OffsetSide :=
  if x.offset = false then .none else if y.nextSide = .left then .left else .right

/-- A bin with a height reserved for a set, and its side given (R106, R108). -/
def Bin.given (x : SetRec) (y : Bin) : Bin :=
  { y with
    reserved := y.reserved + x.height.getD 0
    nextSide := if x.offset = false then y.nextSide else if y.nextSide = .left then .right else .left }

/-- `t` has a bin given to a set of `s` that had none, with a divert reason. -/
structure State.Gives (s : State) (r : Fin 8) (x : SetRec) (b : Fin 41) (d : Option DivertReason) (t : State) : Prop where
  own : t.getRec r = some { x with chosen := some b, divert := d, side := x.sideFrom s.bins[b] }
  bin : t.bins[b] = s.bins[b].given x
  bins : ∀ k : Fin 41, k ≠ b → t.bins[k] = s.bins[k]

/-- A bin is given to a set that has none: the record, the reservation and the side (R95, R106, R108). -/
def State.giveBin (r : Fin 8) (b : Fin 41) (x : SetRec) (d : Option DivertReason) (s : State) : State :=
  ((s.setRec r { x with chosen := some b, divert := d }).reserve b (x.height.getD 0)).takeSide r b

theorem State.giveBin_gives (s : State) (r : Fin 8) (b : Fin 41) (x : SetRec) (d : Option DivertReason) :
    s.Gives r x b d (s.giveBin r b x d) := by
  let u : State := (s.setRec r { x with chosen := some b, divert := d }).reserve b (x.height.getD 0)
  have there : u.getRec r = some { x with chosen := some b, divert := d } := State.setRec_getRec r _ s
  have bins (k : Fin 41) : u.bins[k] = if k = b then { s.bins[b] with reserved := s.bins[b].reserved + x.height.getD 0 } else s.bins[k] :=
    State.reserve_bins b k _ _
  have side : u.bins[b].nextSide = s.bins[b].nextSide := by rw [bins, if_pos rfl]
  show s.Gives r x b d (u.takeSide r b)
  have takes : u.takeSide r b = if x.offset then
      State.modBin b (fun y => { y with nextSide := if s.bins[b].nextSide = .left then .right else .left })
        (u.setRec r { x with chosen := some b, divert := d, side := if s.bins[b].nextSide = .left then .left else .right })
      else u.setRec r { x with chosen := some b, divert := d, side := .none } := by
    unfold State.takeSide
    rw [there]
    dsimp only
    rw [side]
  rw [takes]
  by_cases offset : x.offset = false
  · rw [if_neg (by simp [offset])]
    refine ⟨(State.setRec_getRec r _ u).trans ?_, ?_, fun k other => ?_⟩
    · rw [SetRec.sideFrom, if_pos offset]
    · show u.bins[b] = _
      rw [bins, if_pos rfl, Bin.given, if_pos offset]
    · show u.bins[k] = _
      rw [bins, if_neg other]
  · rw [if_pos (by simpa using offset)]
    obtain ⟨v, v_eq⟩ : ∃ v, v = u.setRec r
      { x with chosen := some b, divert := d, side := if s.bins[b].nextSide = .left then .left else .right } := ⟨_, rfl⟩
    have v_bins : v.bins = u.bins := by rw [v_eq]; rfl
    rw [← v_eq]
    refine ⟨?_, ?_, fun k other => ?_⟩
    · rw [v_eq]
      refine (State.setRec_getRec r _ u).trans ?_
      rw [SetRec.sideFrom, if_neg offset]
    · rw [State.modBin_bins, if_pos rfl, v_bins, bins, if_pos rfl, Bin.given, if_neg offset]
    · rw [State.modBin_bins, if_neg other, v_bins, bins, if_neg other]

theorem State.giveBin_routes (s : State) (r : Fin 8) (b : Fin 41) (x : SetRec) (d : Option DivertReason) :
    (s.giveBin r b x d).routes = s.routes := by
  simp [State.giveBin, State.reserve, State.setRec, State.modBin]

theorem State.hasBin_none {s : State} {r : Fin 8} {x : SetRec} (used : s.getRec r = some x) (none_ : x.chosen = none) :
    s.hasBin r = false := by
  unfold State.hasBin
  rw [used]
  dsimp only
  rw [none_]
  rfl

theorem State.choose_gives {s : State} {r : Fin 8} {x : SetRec} (b : Fin 41) (used : s.getRec r = some x) (none_ : x.chosen = none) :
    s.choose r b = s.giveBin r b x x.divert := by
  unfold State.choose
  dsimp only
  rw [State.dropReservation_none r s (State.hasBin_none used none_), used]
  rfl

theorem State.retarget_gives {s : State} {r : Fin 8} {x : SetRec} (d : DivertReason) (used : s.getRec r = some x) (none_ : x.chosen = none) :
    s.retarget r d = s.giveBin r 0 x (some (x.divert.getD d)) := by
  unfold State.retarget
  dsimp only
  rw [State.dropReservation_none r s (State.hasBin_none used none_), used]
  rfl

/-! ## Scans -/

/-- The admission test (R105). -/
theorem State.admits_iff (s : State) (h : Nat) (b : Fin 41) : s.admits h b = true ↔
    ((s.binState b = .available ∨ s.binState b = .nearFull) ∧ s.bins[b].fill + s.bins[b].reserved + h ≤ s.bins[b].capacity) ∨
      (s.bins[b].capacity < h ∧ s.bins[b].fill = 0 ∧ s.bins[b].reserved = 0 ∧ s.bins[b].present.state = some false ∧
        s.binState b = .available) := by
  simp only [State.admits, Bool.or_eq_true, Bool.and_eq_true, decide_eq_true_iff, and_assoc]

/-- The first of an increasing list that passes a test is the least one that does. -/
theorem find?_least {l : List (Fin 41)} (sorted : l.Pairwise (· < ·)) {p : Fin 41 → Bool} {b : Fin 41} (mem : b ∈ l) (passes : p b = true)
    (least : ∀ k ∈ l, k < b → ¬ p k = true) : l.find? p = some b := by
  induction l with
  | nil => cases mem
  | cons c l ih =>
    obtain ⟨first, rest⟩ := List.pairwise_cons.mp sorted
    by_cases h : p c = true
    · rw [List.find?_cons_of_pos h]
      obtain rfl | later := List.mem_cons.mp mem
      · rfl
      · exact absurd h (least c List.mem_cons_self (first b later))
    · rw [List.find?_cons_of_neg h]
      obtain rfl | later := List.mem_cons.mp mem
      · exact absurd passes h
      · exact ih rest later fun k mem => least k (List.mem_cons_of_mem _ mem)

theorem binRange_sorted (first last : Fin 41) : (binRange first last).Pairwise (· < ·) :=
  (List.sortedLT_finRange 41).pairwise.filter _

theorem mem_binRange (first last b : Fin 41) : b ∈ binRange first last ↔ first ≤ b ∧ b ≤ last := by
  simp [binRange]

/-- `t` is `s` with a set that had no bin given the least bin of a group that admits it, if there is one (R93 to R95); a SEQUENCE moves its
entry's cursor to it (R94). -/
structure State.Scans (s : State) (r : Fin 8) (x : SetRec) (group : Fin 41 → Prop) (moves : Option (Fin 32)) (t : State) : Prop where
  found : ∀ b, group b → s.admits (x.height.getD 0) b = true → (∀ k, group k → k < b → ¬ s.admits (x.height.getD 0) k = true) →
    s.Gives r x b x.divert t ∧ t.routes = match moves with
      | some i => { s.routes with entries := s.routes.entries.set i { s.routes.entries[i] with cursor := b } }
      | none => s.routes
  none_ : (∀ b, group b → ¬ s.admits (x.height.getD 0) b = true) → t = s

/-- What is done with the cursor as a bin is found (R94). -/
def State.cursorTo (moves : Option (Fin 32)) (b : Fin 41) (s : State) : State :=
  match moves with
  | some i => s.moveCursor i b
  | none => s

theorem State.scan_scans {s : State} {r : Fin 8} {x : SetRec} {l : List (Fin 41)} {group : Fin 41 → Prop} (moves : Option (Fin 32))
    (used : s.getRec r = some x) (unchosen : x.chosen = none) (sorted : l.Pairwise (· < ·)) (mem : ∀ b, b ∈ l ↔ group b) :
    s.Scans r x group moves (s.scan r (x.height.getD 0) l (State.cursorTo moves)) where
  found b here admits least := by
    have find : l.find? (s.admits (x.height.getD 0)) = some b :=
      find?_least sorted ((mem b).mpr here) admits fun k h => least k ((mem k).mp h)
    have gives := s.giveBin_gives r b x x.divert
    have routes := s.giveBin_routes r b x x.divert
    unfold State.scan
    rw [find]
    dsimp only
    rw [State.choose_gives b used unchosen]
    generalize s.giveBin r b x x.divert = t at *
    cases moves with
    | none => exact ⟨gives, routes⟩
    | some i =>
      refine ⟨⟨gives.own, gives.bin, gives.bins⟩, ?_⟩
      show { t.routes with entries := t.routes.entries.set i { t.routes.entries[i] with cursor := b } } = _
      rw [routes]
  none_ no := by
    have find : l.find? (s.admits (x.height.getD 0)) = none := List.find?_eq_none.mpr fun b h => no b ((mem b).mp h)
    unfold State.scan
    rw [find]

/-- The three kinds of the Bin Selector's work on a set without a bin, by the first line of R91 that applies. -/
def State.Selects (s : State) (r : Fin 8) (x : SetRec) (t : State) : Prop :=
  if x.divert ≠ none then s.Gives r x 0 x.divert t
  else if x.broken ≠ none then s.Gives r x 0 (some .broken) t
  else if 2 ≤ x.part then s.Scans r x (fun b => x.partBin = some b) none t
  else
    match x.route with
    | .none => s.Gives r x 0 (some .noRoute) t ∧ t.latched .noRoute
    | .default d => s.Scans r x (fun b => b = d) none t
    | .entry _ first last .fill _ => s.Scans r x (fun b => first ≤ b ∧ b ≤ last) none t
    | .entry i first last .sequence generation =>
      let e := s.routes.entries[i]
      if e.generation = generation ∧ first ≤ e.cursor ∧ e.cursor ≤ last then s.Scans r x (fun b => e.cursor ≤ b ∧ b ≤ last) (some i) t
      else s.Scans r x (fun b => first ≤ b ∧ b ≤ last) none t

theorem State.selectBin_selects {s : State} {r : Fin 8} {x : SetRec} (used : s.getRec r = some x) (unchosen : x.chosen = none) :
    s.Selects r x (s.selectBin r) := by
  have still (l : List (Fin 41)) (group : Fin 41 → Prop) (sorted : l.Pairwise (· < ·)) (mem : ∀ b, b ∈ l ↔ group b) :
      s.Scans r x group none (s.scan r (x.height.getD 0) l fun _ s => s) := State.scan_scans none used unchosen sorted mem
  have single (d : Fin 41) : s.Scans r x (fun b => b = d) none (s.scan r (x.height.getD 0) [d] fun _ s => s) :=
    still [d] _ (List.pairwise_singleton _ _) fun b => by simp
  unfold State.Selects State.selectBin
  rw [used]
  dsimp only
  by_cases divert : x.divert = none
  · rw [if_neg (not_not.mpr divert), if_neg (show ¬ x.divert.isSome = true by simp [divert])]
    by_cases broken : x.broken = none
    · rw [if_neg (not_not.mpr broken), if_neg (show ¬ x.broken.isSome = true by simp [broken])]
      by_cases part : 2 ≤ x.part
      · rw [if_pos part, if_pos part]
        cases partBin : x.partBin with
        | none => exact ⟨nofun, fun _ => rfl⟩
        | some d => exact still [d] _ (List.pairwise_singleton _ _) fun b => by simp [eq_comm]
      · rw [if_neg part, if_neg part]
        cases x.route with
        | none =>
          dsimp only
          have gives := s.giveBin_gives r 0 x (some .noRoute)
          rw [State.retarget_gives _ used unchosen, divert]
          exact ⟨⟨gives.own, gives.bin, gives.bins⟩, (State.notify_latched _ _ _ _).mpr (.inl rfl)⟩
        | default d => exact single d
        | entry i first last policy generation =>
          cases policy with
          | fill => exact still _ _ (binRange_sorted first last) (mem_binRange first last)
          | sequence =>
            dsimp only
            unfold State.scanSequence
            dsimp only
            by_cases current : s.routes.entries[i].generation = generation ∧ first ≤ s.routes.entries[i].cursor ∧
                s.routes.entries[i].cursor ≤ last
            · rw [if_pos current, if_pos current]
              exact State.scan_scans (some i) used unchosen (binRange_sorted _ _) (mem_binRange _ _)
            · rw [if_neg current, if_neg current]
              exact still _ _ (binRange_sorted first last) (mem_binRange first last)
    · have some_ : x.broken.isSome := Option.isSome_iff_ne_none.mpr broken
      rw [if_pos broken, if_pos some_, State.retarget_gives _ used unchosen, divert]
      exact s.giveBin_gives r 0 x _
  · have some_ : x.divert.isSome := Option.isSome_iff_ne_none.mpr divert
    obtain ⟨d, d_eq⟩ := Option.isSome_iff_exists.mp some_
    rw [if_pos divert, if_pos some_, State.retarget_gives _ used unchosen, d_eq]
    exact s.giveBin_gives r 0 x _

/-- Only part 1 of a split set passes its bin on (R19). -/
theorem State.passPartBin_other {s : State} {r : Fin 8} {x : SetRec} (used : s.getRec r = some x) (part : x.part ≠ 1) :
    s.passPartBin r = s := by
  unfold State.passPartBin
  rw [used]
  dsimp only
  split
  · exact if_neg part
  · rfl

theorem State.binChoice_other {s : State} {r : Fin 8} {x : SetRec} (used : s.getRec r = some x) (part : x.part ≠ 1) :
    s.binChoice r = s.selectBin r := by
  obtain ⟨y, used_y, same⟩ := (s.selectBin_rebins r).used r x used
  refine State.passPartBin_other used_y ?_
  rw [same]
  exact part

end Sys2Proof.Machine

/-! The end of the jog: the staple decision and the bin choice (R15, R69, R72, R73, R83, R91). -/

namespace Sys2Proof.Machine

/-- The part at the end of a jog, before its set is decided (R69). -/
def State.jogged (start : Nat) (s : State) : State :=
  { s.reach (start + 150) with compiler := { s.compiler with jog := none } }

theorem exec_jogEnd {s : State} {start : Nat} {r : Fin 8} {x : SetRec} (live : s.live) (jog : s.compiler.jog = some start)
    (current : s.compiler.current = some r) (used : s.getRec r = some x) : exec .jogEnd s =
    Host.Outcome.next (if x.divert = some DivertReason.purged then (s.jogged start).purgedEject r else (s.jogged start).decideSet r x).syncIdle := by
  have current_ : (s.jogged start).currentRec = some (r, x) := State.currentRec_of (s := s.jogged start) current used
  show execJogEnd s = _
  rw [execJogEnd, State.does_live live]
  refine congrArg (fun t : State => Host.Outcome.next t.syncIdle) ?_
  rw [jog]
  dsimp only
  show (match (s.jogged start).currentRec with
    | none => s.jogged start
    | some (r, x) => if x.divert = some DivertReason.purged then (s.jogged start).purgedEject r else (s.jogged start).decideSet r x) = _
  rw [current_]

/-- The part with a set's decision and height recorded (R15, R72). -/
def State.recorded (r : Fin 8) (x : SetRec) (d : StapleDecision × Option SkipReason) (s : State) : State :=
  s.setRec r (x.decided d.1 d.2)

/-- The way on of a set without a bin, by its decision (R69, R73). -/
theorem State.decideSet_eq {s : State} {r : Fin 8} {x : SetRec} (used : s.getRec r = some x) (unchosen : x.chosen = none) :
    let d := x.decide s.stapler
    let u := s.recorded r x d
    (d.1 = .staple → s.decideSet r x = (u.binChoice r).beginStapling r) ∧
    (d.1 = .wait → s.decideSet r x =
      ((u.setRec r { x.decided d.1 d.2 with state := .stapleWait }).setCompiler .stapleWait).raise .staples) ∧
    (d.1 ≠ .staple → d.1 ≠ .wait → s.decideSet r x = (u.binChoice r).awaitEject r .ejecting) := by
  intro d u
  have there : u.getRec r = some (x.decided d.1 d.2) := State.setRec_getRec r _ s
  have recorded : (s.dropReservation r).modRec r (SetRec.decided d.1 d.2) = u := by
    rw [State.dropReservation_none r s (State.hasBin_none used unchosen)]
    unfold State.modRec
    rw [used]
    rfl
  have wait : u.modRec r (fun x => { x with state := .stapleWait }) = u.setRec r { x.decided d.1 d.2 with state := .stapleWait } := by
    unfold State.modRec
    rw [there]
  have decides : s.decideSet r x = match d.1 with
      | .staple => (u.binChoice r).beginStapling r
      | .wait => ((u.modRec r fun x => { x with state := .stapleWait }).setCompiler .stapleWait).raise .staples
      | _ => (u.binChoice r).awaitEject r .ejecting := by
    rw [← recorded]
    rfl
  rw [decides, wait]
  generalize d.1 = e
  refine ⟨?_, ?_, ?_⟩
  · rintro rfl
    rfl
  · rintro rfl
    rfl
  · intro staple wait
    cases e with
    | staple => exact absurd rfl staple
    | wait => exact absurd rfl wait
    | notRequested => rfl
    | skip => rfl

/-! ## Stapling begun -/

/-- The part with a set in STAPLING, before its first operation (R69, R76). -/
def State.stapling (r : Fin 8) (x : SetRec) (s : State) : State := (s.setRec r { x with state := .stapling }).setCompiler .stapling

theorem State.beginStapling_of {s : State} {r : Fin 8} {x : SetRec} (used : s.getRec r = some x) :
    s.beginStapling r = (s.stapling r x).startStaple := by
  unfold State.beginStapling State.stapling State.modRec
  rw [used]

theorem State.stapling_only (r : Fin 8) (x : SetRec) (s : State) : s.stapling r x = { s.setRec r { x with state := .stapling } with
    compiler := { s.compiler with state := .stapling }, report := { s.report with feed := (s.stapling r x).report.feed } } :=
  State.setCompiler_only .stapling (s.setRec r { x with state := .stapling })

theorem State.stapling_stands {r : Fin 8} {x : SetRec} {s : State} (y : Reason) (other : y ≠ .staples) :
    (s.stapling r x).stands y ↔ s.stands y := by
  unfold State.stapling
  rw [State.setCompiler_stands]
  constructor
  · exact fun h => h.1
  · exact fun h => ⟨h, fun staples => other staples.1⟩

/-- What the begin of stapling leaves (R69, R76, R80). -/
theorem State.beginStapling_begins {s : State} {r : Fin 8} {x : SetRec} (used : s.getRec r = some x) :
    let t := s.beginStapling r
    t = { s with
      report := t.report, pins := t.pins, draws := s.draws + 1
      sets := { s.sets with recs := t.sets.recs }
      compiler := { s.compiler with state := .stapling }
      stapler := { s.stapler with state := .stapling, count := s.stapler.count - 1, drive := true, homeTimer := some s.now } } ∧
    t.getRec r = some { x with state := .stapling } ∧ (∀ k : Fin 8, k ≠ r → t.getRec k = s.getRec k) ∧ s.governed t := by
  rw [State.beginStapling_of used]
  have only := s.stapling_only r x
  have started := (s.stapling r x).startStaple_only
  have governed := (s.stapling r x).startStaple_governed
  have stands := State.stapling_stands (r := r) (x := x) (s := s) .governor nofun
  generalize s.stapling r x = u at *
  have sets : u.startStaple.sets = (s.setRec r { x with state := .stapling }).sets := by
    rw [started, only]
    rfl
  refine ⟨?_, ?_, fun k other => ?_, governed.of_same (by rw [only]) stands⟩
  · rw [started]
    rw [only]
    rfl
  · show u.startStaple.sets.recs[r] = _
    rw [sets]
    exact State.setRec_getRec r _ s
  · show u.startStaple.sets.recs[k] = _
    rw [sets]
    exact State.setRec_getRec_ne r k other _ s

/-- What tells of something keeps the governor's reason. -/
theorem Report.Tells.governor {ds : List OutRec} {s t : State} (h : s.report.Tells ds t.report) :
    t.stands .governor ↔ s.stands .governor := h.reasons .governor nofun

/-! ## What a decision leaves -/

/-- `t` is `s` with a set decided, its record there being `y` (R15, R69, R72). -/
structure State.Decides (s : State) (r : Fin 8) (x : SetRec) (y : SetRec) (t : State) : Prop where
  frame : t = { s with
    report := t.report, pins := t.pins, draws := t.draws, routes := t.routes, bins := t.bins, delivery := t.delivery, stapler := t.stapler
    sets := { s.sets with recs := t.sets.recs }
    compiler := { s.compiler with state := t.compiler.state } }
  own : t.getRec r = some y
  record : (x.decided (x.decide s.stapler).1 (x.decide s.stapler).2).rebinned y

/-- The bin choice of a set as its decision is recorded (R69, R91). -/
def State.binned (r : Fin 8) (x : SetRec) (s : State) : State := (s.recorded r x (x.decide s.stapler)).binChoice r

/-- What the bin choice leaves as the set is sent on: its bin, the bins, the cursors and what was latched. -/
structure State.KeepsBin (w : State) (r : Fin 8) (y : SetRec) (t : State) : Prop where
  own : ∃ z, w.getRec r = some z ∧ y = { z with state := y.state }
  bins : t.bins = w.bins
  routes : t.routes = w.routes
  flags : ∀ c, w.latched c → t.latched c

theorem State.binned_rebins {s : State} (r : Fin 8) (x : SetRec) :
    (s.recorded r x (x.decide s.stapler)).Rebins (s.binned r x) := State.binChoice_rebins r _

theorem State.binned_getRec (s : State) (r : Fin 8) (x : SetRec) : ∃ y, (s.binned r x).getRec r = some y ∧
    (x.decided (x.decide s.stapler).1 (x.decide s.stapler).2).rebinned y :=
  (State.binned_rebins r x).used r _ (State.setRec_getRec r _ s)

theorem State.startStaple_flags (s : State) (c : Cause) (latched : s.latched c) : s.startStaple.latched c := by
  have kept : s.stapleBegun.recombine.latched c := by
    show c ∈ s.stapleBegun.recombine.report.notice.flags
    rw [State.recombine_notice]
    exact latched
  rw [State.startStaple_eq]
  split
  · exact (State.notify_latched _ _ _ _).mpr (.inr kept)
  · exact kept

theorem State.beginStapling_keepsBin {w : State} {r : Fin 8} {z : SetRec} (used : w.getRec r = some z) :
    w.KeepsBin r { z with state := .stapling } (w.beginStapling r) := by
  have begins := (State.beginStapling_begins used).1
  refine ⟨⟨z, used, rfl⟩, ?_, ?_, fun c latched => ?_⟩
  · rw [begins]
  · rw [begins]
  · rw [State.beginStapling_of used]
    refine State.startStaple_flags _ c ?_
    rw [State.stapling_only]
    exact latched

/-- A set decided STAPLE (R69, R76). -/
theorem State.decideSet_staples {s : State} {r : Fin 8} {x : SetRec} (used : s.getRec r = some x) (unchosen : x.chosen = none)
    (staple : (x.decide s.stapler).1 = .staple) : ∃ y, s.Decides r x y (s.decideSet r x) ∧ (s.binned r x).KeepsBin r y (s.decideSet r x) ∧
      y.state = .stapling ∧ (s.decideSet r x).compiler.state = .stapling ∧ s.governed (s.decideSet r x) ∧
      (s.decideSet r x).stapler = { s.stapler with
        state := .stapling, count := s.stapler.count - 1, drive := true, homeTimer := some s.now } := by
  have binned := State.binned_rebins (s := s) r x
  have tells : s.report.Tells [] (s.binned r x).report := binned.tells
  obtain ⟨z, used_z, same⟩ := s.binned_getRec r x
  have begins : s.decideSet r x = (s.binned r x).beginStapling r := (State.decideSet_eq used unchosen).1 staple
  obtain ⟨only, own, -, governed⟩ := State.beginStapling_begins used_z
  have keeps := State.beginStapling_keepsBin used_z
  have frame := binned.frame
  rw [begins]
  generalize s.binned r x = w at *
  refine ⟨_, ⟨?_, own, same.trans rfl⟩, keeps, rfl, ?_, governed.of_same tells.gov tells.governor, ?_⟩
  · rw [only]
    rw [frame]
    rfl
  · rw [only]
  · rw [only, frame]
    rfl

/-- A set decided WAIT, without a bin (R73). -/
theorem State.decideSet_waits {s : State} {r : Fin 8} {x : SetRec} (used : s.getRec r = some x) (unchosen : x.chosen = none)
    (wait : (x.decide s.stapler).1 = .wait) : ∃ y, s.Decides r x y (s.decideSet r x) ∧ y.state = .stapleWait ∧ y.chosen = none ∧
      (s.decideSet r x).compiler.state = .stapleWait ∧ (s.decideSet r x).stapler = s.stapler ∧ (s.decideSet r x).stands .staples ∧
      (s.decideSet r x).bins = s.bins := by
  obtain ⟨y, y_eq⟩ : ∃ y, y = { x.decided (x.decide s.stapler).1 (x.decide s.stapler).2 with state := .stapleWait } := ⟨_, rfl⟩
  let u := (s.recorded r x (x.decide s.stapler)).setRec r y
  have waits : s.decideSet r x = (u.setCompiler .stapleWait).raise .staples := by
    rw [(State.decideSet_eq used unchosen).2.1 wait, ← y_eq]
  have compiler : u.setCompiler .stapleWait = { u with compiler := { u.compiler with state := .stapleWait } } :=
    if_neg fun h => h.2 rfl
  rw [waits, compiler]
  refine ⟨y, ⟨rfl, State.setRec_getRec r y _, ?_⟩, ?_, ?_, rfl, rfl, ?_, rfl⟩
  · rw [y_eq]
    rfl
  · rw [y_eq]
  · rw [y_eq]
    exact unchosen
  · exact (State.raise_stands _ _ _).mpr (.inl rfl)

/-- A set decided not to be stapled (R69, R81). -/
theorem State.decideSet_ejects {s : State} {r : Fin 8} {x : SetRec} (used : s.getRec r = some x) (unchosen : x.chosen = none)
    (staple : (x.decide s.stapler).1 ≠ .staple) (wait : (x.decide s.stapler).1 ≠ .wait) :
    ∃ y, s.Decides r x y (s.decideSet r x) ∧ (s.binned r x).KeepsBin r y (s.decideSet r x) ∧
      y.state = (if y.chosen.isSome then .readyToEject else .held) ∧
      (y.chosen = none → (s.decideSet r x).delivery.compilerHold = some r) ∧
      (s.decideSet r x).compiler.state = .ejecting ∧ (s.decideSet r x).stapler = s.stapler := by
  have binned := State.binned_rebins (s := s) r x
  obtain ⟨z, used_z, same⟩ := s.binned_getRec r x
  have ejects : s.decideSet r x = (s.binned r x).awaitEject r .ejecting := (State.decideSet_eq used unchosen).2.2 staple wait
  have own := (State.awaitEject_getRec r r .ejecting z _ used_z).trans (if_pos rfl)
  have only := (s.binned r x).awaitEject_only r .ejecting
  have hasBin : (s.binned r x).hasBin r = z.chosen.isSome := by simp [State.hasBin, used_z]
  have frame := binned.frame
  rw [ejects]
  generalize s.binned r x = w at *
  refine ⟨_, ⟨?_, own, same.trans rfl⟩, ⟨⟨z, used_z, rfl⟩, ?_, ?_, fun c latched => ?_⟩, rfl, fun none_ => ?_, ?_, ?_⟩
  · rw [only]
    rw [frame]
    rfl
  · rw [only]
  · rw [only]
  · rw [only]
    exact latched
  · have none_ : z.chosen = none := none_
    rw [only, hasBin, none_]
    rfl
  · rw [only]
  · rw [only, frame]
    rfl

/-- The height a decision fixes (R15). -/
theorem SetRec.decided_height (x : SetRec) (d : StapleDecision) (k : Option SkipReason) :
    (x.decided d k).height = some (if d = .staple ∨ d = .wait then x.thickness + 12 else x.thickness) := by
  cases d <;> rfl

theorem State.Rebins.order {s t : State} (h : s.Rebins t) : t.sets.order = s.sets.order := by rw [h.frame]

/-- Settles O44: the three ways on of a set that is not purged, and bin 0 for one that is. -/
theorem jogEndDecidesTheSet : Obligations.JogEndDecidesTheSet := by
  unfold Obligations.JogEndDecidesTheSet
  intro s start r x live jog current used unchosen
  have ends := exec_jogEnd live jog current used
  let v := s.jogged start
  have used_v : v.getRec r = some x := used
  by_cases purged : x.divert = some .purged
  · rw [if_pos purged] at ends
    have leaves : v.purgedEject r = ((((v.dropReservation r).modRec r fun x' =>
        { x' with result := x.purgedResult, height := some (x'.height.getD x'.thickness) }).retarget r .purged).awaitEject r .ejecting) := by
      unfold State.purgedEject
      rw [used_v]
      dsimp only
      rw [unchosen]
      rfl
    have frame : (v.purgedEject r).now = v.now ∧ (v.purgedEject r).path = v.path ∧ (v.purgedEject r).queue = v.queue ∧
        (v.purgedEject r).jobs = v.jobs ∧ (v.purgedEject r).stapler = v.stapler := by
      clear_value v
      simp
    have order : (v.purgedEject r).sets.order = v.sets.order := by
      rw [leaves, State.awaitEject_only]
      dsimp only
      rw [(State.retarget_rebins r .purged _).order, State.modRec_order]
      dsimp only
      rw [(v.dropReservation_rebins r).order]
    have state : (v.purgedEject r).compiler = { v.compiler with state := .ejecting } := by
      rw [leaves, State.awaitEject_only]
      simp
    obtain ⟨y, used_y, same⟩ := State.purgedEject_getRec used_v purged
    obtain ⟨now, path, queue, jobs, stapler⟩ := frame
    refine ⟨_, y, ends, now, congrArg Compiler.jog state, used_y, path, queue, jobs, order, ?_, ?_, ?_, ?_,
      fun other => absurd purged other, fun _ => ⟨?_, ?_, ?_, ?_, ?_, state, stapler⟩⟩ <;> rw [same]
    exact purged
  · rw [if_neg purged] at ends
    have conclude : ∃ y, v.Decides r x y (v.decideSet r x) ∧
        ((x.decide s.stapler).1 = .staple → y.state = .stapling ∧ (v.decideSet r x).compiler.state = .stapling ∧
          v.governed (v.decideSet r x) ∧ (v.decideSet r x).stapler = { s.stapler with
            state := .stapling, count := s.stapler.count - 1, drive := true, homeTimer := some v.now }) ∧
        ((x.decide s.stapler).1 = .wait → y.state = .stapleWait ∧ y.chosen = none ∧
          (v.decideSet r x).compiler.state = .stapleWait ∧ (v.decideSet r x).stapler = s.stapler ∧ (v.decideSet r x).stands .staples ∧
          (v.decideSet r x).bins = s.bins) ∧
        ((x.decide s.stapler).1 ≠ .staple → (x.decide s.stapler).1 ≠ .wait →
          y.state = (if y.chosen.isSome then .readyToEject else .held) ∧
          (y.chosen = none → (v.decideSet r x).delivery.compilerHold = some r) ∧
          (v.decideSet r x).compiler.state = .ejecting ∧ (v.decideSet r x).stapler = s.stapler) := by
      by_cases staple : (x.decide s.stapler).1 = .staple
      · obtain ⟨y, decides, -, state, compiler, governed, stapler⟩ := State.decideSet_staples used_v unchosen staple
        exact ⟨y, decides, fun _ => ⟨state, compiler, governed, stapler⟩, fun h => absurd (staple.symm.trans h) nofun,
          fun h => absurd staple h⟩
      by_cases wait : (x.decide s.stapler).1 = .wait
      · obtain ⟨y, decides, facts⟩ := State.decideSet_waits used_v unchosen wait
        exact ⟨y, decides, fun h => absurd h staple, fun _ => facts, fun _ h => absurd wait h⟩
      · obtain ⟨y, decides, -, facts⟩ := State.decideSet_ejects used_v unchosen staple wait
        exact ⟨y, decides, fun h => absurd h staple, fun h => absurd h wait, fun _ _ => facts⟩
    obtain ⟨y, decides, staples, waits, ejects⟩ := conclude
    obtain ⟨frame, own, record⟩ := decides
    obtain ⟨t, t_eq⟩ : ∃ t, t = v.decideSet r x := ⟨_, rfl⟩
    have height : y.height = some (if (x.decide s.stapler).1 = .staple ∨ (x.decide s.stapler).1 = .wait then x.thickness + 12
        else x.thickness) := by
      rw [record]
      exact x.decided_height (x.decide s.stapler).1 (x.decide s.stapler).2
    have compiler : t.compiler = { s.compiler with jog := none, state := t.compiler.state } := by
      rw [t_eq, frame]
      rfl
    have now : t.now = v.now := by
      rw [t_eq, frame]
    refine ⟨t.syncIdle, y, by rw [t_eq]; exact ends, now, ?_, by rw [t_eq]; exact own, ?_, ?_, ?_, ?_, ?_, ?_, ?_, ?_,
      fun _ => ⟨?_, ?_, ?_, fun staple => ?_, fun wait => ?_, fun staple wait => ?_⟩, fun h => absurd h purged⟩
    · exact congrArg Compiler.jog compiler
    · show t.path = _
      rw [t_eq, frame]
      rfl
    · show t.queue = _
      rw [t_eq, frame]
      rfl
    · show t.jobs = _
      rw [t_eq, frame]
      rfl
    · show t.sets.order = _
      rw [t_eq, frame]
      rfl
    · rw [record]; rfl
    · rw [record]; rfl
    · rw [record]; rfl
    · rw [record]; rfl
    · rw [record]; rfl
    · rw [record]; rfl
    · rw [record]; rfl
    · obtain ⟨state, compiling, governed, stapler⟩ := staples staple
      rw [← t_eq] at compiling governed stapler
      refine ⟨height.trans (by rw [if_pos (.inl staple)]), state, compiler.trans (by rw [compiling]), ?_, governed⟩
      exact stapler.trans (by rw [← now]; rfl)
    · obtain ⟨state, none_, compiling, stapler, stands, bins⟩ := waits wait
      rw [← t_eq] at compiling stapler stands bins
      exact ⟨height.trans (by rw [if_pos (.inr wait)]), state, none_.trans unchosen.symm, compiler.trans (by rw [compiling]), stapler,
        stands, bins⟩
    · obtain ⟨state, hold, compiling, stapler⟩ := ejects staple wait
      rw [← t_eq] at compiling stapler hold
      exact ⟨height.trans (by rw [if_neg (not_or.mpr ⟨staple, wait⟩)]), state, hold, compiler.trans (by rw [compiling]), stapler⟩

/-! ## The bin choice at the end of the jog -/

/-- The bin given to a set as its record goes on. -/
theorem State.Gives.record {v w t : State} {r : Fin 8} {x y : SetRec} {b : Fin 41} {d : Option DivertReason} (h : v.Gives r x b d w)
    (keeps : w.KeepsBin r y t) : y.chosen = some b ∧ y.divert = d ∧ (∀ k : Fin 41, k ≠ b → t.bins[k] = v.bins[k]) ∧
      t.bins[b] = v.bins[b].given x ∧ y.side = x.sideFrom v.bins[b] := by
  obtain ⟨z, used, same⟩ := keeps.own
  obtain rfl := Option.some.inj (used.symm.trans h.own)
  rw [keeps.bins]
  rw [same]
  exact ⟨rfl, rfl, h.bins, h.bin, rfl⟩

/-- Settles O48: the Bin Selector's choice for the decided set, carried to the end of the jog. -/
theorem binChoiceTakesTheFirstAdmissibleBin : Obligations.BinChoiceTakesTheFirstAdmissibleBin := by
  unfold Obligations.BinChoiceTakesTheFirstAdmissibleBin
  intro s start r x live jog current used unchosen part whole waits h admits
  have ends := exec_jogEnd live jog current used
  rw [if_neg whole] at ends
  let v := s.jogged start
  have used_v : v.getRec r = some x := used
  obtain ⟨y, decides, keeps⟩ : ∃ y, v.Decides r x y (v.decideSet r x) ∧ (v.binned r x).KeepsBin r y (v.decideSet r x) := by
    by_cases staple : (x.decide s.stapler).1 = .staple
    · obtain ⟨y, decides, keeps, -⟩ := State.decideSet_staples used_v unchosen staple
      exact ⟨y, decides, keeps⟩
    · obtain ⟨y, decides, keeps, -⟩ := State.decideSet_ejects used_v unchosen staple waits
      exact ⟨y, decides, keeps⟩
  obtain ⟨frame, own, record⟩ := decides
  let d := x.decide s.stapler
  obtain ⟨z, z_eq⟩ : ∃ z, z = x.decided d.1 d.2 := ⟨_, rfl⟩
  let u := v.recorded r x d
  have used_u : u.getRec r = some z := by
    rw [z_eq]
    exact State.setRec_getRec r _ v
  have height : z.height = some h := by
    rw [z_eq, SetRec.decided_height]
    refine congrArg some (if_congr ?_ rfl rfl)
    exact ⟨fun c => c.elim id fun w => absurd w waits, .inl⟩
  have selects : u.Selects r z (v.binned r x) := by
    have chosen : v.binned r x = u.selectBin r := State.binChoice_other used_u (by rw [z_eq]; exact part)
    rw [chosen]
    exact State.selectBin_selects used_u (by rw [z_eq]; exact unchosen)
  have admits_iff (b : Fin 41) : u.admits (z.height.getD 0) b = true ↔ admits b := by
    rw [height]
    exact s.admits_iff h b
  refine ⟨_, y, ends, own, by rw [record]; exact z_eq ▸ height, ?_⟩
  intro given scans
  have divert : z.divert = x.divert := by rw [z_eq]; rfl
  have broken : z.broken = x.broken := by rw [z_eq]; rfl
  have part_ : z.part = x.part := by rw [z_eq]; rfl
  have partBin : z.partBin = x.partBin := by rw [z_eq]; rfl
  have route : z.route = x.route := by rw [z_eq]; rfl
  have offset : z.offset = x.offset := by rw [z_eq]; rfl
  have gives_of (b : Fin 41) (e : Option DivertReason) (gives : u.Gives r z b e (v.binned r x)) : given b e := by
    obtain ⟨chosen, divert, others, bin, side⟩ := gives.record keeps
    rw [Bin.given, height, offset] at bin
    rw [SetRec.sideFrom, offset] at side
    exact ⟨chosen, divert, others, bin, side⟩
  have scans_of (group : Fin 41 → Prop) (moves : Option (Fin 32)) (scanned : u.Scans r z group moves (v.binned r x)) :
      scans group moves := by
    refine ⟨fun b here fits least => ?_, fun no => ?_⟩
    · obtain ⟨gives, routes⟩ := scanned.found b here ((admits_iff b).mpr fits) fun k h less => fun c => least k h less ((admits_iff k).mp c)
      rw [divert] at gives
      exact ⟨gives_of b _ gives, keeps.routes.trans routes⟩
    · have same := scanned.none_ fun b here c => no b here ((admits_iff b).mp c)
      obtain ⟨z', used_z, y_eq⟩ := keeps.own
      rw [same] at used_z
      obtain rfl := Option.some.inj (used_u.symm.trans used_z)
      refine ⟨?_, ?_, keeps.bins.trans (by rw [same]; rfl), keeps.routes.trans (by rw [same]; rfl)⟩
      · rw [y_eq]
        show z.chosen = none
        rw [z_eq]
        exact unchosen
      · rw [y_eq]
        exact divert
  unfold State.Selects at selects
  rw [divert, broken, part_, partBin, route] at selects
  by_cases carries : x.divert ≠ none
  · rw [if_pos carries] at selects ⊢
    exact gives_of _ _ selects
  rw [if_neg carries] at selects ⊢
  by_cases breaks : x.broken ≠ none
  · rw [if_pos breaks] at selects ⊢
    exact gives_of _ _ selects
  rw [if_neg breaks] at selects ⊢
  by_cases later : 2 ≤ x.part
  · rw [if_pos later] at selects ⊢
    exact scans_of _ _ selects
  rw [if_neg later] at selects ⊢
  revert selects
  cases x.route with
  | none => exact fun ⟨gives, latched⟩ => ⟨gives_of _ _ gives, keeps.flags _ latched⟩
  | default b => exact scans_of _ _
  | entry i first last policy generation =>
    cases policy with
    | fill => exact scans_of _ _
    | sequence =>
      intro selects
      by_cases current : s.routes.entries[i].generation = generation ∧ first ≤ s.routes.entries[i].cursor ∧
          s.routes.entries[i].cursor ≤ last
      · exact (if_pos current).mpr (scans_of _ _ ((if_pos current).mp selects))
      · exact (if_neg current).mpr (scans_of _ _ ((if_neg current).mp selects))

end Sys2Proof.Machine

/-! Split ejects (R18, R19, R70, R71). -/

namespace Sys2Proof.Machine

/-- A set's bin choice writes its bin, its divert reason and its side, and keeps a divert reason it carries (R91, R92). -/
theorem State.selectBin_getRec {s : State} {r : Fin 8} {x : SetRec} (used : s.getRec r = some x) :
    ∃ y, (s.selectBin r).getRec r = some y ∧ y = { x with chosen := y.chosen, divert := y.divert, side := y.side } ∧
      (x.divert.isSome → y.divert = x.divert) := by
  let goal (t : State) : Prop := ∃ y, t.getRec r = some y ∧ y = { x with chosen := y.chosen, divert := y.divert, side := y.side } ∧
      (x.divert.isSome → y.divert = x.divert)
  have same : goal s := ⟨x, used, rfl, fun _ => rfl⟩
  have scans : ∀ (h : Nat) (bins : List (Fin 41)) (moved : Fin 41 → State → State), (∀ b t, (moved b t).getRec r = t.getRec r) →
      goal (s.scan r h bins moved) := by
    intro h bins moved still
    obtain ⟨_, e⟩ | ⟨b, _, _, e⟩ := State.scan_cases r h bins moved s
    · rw [e]
      exact same
    · obtain ⟨side, chosen⟩ := State.choose_getRec r r b x s used
      rw [if_pos rfl] at chosen
      rw [e]
      exact ⟨_, (still b _).trans chosen, rfl, fun _ => rfl⟩
  have retargets : ∀ d, goal (s.retarget r d) := by
    intro d
    obtain ⟨side, e⟩ := State.retarget_getRec r r d x s used
    rw [if_pos rfl] at e
    refine ⟨_, e, rfl, fun carries => ?_⟩
    obtain ⟨d', h⟩ := Option.isSome_iff_exists.mp carries
    rw [h]
    rfl
  have still := fun h bins => scans h bins (fun _ t => t) fun _ _ => rfl
  show goal _
  unfold State.selectBin
  rw [used]
  dsimp only
  split
  · exact retargets _
  split
  · exact retargets _
  split
  · split
    · exact same
    · exact still _ _
  split
  · exact retargets .noRoute
  · exact still _ _
  · split
    · exact still _ _
    · unfold State.scanSequence
      dsimp only
      split
      · exact scans _ _ _ fun _ _ => rfl
      · exact still _ _

/-! ## Part 1's bin passed on -/

/-- A continuing part takes part 1's bin, and its divert reason where it carries none (R19). -/
def SetRec.passed (b : Fin 41) (d : Option DivertReason) (x : SetRec) : SetRec :=
  { x with partBin := some b, divert := x.divert.orElse fun _ => d }

theorem State.passTo_of {s : State} {k : Fin 8} {x : SetRec} {b : Fin 41} {d : Option DivertReason} (used : s.getRec k = some x)
    (held : x.state ≠ .held) (belt : x.state ≠ .onBelt) : s.passTo b d k = s.setRec k (x.passed b d) := by
  unfold State.passTo
  rw [used]
  dsimp only
  rw [if_neg belt, if_neg held]
  rfl

/-- The one later part of a set that has just been split (R19). -/
theorem SetTable.laterParts_one {t : SetTable} {c : Fin 8} {x : SetRec} (used : t.recs[c] = some x) (last : x.nextPart = none) :
    t.laterParts 8 (some c) = [c] := by
  simp only [SetTable.laterParts, used, last]

/-- What part 1 of a set just split passes on, and what a later part keeps to itself (R18, R19). -/
theorem State.passPartBin_split {s : State} {r c : Fin 8} {x z : SetRec} (used : s.getRec r = some x) (next : x.nextPart = some c)
    (used_c : s.getRec c = some z) (last : z.nextPart = none) (held : z.state ≠ .held) (belt : z.state ≠ .onBelt) :
    s.passPartBin r = match x.chosen with
      | some b => if x.part = 1 then s.setRec c (z.passed b x.divert) else s
      | none => s := by
  unfold State.passPartBin
  rw [used]
  dsimp only
  cases x.chosen with
  | none => rfl
  | some b =>
    dsimp only
    rw [next, SetTable.laterParts_one used_c last]
    split
    · exact State.passTo_of used_c held belt
    · rfl

/-! ## The split -/

theorem State.splitReady_of {s : State} {id : EntryName} {r c : Fin 8} {x : SetRec} (sheet : s.compiler.splitSheet = some id)
    (state : s.compiler.state = .collecting) (flight : s.compiler.inFlight = 0) (current : s.compiler.current = some r)
    (used : s.getRec r = some x) (free : s.sets.freeIndex = some c) : s.splitReady = some (r, x, c) := by
  unfold State.splitReady
  rw [State.currentRec_of current used, free, sheet, state, flight]
  rfl

/-- The part with its compiled part divided from what is still to come, before the bin choice (R18, R71). -/
def State.divided (r : Fin 8) (x : SetRec) (c : Fin 8) (s : State) : State :=
  let u := ((State.dropReservation r { s with compiler := { s.compiler with state := .splitEject, splitSheet := none } }).allocate c
    x.continuing).setRec r (x.ejected c).splitDecided
  { u with
    path := { u.path with list := u.path.list.map (PathEntry.rename r c) }
    binder := { u.binder with forming := if u.binder.forming = some r then some c else u.binder.forming } }

theorem State.splitEject_eq {s : State} (r : Fin 8) (x : SetRec) (c : Fin 8) (state : s.compiler.state = .collecting) :
    s.splitEject r x c = ((s.divided r x c).binChoice r).awaitEject r .splitEject := by
  have compiler : State.setCompiler .splitEject { s with compiler := { s.compiler with splitSheet := none } } =
      { s with compiler := { s.compiler with state := .splitEject, splitSheet := none } } :=
    if_neg fun h => absurd (state.symm.trans (show s.compiler.state = .stapleWait from h.1)) nofun
  unfold State.splitEject
  dsimp only
  rw [compiler]
  rfl

/-- A set's two parts as it is divided (R18, R71). -/
theorem State.divided_divides {s : State} {r c : Fin 8} {x : SetRec} (used : s.getRec r = some x) (free : s.getRec c = none) :
    let u := s.divided r x c
    u.getRec r = some (x.ejected c).splitDecided ∧ u.getRec c = some x.continuing ∧
    (∀ k : Fin 8, k ≠ r → k ≠ c → u.getRec k = s.getRec k) ∧ u.sets.order = s.sets.order ++ [c] ∧
    (∀ b : Fin 41, u.bins[b].fill = s.bins[b].fill ∧ u.bins[b].count = s.bins[b].count) ∧
    u.compiler = { s.compiler with state := .splitEject, splitSheet := none } ∧
    u.path = { s.path with list := s.path.list.map (PathEntry.rename r c) } ∧
    u.binder = { s.binder with forming := if s.binder.forming = some r then some c else s.binder.forming } ∧
    u.stapler = s.stapler ∧ u.queue = s.queue ∧ u.jobs = s.jobs := by
  have other : c ≠ r := by
    rintro rfl
    rw [free] at used
    cases used
  let v : State := { s with compiler := { s.compiler with state := .splitEject, splitSheet := none } }
  have drops := v.dropReservation_rebins r
  have recs (k : Fin 8) : (v.dropReservation r).getRec k = if k = r then some { x with chosen := none } else s.getRec k :=
    State.dropReservation_getRec r k x v used
  have frame := drops.frame
  obtain ⟨w, w_eq⟩ : ∃ w, w = (v.dropReservation r).allocate c x.continuing := ⟨_, rfl⟩
  have w_recs (k : Fin 8) : w.getRec k = if k = c then some x.continuing else (v.dropReservation r).getRec k := by
    rw [w_eq]
    exact State.setRec_getRec_ite c k x.continuing (v.dropReservation r)
  have own (k : Fin 8) : (s.divided r x c).getRec k = if k = r then some (x.ejected c).splitDecided else w.getRec k := by
    rw [w_eq]
    exact State.setRec_getRec_ite r k _ _
  have same : w = { v.dropReservation r with report := w.report, sets := ⟨w.sets.recs, s.sets.order ++ [c]⟩ } := by
    rw [w_eq, frame]
    rfl
  have divided : s.divided r x c = { w.setRec r (x.ejected c).splitDecided with
      path := { w.path with list := w.path.list.map (PathEntry.rename r c) }
      binder := { w.binder with forming := if w.binder.forming = some r then some c else w.binder.forming } } := by
    rw [w_eq]
    rfl
  refine ⟨(own r).trans (if_pos rfl), ?_, fun k k_r k_c => ?_, ?_, fun b => ?_, ?_, ?_, ?_, ?_, ?_, ?_⟩
  · rw [own, if_neg other, w_recs, if_pos rfl]
  · rw [own, if_neg k_r, w_recs, if_neg k_c, recs, if_neg k_r]
  · rw [divided, same]
    rfl
  · have bins : (s.divided r x c).bins = (v.dropReservation r).bins := by rw [divided, same]; rfl
    rw [bins, drops.bins b]
    exact ⟨rfl, rfl⟩
  · rw [divided, same, frame]
    rfl
  · rw [divided, same, frame]
  · rw [divided, same, frame]
  · rw [divided, same, frame]
    rfl
  · rw [divided, same, frame]
    rfl
  · rw [divided, same, frame]
    rfl

theorem exec_splitEjectStart {s : State} (live : s.live) {r c : Fin 8} {x : SetRec} (ready : s.splitReady = some (r, x, c)) :
    exec .splitEjectStart s = .next (s.splitEject r x c).syncIdle := by
  show execSplitEjectStart s = _
  rw [execSplitEjectStart, State.does_live live]
  refine congrArg (fun t : State => Host.Outcome.next t.syncIdle) ?_
  rw [ready]

/-- Settles O43: the two parts, the bin choice of the ejected one, and what it passes on. -/
theorem splitEjectDividesTheSet : Obligations.SplitEjectDividesTheSet := by
  unfold Obligations.SplitEjectDividesTheSet
  intro s id r x live sheet state flight current used forms ⟨k, free_k⟩
  obtain ⟨c, index⟩ : ∃ c, s.sets.freeIndex = some c := by
    cases h : s.sets.freeIndex with
    | some c => exact ⟨c, rfl⟩
    | none =>
      have := List.find?_eq_none.mp h k (List.mem_finRange k)
      rw [show s.sets.recs[k] = none from free_k] at this
      exact absurd rfl this
  have free : s.getRec c = none := s.sets.freeIndex_free index
  have start := exec_splitEjectStart live (State.splitReady_of sheet state flight current used index)
  rw [State.splitEject_eq r x c state] at start
  have different : c ≠ r := by
    rintro rfl
    rw [free] at used
    cases used
  obtain ⟨own, next, others, order, bins, compiler, path, binder, stapler, queue, jobs⟩ := State.divided_divides used free
  generalize s.divided r x c = u at *
  obtain ⟨y, own_y, same_y, keeps⟩ := State.selectBin_getRec own
  have next_z : (u.selectBin r).getRec c = some x.continuing := (State.selectBin_getRec_ne different u).trans next
  have state_x : x.continuing.state ≠ .held ∧ x.continuing.state ≠ .onBelt := by
    show x.state ≠ _ ∧ x.state ≠ _
    obtain h | h := forms <;> rw [h] <;> exact ⟨nofun, nofun⟩
  have passes := State.passPartBin_split own_y (by rw [same_y]; rfl) next_z rfl state_x.1 state_x.2
  have rebins := u.binChoice_rebins r
  obtain ⟨w, w_eq⟩ : ∃ w, w = u.binChoice r := ⟨_, rfl⟩
  rw [show (u.selectBin r).passPartBin r = w from w_eq.symm] at passes
  rw [← w_eq] at rebins start
  obtain ⟨z, z_eq⟩ : ∃ z, z = match y.chosen with
      | some b => if y.part = 1 then x.continuing.passed b y.divert else x.continuing
      | none => x.continuing := ⟨_, rfl⟩
  have recs : w.getRec r = some y ∧ w.getRec c = some z ∧ ∀ k, k ≠ r → k ≠ c → w.getRec k = u.getRec k := by
    have stay : (u.selectBin r).getRec r = some y ∧ (u.selectBin r).getRec c = some x.continuing ∧
        ∀ k, k ≠ r → k ≠ c → (u.selectBin r).getRec k = u.getRec k :=
      ⟨own_y, next_z, fun k h _ => State.selectBin_getRec_ne h u⟩
    rw [passes, z_eq]
    cases y.chosen with
    | none => exact stay
    | some b =>
      dsimp only
      split
      · refine ⟨(State.setRec_getRec_ne c r (Ne.symm different) _ _).trans own_y, State.setRec_getRec c _ _, fun k h h' => ?_⟩
        exact (State.setRec_getRec_ne c k h' _ _).trans (State.selectBin_getRec_ne h u)
      · exact stay
  obtain ⟨own_w, next_w, others_w⟩ := recs
  have waits (k : Fin 8) := State.awaitEject_getRec r k .splitEject y w own_w
  have only := w.awaitEject_only r .splitEject
  have frame := rebins.frame
  generalize w.awaitEject r .splitEject = t at *
  have part_y : y.part = x.ejectedPart := by rw [same_y]; rfl
  refine ⟨t.syncIdle, c, _, z, start, free, (waits r).trans (if_pos rfl), (waits c).trans ((if_neg different).trans next_w),
    fun k k_r k_c => ?_, ?_, ?_, ?_, fun whole some_ => ?_, fun later => ?_, ?_, ?_, ?_, ?_, ?_, ?_, fun b => ?_⟩
  · exact (waits k).trans ((if_neg k_r).trans ((others_w k k_r k_c).trans (others k k_r k_c)))
  · show t.sets.order = _
    rw [only, frame]
    exact order
  · dsimp only
    rw [same_y]
    rfl
  · rw [z_eq]
    cases y.chosen with
    | none => rfl
    | some b =>
      dsimp only
      split <;> rfl
  · obtain ⟨b, chosen⟩ := Option.isSome_iff_exists.mp (show y.chosen.isSome = true from some_)
    have one : y.part = 1 := by rw [part_y, SetRec.ejectedPart, if_pos whole]
    show z.partBin = y.chosen ∧ z.divert = y.divert
    rw [z_eq, chosen]
    dsimp only
    rw [if_pos one]
    refine ⟨rfl, ?_⟩
    show x.divert.orElse (fun _ => y.divert) = y.divert
    cases carried : x.divert with
    | none => rfl
    | some d =>
      have kept : y.divert = x.divert := keeps (by show x.divert.isSome = true; rw [carried]; rfl)
      rw [kept, carried]
      rfl
  · have alone : z = x.continuing := by
      rw [z_eq]
      obtain part | none_ := later
      · have many : y.part ≠ 1 := by
          rw [part_y, SetRec.ejectedPart, if_neg (by omega)]
          omega
        cases y.chosen with
        | none => rfl
        | some b => exact if_neg many
      · rw [show y.chosen = none from none_]
    rw [alone]
    exact ⟨rfl, rfl⟩
  · show t.compiler = _
    rw [only, frame]
    show { u.compiler with state := .splitEject } = _
    rw [compiler]
  · show t.path = _
    rw [only, frame]
    exact path
  · show t.binder = _
    rw [only, frame]
    exact binder
  · show t.stapler = _
    rw [only, frame]
    exact stapler
  · show t.queue = _
    rw [only, frame]
    exact queue
  · show t.jobs = _
    rw [only, frame]
    exact jobs
  · have same : t.bins = w.bins := by rw [only]
    show t.bins[b].fill = _ ∧ t.bins[b].count = _
    rw [same, rebins.bins b]
    exact bins b

end Sys2Proof.Machine

/-! Held sets diverted (R92, R132 to R134). -/

namespace Sys2Proof.Machine

/-- A bin given changes the records and the bins alone (R95). -/
theorem State.giveBin_only (s : State) (r : Fin 8) (b : Fin 41) (x : SetRec) (d : Option DivertReason) :
    s.giveBin r b x d = { s with
      sets := { s.sets with recs := (s.giveBin r b x d).sets.recs }, bins := (s.giveBin r b x d).bins } := by
  have there : ((s.setRec r { x with chosen := some b, divert := d }).reserve b (x.height.getD 0)).getRec r =
      some { x with chosen := some b, divert := d } := State.setRec_getRec r _ s
  unfold State.giveBin State.takeSide
  rw [there]
  dsimp only
  split <;> rfl

theorem State.giveBin_getRec_ne {s : State} {r k : Fin 8} (other : k ≠ r) (b : Fin 41) (x : SetRec) (d : Option DivertReason) :
    (s.giveBin r b x d).getRec k = s.getRec k := by
  let u : State := (s.setRec r { x with chosen := some b, divert := d }).reserve b (x.height.getD 0)
  have there : u.getRec r = some { x with chosen := some b, divert := d } := State.setRec_getRec r _ s
  obtain ⟨side, e⟩ := State.takeSide_getRec r k b _ u there
  exact e.trans ((if_neg other).trans (State.setRec_getRec_ne r k other _ s))

/-- What a bin found leaves of the holds (R131, R132). -/
def Delivery.found (r : Fin 8) (d : Delivery) : Delivery :=
  { d with
    holdTimer := if d.shelf = .occupied ∧ d.shelfSet = some r then none else d.holdTimer
    compilerHold := if d.compilerHold = some r then none else d.compilerHold }

theorem State.foundBin_of {s : State} {r : Fin 8} {x : SetRec} (used : s.getRec r = some x) :
    s.foundBin r = { s.setRec r { x with state := .readyToEject } with delivery := s.delivery.found r } := by
  unfold State.foundBin State.modRec
  rw [used]
  rfl

/-- A set given a bin has found it (R131, R132). -/
theorem State.giveBin_found {s : State} {r : Fin 8} {x : SetRec} {b : Fin 41} {d : Option DivertReason} :
    let t := (s.giveBin r b x d).foundBin r
    t.getRec r = some { x with chosen := some b, divert := d, side := x.sideFrom s.bins[b], state := .readyToEject } ∧
    (∀ k : Fin 8, k ≠ r → t.getRec k = s.getRec k) ∧ t.bins[b] = s.bins[b].given x ∧ (∀ k : Fin 41, k ≠ b → t.bins[k] = s.bins[k]) ∧
    t = { s with sets := { s.sets with recs := t.sets.recs }, bins := t.bins, delivery := s.delivery.found r } := by
  obtain ⟨own, bin, bins⟩ := s.giveBin_gives r b x d
  have only := s.giveBin_only r b x d
  have others (k : Fin 8) (other : k ≠ r) := State.giveBin_getRec_ne (s := s) other b x d
  have found := State.foundBin_of own
  generalize s.giveBin r b x d = u at *
  rw [found]
  refine ⟨State.setRec_getRec r _ u, fun k other => (State.setRec_getRec_ne r k other _ u).trans (others k other), bin, bins, ?_⟩
  rw [only]
  rfl

/-- An unsplit set without a bin and without a divert reason is diverted to bin 0 (R92, R132). -/
theorem State.divertHeld_of {s : State} {r : Fin 8} {x : SetRec} (d : DivertReason) (used : s.getRec r = some x) (carries : x.divert = none)
    (unchosen : x.chosen = none) (part : x.part ≠ 1) : s.divertHeld r d = (s.giveBin r 0 x (some d)).foundBin r := by
  have gives := State.retarget_gives d used unchosen
  rw [carries] at gives
  unfold State.divertHeld
  rw [gives]
  have found := (State.giveBin_found (s := s) (r := r) (x := x) (b := 0) (d := some d)).1
  exact State.passPartBin_other found part

theorem exec_holdTimerExpiry {s : State} {start : Nat} (live : s.live) (timer : s.delivery.holdTimer = some start) :
    exec .holdTimerExpiry s = .next (s.reach (start + s.delivery.holdLimit * 1000)).holdExpires.syncIdle := by
  show execHoldTimerExpiry s = _
  rw [execHoldTimerExpiry, State.does_live live]
  refine congrArg (fun t : State => Host.Outcome.next t.syncIdle) ?_
  rw [timer]

/-- Settles O26: both ways to divert the shelf set end in the same giving of bin 0. -/
theorem heldShelfSetsAreDivertedToBinZero : Obligations.HeldShelfSetsAreDivertedToBinZero := by
  unfold Obligations.HeldShelfSetsAreDivertedToBinZero
  intro s r x live shelf set used carries unchosen whole diverted
  have part : x.part ≠ 1 := by omega
  have on : s.delivery.onShelf = some r := (if_pos shelf).trans set
  have delivery : s.delivery.found r = { s.delivery with
      holdTimer := none, compilerHold := if s.delivery.compilerHold = some r then none else s.delivery.compilerHold } := by
    unfold Delivery.found
    rw [if_pos ⟨shelf, set⟩]
  have meets (u t : State) (reason : DivertReason) (sets : u.sets = s.sets) (bins : u.bins = s.bins) (deliveries : u.delivery = s.delivery)
      (sets' : t.sets = ((u.giveBin r 0 x (some reason)).foundBin r).sets) (bins' : t.bins = ((u.giveBin r 0 x (some reason)).foundBin r).bins)
      (deliveries' : t.delivery = ((u.giveBin r 0 x (some reason)).foundBin r).delivery) : diverted reason t := by
    obtain ⟨own, others, bin, rest, only⟩ := State.giveBin_found (s := u) (r := r) (x := x) (b := 0) (d := some reason)
    generalize (u.giveBin r 0 x (some reason)).foundBin r = v at *
    have recs (k : Fin 8) : t.getRec k = v.getRec k := by unfold State.getRec; rw [sets']
    have before (k : Fin 8) : u.getRec k = s.getRec k := by unfold State.getRec; rw [sets]
    refine ⟨⟨_, (recs r).trans own, rfl⟩, fun k other => ?_, ?_, ?_, ?_, fun b other => ?_⟩
    · exact (recs k).trans ((others k other).trans (before k))
    · rw [sets', only]
      show u.sets.order = _
      rw [sets]
    · rw [deliveries', only]
      show u.delivery.found r = _
      rw [deliveries, delivery]
    · rw [bins', bin, bins]
      rfl
    · rw [bins', rest b other, bins]
  refine ⟨fun tag held => ?_, fun start timer => ?_⟩
  · have released : exec (.releaseHold tag []) s = .next (s.frameTaken.divertHeld r .released).syncIdle := by
      have answered := exec_control (c := .releaseHold tag []) (s := s) (tag := tag) (f := fun s => match s.heldSet with
        | some r => s.divertHeld r .released
        | none => s.refuseControl tag) rfl live
      have heldSet : s.frameTaken.heldSet = some r := by
        unfold State.heldSet State.heldOnShelf
        rw [show s.frameTaken.delivery.onShelf = some r from on]
        dsimp only
        rw [show s.frameTaken.getRec r = some x from used]
        dsimp only
        rw [if_pos held]
        rfl
      rw [answered]
      rw [heldSet]
    rw [State.divertHeld_of (s := s.frameTaken) .released used carries unchosen part] at released
    refine ⟨_, released, meets s.frameTaken _ .released rfl rfl rfl rfl rfl rfl, ?_⟩
    obtain ⟨-, -, -, -, only⟩ := State.giveBin_found (s := s.frameTaken) (r := r) (x := x) (b := 0) (d := some .released)
    rw [only]
    rfl
  · have expires := exec_holdTimerExpiry live timer
    obtain ⟨u, u_eq⟩ : ∃ u, u = s.reach (start + s.delivery.holdLimit * 1000) := ⟨_, rfl⟩
    have used_u : u.getRec r = some x := by rw [u_eq]; exact used
    have diverts := State.divertHeld_of .holdTimeout used_u carries unchosen part
    have expired : u.holdExpires = ((u.giveBin r 0 x (some .holdTimeout)).foundBin r).notify
        ⟨.expired, some x.slot.val, some x.jobNumber, some x.setOrdinal, some x.part⟩ none := by
      unfold State.holdExpires
      rw [show u.delivery.onShelf = some r by rw [u_eq]; exact on]
      dsimp only
      rw [used_u]
      dsimp only
      rw [diverts]
    rw [← u_eq, expired] at expires
    have met (t : State) := meets u t .holdTimeout (by rw [u_eq]; rfl) (by rw [u_eq]; rfl) (by rw [u_eq]; rfl)
    obtain ⟨-, -, -, -, only⟩ := State.giveBin_found (s := u) (r := r) (x := x) (b := 0) (d := some .holdTimeout)
    generalize (u.giveBin r 0 x (some .holdTimeout)).foundBin r = v at *
    refine ⟨_, expires, met _ rfl rfl rfl, ?_, ?_⟩
    · exact (State.notify_latched _ _ _ v).mpr (.inl rfl)
    · rw [only, u_eq]
      rfl

end Sys2Proof.Machine

/-! SETTINGS writes (R152 to R154, R170). -/

namespace Sys2Proof.Machine

/-! ## The values written -/

/-- A setting's value as it is stored (R170). -/
def settingClamped (i x : Nat) : Nat :=
  if i = 0 then max 1 (min 16 x) else if i = 1 then max 1 (min 600 x) else if i = 2 then min 1000 x
  else if i = 3 then min 255 x else if i = 4 then max 1 (min 127 x) else if i = 7 then x % 64
  else if i = 9 then min 127 x else if i = 11 then max 1 (min 41 x) else x

/-- One setting written (R170). -/
theorem State.writeSetting_settings {i x : Nat} (s : State) (inside : i < 12) (ok : settingOk i x = true) :
    (s.writeSetting i x).settings = s.settings.set i (settingClamped i x) := by
  have flag (x : Nat) (h : x ≤ 1) : (decide (x = 1)).toNat = x := by
    obtain rfl | rfl : x = 0 ∨ x = 1 := by omega
    · rfl
    · rfl
  match i, inside with
  | 0, _ => rfl
  | 1, _ => rfl
  | 2, _ => rfl
  | 3, _ => rfl
  | 4, _ => rfl
  | 5, _ =>
    have small : x ≤ 1 := of_decide_eq_true ok
    obtain rfl | rfl : x = 0 ∨ x = 1 := by omega
    · rfl
    · rfl
  | 6, _ =>
    have small : x ≤ 40 := of_decide_eq_true ok
    have bin : (binOf x).val = x := by rw [binOf, dif_pos (by omega)]
    show [_, _, _, _, _, _, (binOf x).val, _, _, _, _, _] = _
    rw [bin]
    rfl
  | 7, _ => rfl
  | 8, _ =>
    show [_, _, _, _, _, _, _, _, (decide (x = 1)).toNat, _, _, _] = _
    rw [flag x (of_decide_eq_true ok)]
    rfl
  | 9, _ => rfl
  | 10, _ =>
    show [_, _, _, _, _, _, _, _, _, _, (decide (x = 1)).toNat, _] = _
    rw [flag x (of_decide_eq_true ok)]
    rfl
  | 11, _ => rfl

theorem State.settings_length (s : State) : s.settings.length = 12 := rfl

/-- The settings written one after the other (R170). -/
theorem State.writeSettings_settings (i : Nat) (xs : List Nat) (s : State) (room : i + xs.length ≤ 12) (ok : settingsOk i xs = true) :
    (∀ k x, xs[k]? = some x → (State.writeSettings i xs s).settings[i + k]? = some (settingClamped (i + k) x)) ∧
    (∀ j, j < i ∨ i + xs.length ≤ j → (State.writeSettings i xs s).settings[j]? = s.settings[j]?) := by
  induction xs generalizing i s with
  | nil => exact ⟨fun k x h => by simp at h, fun _ _ => rfl⟩
  | cons x xs ih =>
    rw [settingsOk, Bool.and_eq_true] at ok
    rw [List.length_cons] at room
    obtain ⟨written, kept⟩ := ih (i + 1) (s.writeSetting i x) (by omega) ok.2
    have one := s.writeSetting_settings (i := i) (x := x) (by omega) ok.1
    refine ⟨fun k y h => ?_, fun j outside => ?_⟩
    · cases k with
      | zero =>
        obtain rfl : x = y := by simpa using h
        refine (kept i (.inl (by omega))).trans ?_
        rw [one, List.getElem?_set_self (by rw [State.settings_length]; omega)]
        rfl
      | succ k =>
        rw [show i + (k + 1) = i + 1 + k by omega]
        exact written k y h
    · rw [List.length_cons] at outside
      refine (kept j (by omega)).trans ?_
      rw [one, List.getElem?_set_ne (by omega)]

/-! ## What a write leaves -/

/-- `t` is `s` with settings rewritten, no owner having acted (R170). -/
def State.Resets (s t : State) : Prop := t = { s with
  report := { s.report with gov := { t.report.gov with
    comb := s.report.gov.comb, raised := s.report.gov.raised, timer := s.report.gov.timer } }
  run := { s.run with standbyDelay := t.run.standbyDelay }
  queue := { s.queue with watermark := t.queue.watermark }
  stapler := { s.stapler with low := t.stapler.low }
  routes := { s.routes with unmatched := t.routes.unmatched, defaultBin := t.routes.defaultBin }
  delivery := { s.delivery with holdLimit := t.delivery.holdLimit }
  qualCount := t.qualCount }

theorem State.writeSettings_resets (i : Nat) (xs : List Nat) (s : State) : s.Resets (State.writeSettings i xs s) := by
  induction xs generalizing i s with
  | nil => exact rfl
  | cons x xs ih =>
    have one : s.Resets (s.writeSetting i x) := by
      unfold State.writeSetting
      split <;> rfl
    have rest := ih (i + 1) (s.writeSetting i x)
    show s.Resets (State.writeSettings (i + 1) xs (s.writeSetting i x))
    unfold State.Resets at *
    rw [rest]
    rw [one]

/-! ## The governor -/

/-- Raised flips, and GOVERNOR with it (R153). -/
theorem State.governorExpires_stands (s : State) (x : Reason) : State.stands x { s with report := s.report.governorExpires } ↔
    if x = .governor then s.report.gov.raised = false else s.stands x := by
  refine (State.setReason_stands .governor x _ { s with report := { s.report with gov := _ } }).trans ?_
  split
  · simp
  · exact Iff.rfl

/-- The timer is past its time, or runs towards a drop that no longer waits (R154). -/
def Governor.expires (now : Nat) (g : Governor) : Prop :=
  ∃ since, g.timer = some since ∧ ((g.raised = true ∧ g.wait = false) ∨ g.d * 100 ≤ now - since)

theorem Governor.expires_iff (now : Nat) (g : Governor) :
    (g.timer.isSome && ((g.raised && !g.wait) || g.d * 100 ≤ elapsed now g.timer)) = true ↔ g.expires now := by
  unfold Governor.expires
  cases g.timer with
  | none => simp
  | some since =>
    simp only [elapsed, Option.isSome_some, Bool.true_and, Bool.or_eq_true, Bool.and_eq_true, Bool.not_eq_true', Option.some.injEq,
      exists_eq_left']
    exact or_congr Iff.rfl decide_eq_true_iff

/-- `t` is what the governor makes of the settings written in `s` (R152 to R154): `touched` are writes of its own. -/
structure State.GovernorActs (s : State) (touched : Prop) (t : State) : Prop where
  combines : t.report.gov.comb = true ↔ t.combines
  reason : s.governorReason t
  follows : t.report.gov.comb ≠ s.report.gov.comb ∨ ¬ touched → s.report.gov.follows s.now t.report.gov
  expires : t.report.gov.comb = s.report.gov.comb → touched → s.report.gov.expires s.now →
    t.report.gov = { s.report.gov with raised := !s.report.gov.raised, timer := none }
  stays : t.report.gov.comb = s.report.gov.comb → touched → ¬ s.report.gov.expires s.now → t.report.gov = s.report.gov

/-- The governor after a write of its settings, or of others (R154, R170). -/
def State.governorTold (touched : Bool) (s : State) : State :=
  if touched then { s with report := s.report.governorWritten s.govCond s.now } else s.recombine

theorem State.recombine_follows (s : State) : s.report.gov.follows s.now s.recombine.report.gov := Report.recombine_follows _ _ _

theorem State.recombine_comb (s : State) : s.recombine.report.gov.comb = s.report.gov.combine s.govCond := by
  show (s.report.recombine s.govCond s.now).gov.comb = _
  rw [Report.recombine_settings]

theorem State.governorTold_acts (touched : Bool) (s : State) : s.GovernorActs (touched = true) (s.governorTold touched) := by
  obtain ⟨combines, follows, reason⟩ := s.recombine_governed
  cases touched with
  | false => exact ⟨combines, reason, fun _ => follows, nofun, nofun⟩
  | true =>
    by_cases changes : s.report.gov.combine s.govCond = s.report.gov.comb
    · have settled : s.report.gov.comb = true ↔ s.combines := by rw [← changes]; exact s.combine_iff
      have told : s.governorTold true = if s.report.gov.timer.isSome && ((s.report.gov.raised && !s.report.gov.wait) ||
          s.report.gov.d * 100 ≤ elapsed s.now s.report.gov.timer) then { s with report := s.report.governorExpires } else s := by
        have same : s.governorTold true = { s with report := s.report.governorWritten s.govCond s.now } := if_pos rfl
        rw [same, Report.governorWritten, if_neg (not_not.mpr changes)]
        split <;> rfl
      by_cases late : s.report.gov.expires s.now
      · rw [told, if_pos ((Governor.expires_iff _ _).mpr late)]
        have stands := State.governorExpires_stands s .governor
        rw [if_pos rfl] at stands
        refine ⟨settled, ⟨fun _ => stands.trans ?_, fun h => ?_⟩, fun h => h.elim (absurd rfl) (absurd rfl), fun _ _ _ => rfl,
          fun _ _ h => absurd late h⟩
        · show _ ↔ (!s.report.gov.raised) = true
          simp
        · have h : (!s.report.gov.raised) = s.report.gov.raised := h
          simp at h
      · rw [told, if_neg fun h => late ((Governor.expires_iff _ _).mp h)]
        exact ⟨settled, ⟨fun h => absurd rfl h, fun _ => Iff.rfl⟩, fun h => h.elim (absurd rfl) (absurd rfl), fun _ _ h => absurd h late,
          fun _ _ _ => rfl⟩
    · have told : s.governorTold true = s.recombine := by
        have same : s.governorTold true = { s with report := s.report.governorWritten s.govCond s.now } := if_pos rfl
        rw [same, Report.governorWritten, if_pos changes]
        rfl
      have differs : s.recombine.report.gov.comb ≠ s.report.gov.comb := by
        rw [State.recombine_comb]
        exact changes
      rw [told]
      exact ⟨combines, reason, fun _ => follows, fun h => absurd h differs, fun h => absurd h differs⟩

theorem State.governorTold_only (touched : Bool) (s : State) : s.governorTold touched = { s with
    report := { s.report with
      feed := (s.governorTold touched).report.feed
      gov := { s.report.gov with
        comb := (s.governorTold touched).report.gov.comb, raised := (s.governorTold touched).report.gov.raised
        timer := (s.governorTold touched).report.gov.timer } } } := by
  have only : s.recombine = { s with
      report := { s.report with
        feed := s.recombine.report.feed
        gov := { s.report.gov with
          comb := s.recombine.report.gov.comb, raised := s.recombine.report.gov.raised
          timer := s.recombine.report.gov.timer } } } := by
    have settings := Report.recombine_settings s.govCond s.now s.report
    have report := Report.recombine_only s.govCond s.now s.report
    have comb := s.recombine_comb
    show ({ s with report := s.report.recombine s.govCond s.now } : State) = _
    rw [comb]
    refine congrArg (fun p => ({ s with report := p } : State)) (report.trans ?_)
    rw [settings]
    rfl
  unfold State.governorTold
  split
  · unfold Report.governorWritten
    split
    · exact only
    split <;> rfl
  · exact only

theorem State.governorTold_stands {touched : Bool} {x : Reason} (other : x ≠ .governor) (s : State) :
    (s.governorTold touched).stands x ↔ s.stands x := by
  unfold State.governorTold
  split
  · unfold Report.governorWritten
    split
    · exact State.recombine_stands x s other
    split
    · exact (State.governorExpires_stands s x).trans (by rw [if_neg other])
    · exact Iff.rfl
  · exact State.recombine_stands x s other

end Sys2Proof.Machine

/-! A SETTINGS write as a whole (R30, R129, R152 to R154, R170). -/

namespace Sys2Proof.Machine

theorem tableBody_ne_nil {α : Type} {entries : List Byte → Option (List α)} {rest : List Byte} {start : Nat} {xs : List α}
    (body : tableBody entries rest = some (start, xs)) : xs ≠ [] := by
  unfold tableBody at body
  split at body
  · cases body
  split at body
  · cases body
    exact nofun
  · cases body

/-- Whether a write touches the governor's own settings (R154). -/
def governorTouched (start n : Nat) : Bool := (List.range 5).any fun i => covers start n (7 + i)

theorem governorTouched_iff {start n : Nat} (some_ : 0 < n) : governorTouched start n = true ↔ start ≤ 11 ∧ 7 < start + n := by
  simp only [governorTouched, List.any_eq_true, List.mem_range, covers, Bool.and_eq_true, decide_eq_true_iff]
  constructor
  · rintro ⟨i, small, low, high⟩
    omega
  · rintro ⟨low, high⟩
    exact ⟨max start 7 - 7, by omega, by omega, by omega⟩

/-- The settings of the part are read off a few fields. -/
theorem State.settings_of_rebins {s t : State} (h : s.Rebins t) : t.settings = s.settings := by
  have gov := h.tells.gov
  unfold State.settings
  rw [gov, h.frame]

theorem State.settings_of_governorTold (touched : Bool) (s : State) : (s.governorTold touched).settings = s.settings := by
  rw [State.governorTold_only]
  rfl

/-- The owners of the settings act, in turn: the queue, the governor and the hold timer (R170). -/
theorem State.settingsWritten_eq (start n : Nat) (s : State) : s.settingsWritten start n =
    let w := s.syncQueue.governorTold (governorTouched start n)
    if covers start n 1 && w.delivery.holdDue w.now then w.holdExpires else w := rfl

theorem State.settingsWritten_rebins (start n : Nat) (s : State) :
    (s.syncQueue.governorTold (governorTouched start n)).Rebins (s.settingsWritten start n) := by
  rw [State.settingsWritten_eq]
  exact .ite (State.holdExpires_rebins _) (.refl _)

/-- Without a hold timer no set is diverted (R129). -/
theorem State.settingsWritten_of_no_timer (start n : Nat) {s : State} (none_ : s.delivery.holdTimer = none) :
    s.settingsWritten start n = s.syncQueue.governorTold (governorTouched start n) := by
  have due : (s.syncQueue.governorTold (governorTouched start n)).delivery.holdDue
      (s.syncQueue.governorTold (governorTouched start n)).now = false := by
    rw [State.governorTold_only]
    show (s.delivery.holdTimer.isSome && _) = false
    rw [none_]
    rfl
  rw [State.settingsWritten_eq]
  exact if_neg (by rw [due, Bool.and_false]; exact nofun)

/-- Settles O21: the values written, and each owner's act. -/
theorem settingsWriteStoresClampedValues : Obligations.SettingsWriteStoresClampedValues := by
  unfold Obligations.SettingsWriteStoresClampedValues
  intro s tag rest start xs live op body room range
  have ok : settingsOk start xs = true := by
    rw [settingsOk_iff]
    exact fun k x h => (settingOk_iff _ _).mpr (range k x h)
  have some_ : 0 < xs.length := List.length_pos_iff.mpr (tableBody_ne_nil body)
  have taken := exec_tableWrite (c := .settingsWrite tag rest) (write := fun start xs s =>
    (State.writeSettings start xs s).settingsWritten start xs.length) rfl live op body
    (by rw [Bool.and_eq_true, decide_eq_true_iff]; exact ⟨room, ok⟩)
  obtain ⟨u, u_eq⟩ : ∃ u, u = State.writeSettings start xs s.frameTaken := ⟨_, rfl⟩
  have resets : s.frameTaken.Resets u := by
    rw [u_eq]
    exact State.writeSettings_resets start xs _
  obtain ⟨written, kept⟩ := State.writeSettings_settings start xs s.frameTaken room ok
  rw [← u_eq] at written kept
  rw [show State.writeSettings start xs s.frameTaken = u from u_eq.symm] at taken
  have rebins := State.settingsWritten_rebins start xs.length u
  have still := State.settingsWritten_of_no_timer start xs.length (s := u)
  have touch := governorTouched_iff (start := start) some_
  generalize governorTouched start xs.length = touched_ at *
  have queue := u.syncQueue_stands
  obtain ⟨v, v_eq⟩ : ∃ v, v = u.syncQueue := ⟨_, rfl⟩
  have v_only : v = { u with report := { u.report with feed := v.report.feed } } := by rw [v_eq]; rfl
  have v_governor : v.stands .governor ↔ s.stands .governor := by
    rw [v_eq, State.syncQueue]
    refine (State.setReason_stands .queue .governor _ u).trans ?_
    rw [if_neg nofun, State.stands, resets]
    exact Iff.rfl
  rw [← v_eq] at rebins still queue
  have acts := v.governorTold_acts touched_
  have w_only := v.governorTold_only touched_
  have w_stands : (v.governorTold touched_).stands .queue ↔ v.stands .queue := State.governorTold_stands (show Reason.queue ≠ .governor from nofun) v
  have w_settings := State.settings_of_governorTold touched_ v
  generalize v.governorTold touched_ = w at *
  obtain ⟨t, t_eq⟩ : ∃ t, t = u.settingsWritten start xs.length := ⟨_, rfl⟩
  rw [← t_eq] at rebins still
  rw [show u.settingsWritten start xs.length = t from t_eq.symm] at taken
  have gov : t.report.gov = w.report.gov := rebins.tells.gov
  have settings : t.settings = u.settings := (State.settings_of_rebins rebins).trans (w_settings.trans (by rw [v_only]; rfl))
  have v_gov : v.report.gov = u.report.gov := by rw [v_only]
  have own : u.report.gov.comb = s.report.gov.comb ∧ u.report.gov.raised = s.report.gov.raised ∧
      u.report.gov.timer = s.report.gov.timer := by
    rw [resets]
    exact ⟨rfl, rfl, rfl⟩
  obtain ⟨own_comb, own_raised, own_timer⟩ := own
  have before : ({ t.report.gov with comb := s.report.gov.comb, raised := s.report.gov.raised, timer := s.report.gov.timer } : Governor) =
      v.report.gov := by
    rw [gov, w_only, ← own_comb, ← own_raised, ← own_timer, v_gov]
  have now : v.now = s.now := by
    rw [v_only, resets]
    rfl
  refine ⟨t.syncIdle, taken, fun k x h => ?_, fun i outside => ?_, ?_, ⟨?_, ⟨fun differs => ?_, fun same => ?_⟩, ?_, ?_, ?_⟩, ?_, fun none_ => ?_⟩
  · exact (congrArg (fun l : List Nat => l[start + k]?) settings).trans (written k x h)
  · exact (congrArg (fun l : List Nat => l[i]?) settings).trans (kept i outside)
  · have same : t.queue = u.queue := by
      rw [rebins.frame, w_only, v_only]
    refine (rebins.tells.reasons .queue nofun).trans (w_stands.trans (queue.trans ?_))
    show _ ↔ t.queue.watermark ≤ t.queue.entries.length ∨ 0 < t.queue.debt
    rw [same]
  · exact (iff_of_eq (congrArg (fun g : Governor => g.comb = true) gov)).trans (acts.combines.trans rebins.combines.symm)
  · have differs : t.report.gov.raised ≠ s.report.gov.raised := differs
    show t.stands .governor ↔ t.report.gov.raised = true
    rw [gov] at differs ⊢
    exact (rebins.tells.reasons .governor nofun).trans (acts.reason.1 (by rw [v_gov, own_raised]; exact differs))
  · have same : t.report.gov.raised = s.report.gov.raised := same
    show t.stands .governor ↔ s.stands .governor
    rw [gov] at same
    exact (rebins.tells.reasons .governor nofun).trans
      ((acts.reason.2 (by rw [v_gov, own_raised]; exact same)).trans v_governor)
  · intro changes
    show Governor.follows s.now { t.report.gov with
      comb := s.report.gov.comb, raised := s.report.gov.raised, timer := s.report.gov.timer } t.report.gov
    rw [before, gov, ← now]
    refine acts.follows (changes.imp (fun h => ?_) fun h => fun c => h (touch.mp c))
    rw [v_gov, own_comb, ← gov]
    exact h
  · intro same touched late
    have late : Governor.expires s.now { t.report.gov with
      comb := s.report.gov.comb, raised := s.report.gov.raised, timer := s.report.gov.timer } := late
    show t.report.gov = ({ ({ t.report.gov with
      comb := s.report.gov.comb, raised := s.report.gov.raised, timer := s.report.gov.timer } : Governor) with
        raised := !s.report.gov.raised, timer := none } : Governor)
    rw [before] at late ⊢
    rw [← now] at late
    rw [gov, ← own_raised, ← v_gov]
    refine acts.expires ?_ (touch.mpr touched) late
    rw [v_gov, own_comb, ← gov]
    exact same
  · intro same touched early
    have early : ¬ Governor.expires s.now { t.report.gov with
      comb := s.report.gov.comb, raised := s.report.gov.raised, timer := s.report.gov.timer } := early
    show t.report.gov = ({ t.report.gov with
      comb := s.report.gov.comb, raised := s.report.gov.raised, timer := s.report.gov.timer } : Governor)
    rw [before] at early ⊢
    rw [← now] at early
    rw [gov]
    refine acts.stays ?_ (touch.mpr touched) early
    rw [v_gov, own_comb, ← gov]
    exact same
  · have queue : w.report.link.queue = s.report.link.queue := by
      rw [w_only, v_only, resets]
      rfl
    have notices := rebins.tells.notices rfl
    rw [queue] at notices
    exact notices
  · have plain : t = w := still (by rw [resets]; exact none_)
    have frame : w = { s.frameTaken with
        report := { s.frameTaken.report with feed := w.report.feed, gov := w.report.gov }
        run := { s.frameTaken.run with standbyDelay := w.run.standbyDelay }
        queue := { s.queue with watermark := w.queue.watermark }
        stapler := { s.stapler with low := w.stapler.low }
        routes := { s.routes with unmatched := w.routes.unmatched, defaultBin := w.routes.defaultBin }
        delivery := { s.delivery with holdLimit := w.delivery.holdLimit }
        qualCount := w.qualCount } := by
      rw [w_only, v_only]
      dsimp only
      rw [resets]
      rfl
    rw [plain, State.syncIdle_eq]
    rw [frame]

end Sys2Proof.Machine

namespace Sys2Proof.Machine

/-! ## The idle timer, but for its own rule

Every command leaves the idle timer of RUNNING to the rule at the end of a command (R145): it passes the timer on as it found it, or leaves
the state. -/

/-- The idle timer and the operating state are as before, or the state is not RUNNING. -/
def State.idleKept (s t : State) : Prop := t.run.idle = s.run.idle ∧ t.run.op = s.run.op ∨ t.run.op ≠ .running

/-- The idle timer is as before, or the state is not RUNNING. -/
def State.idlePassed (s t : State) : Prop := t.run.idle = s.run.idle ∨ t.run.op ≠ .running

theorem State.idleKept.passed {s t : State} (h : s.idleKept t) : s.idlePassed t := h.imp_left And.left

theorem State.idleKept.of_run {s t : State} (h : t.run = s.run) : s.idleKept t := .inl (by simp [h])

theorem State.idlePassed.of_run {s t : State} (h : t.run = s.run) : s.idlePassed t := .inl (by rw [h])

theorem State.idleKept.refl (s : State) : s.idleKept s := .of_run rfl

theorem State.idleKept.trans {s t u : State} (h : s.idleKept t) (k : t.idleKept u) : s.idleKept u := by
  obtain ⟨idle, op⟩ | left := k
  · exact h.imp (fun same => ⟨idle.trans same.1, op.trans same.2⟩) fun n => op ▸ n
  · exact .inr left

theorem State.idleKept.foldl {α : Type} {f : State → α → State} (h : ∀ (s : State) (a : α), s.idleKept (f s a)) (l : List α) (s : State) :
    s.idleKept (l.foldl f s) := by
  induction l generalizing s with
  | nil => exact .refl s
  | cons a l ih => exact (h s a).trans (ih _)

/-! ### Shared operations -/

theorem State.jam_idle (k : JamKind) (x : Sensor) (s : State) : s.idleKept (s.jam k x) := by
  by_cases op : s.run.op = .jam
  · exact .inr (by rw [State.jam, if_pos op]; exact fun e => nomatch op.symm.trans e)
  · have run : (s.jam k x).run = s.run.jammed := by
      rw [State.jam_fields op]
      exact (s.jamLost_frame k x).2.1
    exact .inr (by rw [run]; exact nofun)

theorem State.arrive_idle (x : Target) (s : State) : s.idleKept (s.arrive x) := by
  unfold State.arrive
  split
  · split
    · exact .of_run (State.confirm_frame _ _).2.2.2.2.1
    · exact s.jam_idle _ _
  · exact .refl s

theorem State.wakeEvent_idle (k : Fin 4) (s : State) : s.idleKept (s.wakeEvent k) := by
  unfold State.wakeEvent
  split
  · exact .inr nofun
  · exact .refl s

theorem State.wakeByBin_idle (b : Fin 41) (s : State) : s.idleKept (s.wakeByBin b) := by
  unfold State.wakeByBin
  split
  · exact s.wakeEvent_idle _
  · exact .refl s

/-! ### Bins and towers -/

theorem State.binEmptied_run (b : Fin 41) (s : State) : (s.binEmptied b).run = s.run := by simp [State.binEmptied]

theorem State.presentQualified_run (b : Fin 41) (v : Bool) (s : State) : (s.presentQualified b v).run = s.run := by
  unfold State.presentQualified
  simp only []
  split <;> simp [State.binEmptied_run]

theorem State.fullQualified_run (b : Fin 41) (v : Bool) (s : State) : (s.fullQualified b v).run = s.run := by
  unfold State.fullQualified
  simp only []
  split <;> simp

theorem State.presentWakes_idle (b : Fin 41) (v : Bool) (s : State) : s.idleKept ((s.presentQualified b v).wakeByBin b) :=
  .trans (.of_run (s.presentQualified_run b v)) (State.wakeByBin_idle b _)

theorem State.fullWakes_idle (b : Fin 41) (v : Bool) (s : State) : s.idleKept ((s.fullQualified b v).wakeByBin b) :=
  .trans (.of_run (s.fullQualified_run b v)) (State.wakeByBin_idle b _)

theorem State.samplePresent_idle (b : Fin 41) (v : Bool) (s : State) : s.idleKept (s.samplePresent b v) := by
  unfold State.samplePresent
  simp only []
  split
  · exact s.presentWakes_idle b v
  · exact .of_run rfl

theorem State.sampleFull_idle (b : Fin 41) (v : Bool) (s : State) : s.idleKept (s.sampleFull b v) := by
  unfold State.sampleFull
  simp only []
  split
  · exact s.fullWakes_idle b v
  · exact .of_run rfl

theorem State.sampleBin_idle (k : Fin 4) (reply : PollReply) (s : State) (i : Fin 10) : s.idleKept (s.sampleBin k reply i) := by
  unfold State.sampleBin
  simp only []
  split
  · exact (s.sampleFull_idle _ _).trans (State.samplePresent_idle _ _ _)
  · exact (s.samplePresent_idle _ _).trans (State.sampleFull_idle _ _ _)

theorem State.towerJam_idle (k : Fin 4) (kind : JamKind) (s : State) : s.idleKept (s.towerJam k kind) := by
  unfold State.towerJam
  split
  · exact s.jam_idle _ _
  · exact .refl s

theorem State.towerChanged_run (k : Fin 4) (s was : State) : (s.towerChanged k was).run = s.run := by
  unfold State.towerChanged
  simp only []
  split <;> simp

theorem State.inputQualified_idle (k : Fin 4) (i : TowerInput) (v : Bool) (s : State) : s.idleKept (s.inputQualified k i v) := by
  unfold State.inputQualified
  simp only []
  refine .trans ?_ (State.wakeEvent_idle k _)
  have changed {u : State} (h : u.run = s.run) : s.idleKept (u.towerChanged k s) := .of_run ((u.towerChanged_run k s).trans h)
  have derived : s.idleKept ((if (s.modTower k (Tower.setInput i (.qualified v))).chain.towers[k].state ≠ s.chain.towers[k].state then
      (s.modTower k (Tower.setInput i (.qualified v))).towerNotice k (inputCause i v)
    else s.modTower k (Tower.setInput i (.qualified v))).towerChanged k s) := changed (by split <;> rfl)
  cases v
  · exact derived.trans (State.towerJam_idle k _ _)
  · exact derived

theorem State.sampleInput_idle (k : Fin 4) (i : TowerInput) (v : Bool) (s : State) : s.idleKept (s.sampleInput k i v) := by
  unfold State.sampleInput
  simp only []
  split
  · exact s.inputQualified_idle k i v
  · exact .of_run rfl

theorem State.takeSamples_idle (k : Fin 4) (reply : PollReply) (s : State) : s.idleKept (s.takeSamples k reply) := by
  have bins : s.idleKept (if s.chain.towers[k].state = .unpowered then s else (List.finRange 10).foldl (State.sampleBin k reply) s) := by
    split
    · exact .refl s
    · exact .foldl (State.sampleBin_idle k reply) _ s
  unfold State.takeSamples
  simp only []
  split
  · exact bins.trans ((State.sampleInput_idle _ _ _ _).trans (State.sampleInput_idle _ _ _ _))
  · exact bins.trans ((State.sampleInput_idle _ _ _ _).trans (State.sampleInput_idle _ _ _ _))

theorem State.takeArrivals_idle (k : Fin 4) (reply : PollReply) (s : State) : s.idleKept (s.takeArrivals k reply) := by
  unfold State.takeArrivals
  exact .trans (.of_run rfl) (.foldl (fun s _ => s.arrive_idle _) _ (s.modTower k _))

theorem State.goodReply_idle (k : Fin 4) (reply : PollReply) (s : State) : s.idleKept (s.goodReply k reply) := by
  unfold State.goodReply
  simp only []
  refine .trans (t := s.modTower k fun x => { x with missed := 0, lastGood := true, answered := true }) (.of_run rfl) ?_
  split
  · exact (State.takeArrivals_idle _ _ _).trans (State.takeSamples_idle _ _ _)
  · exact (State.takeSamples_idle _ _ _).trans (State.takeArrivals_idle _ _ _)

theorem State.loseTower_idle (k : Fin 4) (s : State) : s.idleKept (s.loseTower k) := by
  unfold State.loseTower
  simp only []
  refine .trans (.of_run ?_) (State.towerJam_idle k .towerLost _)
  rw [State.towerChanged_run]
  rfl

theorem State.enumerationEnds_run (b : Bool) (s : State) : (s.enumerationEnds b).run = s.run := by
  unfold State.enumerationEnds
  simp only []
  split <;> rfl

/-! ### The path -/

theorem State.modRec_run (r : Fin 8) (f : SetRec → SetRec) (s : State) : (s.modRec r f).run = s.run := (State.modRec_frame r f s).2.2.2.2.2.1

theorem State.endForming_run (b : BrokenReason) (s : State) : (s.endForming b).run = s.run := by
  unfold State.endForming
  split <;> simp

theorem State.breakForming_run (b : BrokenReason) (s : State) : (s.breakForming b).run = s.run := by
  unfold State.breakForming
  split <;> simp

theorem State.looseOf_run (o : OrphanReason) (d : Descriptor) (s : State) : (s.looseOf o d).run = s.run :=
  (State.bump_frame d.slot Counters.addLoose s).2.2.2.2.2.1

theorem State.bind_run (d : Descriptor) (r : Fin 8) (s : State) : (s.bind d r).run = s.run := State.modRec_run _ _ _

theorem State.lastBound_run (d : Descriptor) (r : Fin 8) (s : State) : (s.lastBound d r).run = s.run := by
  unfold State.lastBound
  split
  · rfl
  · split <;> simp

theorem State.openSet_run (d : Descriptor) (s : State) : (s.openSet d).run = s.run := by
  unfold State.openSet
  simp only []
  split
  · rw [State.looseOf_run, State.endForming_run]
  · split <;> simp [State.lastBound_run, State.bind_run, State.endForming_run]

theorem State.extendSet_run (d : Descriptor) (s : State) : (s.extendSet d).run = s.run := by
  unfold State.extendSet
  (repeat' split) <;> simp [State.looseOf_run, State.endForming_run, State.lastBound_run, State.bind_run]

theorem State.unopened_run (d : Descriptor) (s : State) : (s.unopened d).run = s.run := by
  unfold State.unopened
  split
  · rfl
  · exact State.looseOf_run _ _ _
  · rw [State.looseOf_run]
    split
    · exact State.endForming_run _ _
    · rfl

theorem State.classify_run (s : State) : s.classify.run = s.run := by
  unfold State.classify
  split
  · rfl
  · exact State.breakForming_run _ _
  · exact State.breakForming_run _ _
  · unfold State.classifyDescriptor
    rw [(State.completionTest_frame _ _).2.2.2.2.1]
    (repeat' split) <;> simp [State.unopened_run, State.openSet_run, State.extendSet_run, State.takeHead, State.syncQueue]

theorem State.s1Sheet_idle (s : State) : s.idleKept s.s1Sheet := by
  unfold State.s1Sheet
  split
  · exact .of_run s.classify_run
  · exact s.jam_idle _ _

theorem State.s1Clears_run (a : AtS1) (s : State) : (s.s1Clears a).run = s.run := by
  have checked (e : PathEntry) (u : State) : (u.lengthCheck e a).run = u.run := by
    unfold State.lengthCheck
    split
    · simp only []
      split <;> simp
    · rfl
  unfold State.s1Clears
  simp only []
  split
  · rfl
  · simp [checked]

theorem State.s2Sheet_idle (e : PathEntry) (r : Fin 8) (m : Media) (s : State) : s.idleKept (s.s2Sheet e r m) := by
  have buffered (u : State) (h : u.run = s.run) : s.idleKept (u.sendToBuffer e) := by
    unfold State.sendToBuffer
    split
    · exact .trans (.of_run h) (u.jam_idle _ _)
    · refine .of_run ?_
      simp only []
      split <;> simp [State.syncBuffer, h]
  unfold State.s2Sheet
  simp only []
  split
  · exact .of_run rfl
  · exact buffered _ rfl

theorem State.sheetArrives_idle (st : Stage) (x : Sensor) (s : State) : s.idleKept (s.sheetArrives st x) := by
  unfold State.sheetArrives
  split
  · exact s.jam_idle _ _
  · exact .of_run (by simp)

theorem State.setAtSE_run (w : SEWatch) (s : State) : (s.setAtSE w).run = s.run := by
  unfold State.setAtSE
  simp only []
  split
  · simp [State.vacate]
  · split
    · simp [State.setTravels, State.vacate]
    · unfold State.setShelved
      simp only [State.recombine_frame]
      split <;> simp [State.vacate]

end Sys2Proof.Machine

namespace Sys2Proof.Machine

/-! ### Records -/

theorem State.sheetRecord_run (q : Seq) (rest : List Byte) (s : State) : (s.sheetRecord q rest).run = s.run := by
  have append (e : Entry) (q : Seq) (s : State) : (s.appendPos e q).run = s.run := by
    unfold State.appendPos
    simp only []
    (repeat' split) <;> simp [State.syncQueue]
  have markers (q : Seq) (n : Nat) (s : State) : (s.appendMarkers q n).run = s.run := foldl_keeps _ _ (fun _ _ => append _ _ _) _ _
  unfold State.sheetRecord
  simp only []
  (repeat' split) <;> simp [State.notifySequence, State.expectAfter, append, markers]

theorem State.jobOpenRecord_idle (tag : Byte) (rest : List Byte) (s : State) : s.idlePassed (s.jobOpenRecord tag rest) := by
  have opened (u : State) (h : u.run = s.run) : s.idlePassed u.jobOpened := by
    unfold State.jobOpened
    split
    · exact .inl (show u.run.idle = s.run.idle by rw [h])
    · exact .inr nofun
    · exact .of_run h
  unfold State.jobOpenRecord
  split
  · exact .of_run rfl
  split
  · (repeat' split)
    on_goal 5 => exact opened _ rfl
    all_goals exact .of_run rfl
  · exact .of_run rfl

theorem State.jobCloseRecord_run (tag : Byte) (rest : List Byte) (s : State) : (s.jobCloseRecord tag rest).run = s.run := by
  unfold State.jobCloseRecord
  split
  · rfl
  · rfl
  · simp only []
    split <;> simp

theorem State.purgeRec_run (s : State) (r : Fin 8) : (s.purgeRec r).run = s.run := by
  unfold State.purgeRec
  (repeat' split) <;> simp

theorem State.purgeSets_run (i : Fin 16) (s : State) : (s.purgeSets i).run = s.run := by
  unfold State.purgeSets
  simp only [State.foldl_binEvent_frame]
  rw [foldl_keeps State.run _ fun u r => (State.passPartBin_frame r u).2.2.2.2.1, foldl_keeps State.run _ State.purgeRec_run,
    foldl_keeps State.run _ fun u r => State.modRec_run r _ u]

theorem State.jobPurgeRecord_run (tag : Byte) (rest : List Byte) (s : State) : (s.jobPurgeRecord tag rest).run = s.run := by
  unfold State.jobPurgeRecord
  (repeat' split) <;> simp [State.purgeJob, State.purgeSets_run]

theorem State.tableWrite_idle {α : Type} (tag : Byte) (rest : List Byte) (entries : List Byte → Option (List α)) (ok : Nat → List α → Bool)
    (write : Nat → List α → State → State) (s : State) (h : ∀ i xs, s.idlePassed (write i xs s)) :
    s.idlePassed (s.tableWrite tag rest entries ok write) := by
  unfold State.tableWrite
  (repeat' split)
  on_goal 4 => exact h _ _
  all_goals exact .of_run rfl

theorem State.mediaRecord_idle (tag : Byte) (rest : List Byte) (s : State) : s.idlePassed (s.mediaRecord tag rest) :=
  s.tableWrite_idle _ _ _ _ _ fun _ _ => .inl rfl

theorem State.timingRecord_idle (tag : Byte) (rest : List Byte) (s : State) : s.idlePassed (s.timingRecord tag rest) :=
  s.tableWrite_idle _ _ _ _ _ fun _ _ => by split <;> exact .of_run rfl

theorem State.routeRecord_idle (tag : Byte) (rest : List Byte) (s : State) : s.idlePassed (s.routeRecord tag rest) :=
  s.tableWrite_idle _ _ _ _ _ fun _ _ => .inl rfl

theorem State.towerRecord_idle (tag : Byte) (rest : List Byte) (s : State) : s.idlePassed (s.towerRecord tag rest) :=
  s.tableWrite_idle _ _ _ _ _ fun _ _ => .inl rfl

theorem State.noticeRecord_idle (tag : Byte) (rest : List Byte) (s : State) : s.idlePassed (s.noticeRecord tag rest) :=
  s.tableWrite_idle _ _ _ _ _ fun _ _ => .inl rfl

theorem State.binRecord_idle (tag : Byte) (rest : List Byte) (s : State) : s.idlePassed (s.binRecord tag rest) :=
  s.tableWrite_idle _ _ _ _ _ fun _ _ => .of_run (by simp [State.writeBins])

theorem State.settingsRecord_idle (tag : Byte) (rest : List Byte) (s : State) : s.idlePassed (s.settingsRecord tag rest) := by
  have setting (i x : Nat) (u : State) : (u.writeSetting i x).run.idle = u.run.idle := by
    unfold State.writeSetting
    split <;> rfl
  have settings (xs : List Nat) : ∀ (i : Nat) (u : State), (State.writeSettings i xs u).run.idle = u.run.idle := by
    induction xs with
    | nil => exact fun _ _ => rfl
    | cons x xs ih => exact fun i u => (ih _ _).trans (setting i x u)
  have written (i n : Nat) (u : State) : (u.settingsWritten i n).run = u.run := by
    unfold State.settingsWritten
    simp only []
    (repeat' split) <;> simp [State.syncQueue]
  exact s.tableWrite_idle _ _ _ _ _ fun _ _ => .inl (by rw [written, settings])

theorem State.tableRecord_idle (tag table : Byte) (rest : List Byte) (s : State) : s.idlePassed (s.tableRecord tag table rest) := by
  unfold State.tableRecord
  split
  · exact s.mediaRecord_idle tag rest
  · exact s.timingRecord_idle tag rest
  · exact s.routeRecord_idle tag rest
  · exact s.binRecord_idle tag rest
  · exact s.towerRecord_idle tag rest
  · exact s.noticeRecord_idle tag rest
  · exact s.settingsRecord_idle tag rest
  · split <;> exact .inl rfl

theorem State.queryPlain_run (n : Nat) (tag : Byte) (rest : List Byte) (f : State → List Byte) (s : State) :
    (s.queryPlain n tag rest f).run = s.run := by
  unfold State.queryPlain
  (repeat' split) <;> rfl

theorem State.control_idle (tag : Byte) (extra : List Byte) (f : State → State) (s : State) (h : s.idlePassed (f s)) :
    s.idlePassed (s.control tag extra f) := by
  unfold State.control
  split
  · exact h
  · exact .of_run rfl

theorem State.queryIndexed_run (n : Nat) (tag : Byte) (rest : List Byte) (f : Nat → State → Option (List Byte)) (s : State) :
    (s.queryIndexed n tag rest f).run = s.run := by
  unfold State.queryIndexed
  (repeat' split) <;> rfl

theorem State.peekRecord_run (tag : Byte) (extra : List Byte) (s : State) : (s.peekRecord tag extra).run = s.run := by
  unfold State.peekRecord
  split <;> rfl

theorem State.takeRecord_run (tag : Byte) (extra : List Byte) (s : State) : (s.takeRecord tag extra).run = s.run := by
  unfold State.takeRecord
  simp only []
  (repeat' split) <;> rfl

theorem State.queryRecord_idle (tag subject idx mode : Byte) (s : State) : s.idlePassed (s.queryRecord tag subject idx mode) := by
  unfold State.queryRecord
  split
  case h_10 =>
    unfold State.attentionRecord
    split
    · exact .of_run (s.peekRecord_run tag [])
    · split
      · exact .of_run (s.takeRecord_run tag [])
      · exact .inl rfl
  case h_14 => exact .inl rfl
  case h_1 | h_2 | h_4 | h_5 | h_13 => exact .of_run (s.queryPlain_run _ _ _ _)
  all_goals exact .of_run (s.queryIndexed_run _ _ _ _)

theorem State.pauseRecord_idle (tag : Byte) (extra : List Byte) (s : State) : s.idlePassed (s.pauseRecord tag extra) :=
  s.control_idle _ _ _ (by split <;> exact .inl rfl)

theorem State.resumeRecord_idle (tag : Byte) (extra : List Byte) (s : State) : s.idlePassed (s.resumeRecord tag extra) :=
  s.control_idle _ _ _ (by split <;> exact .inl rfl)

theorem State.clearJamRecord_idle (tag : Byte) (extra : List Byte) (s : State) : s.idlePassed (s.clearJamRecord tag extra) := by
  refine s.control_idle _ _ _ ?_
  split
  · unfold State.leaveJam
    simp only []
    split
    · exact .inr nofun
    · exact .inl rfl
  · exact .inl rfl

theorem State.releaseHoldRecord_idle (tag : Byte) (extra : List Byte) (s : State) : s.idlePassed (s.releaseHoldRecord tag extra) := by
  refine s.control_idle _ _ _ ?_
  split
  · exact .of_run (by simp)
  · exact .inl rfl

theorem State.towerResetRecord_idle (tag : Byte) (extra : List Byte) (s : State) : s.idlePassed (s.towerResetRecord tag extra) := by
  refine s.control_idle _ _ _ ?_
  (repeat' split)
  · exact .inl rfl
  · exact .inl rfl
  · exact .of_run (State.binsChanged_frame _ _ _).2.2.2.2.1

theorem State.standbyRecord_idle (tag : Byte) (extra : List Byte) (s : State) : s.idlePassed (s.standbyRecord tag extra) :=
  s.control_idle _ _ _ (by split <;> exact .inl rfl)

theorem State.wakeRecord_idle (tag : Byte) (extra : List Byte) (s : State) : s.idlePassed (s.wakeRecord tag extra) :=
  s.control_idle _ _ _ (by split <;> exact .inl rfl)

theorem State.resetControl_idle (tag : Byte) (extra : List Byte) (s : State) : s.idlePassed (s.resetControl tag extra) :=
  s.control_idle _ _ _ (.inr nofun)

theorem State.controlRecord_idle (tag code : Byte) (s : State) : s.idlePassed (s.controlRecord tag code) := by
  unfold State.controlRecord
  split
  · exact s.pauseRecord_idle _ _
  · exact s.resumeRecord_idle _ _
  · exact s.clearJamRecord_idle _ _
  · exact s.releaseHoldRecord_idle _ _
  · exact s.towerResetRecord_idle _ _
  · exact s.standbyRecord_idle _ _
  · exact s.wakeRecord_idle _ _
  · exact s.resetControl_idle _ _
  · exact .inl rfl

/-! ### The link -/

theorem State.record_idle (kind tag : Byte) (rest : List Byte) (s : State) : s.idlePassed (s.record kind tag rest) := by
  unfold State.record
  split
  · exact .of_run (s.sheetRecord_run _ _)
  · exact s.jobOpenRecord_idle _ _
  · exact .of_run (s.jobCloseRecord_run _ _)
  · exact .of_run (s.jobPurgeRecord_run _ _)
  · split
    · exact s.tableRecord_idle _ _ _
    · exact .inl rfl
  · split
    · exact s.queryRecord_idle _ _ _ _
    · exact .inl rfl
  · split
    · exact s.controlRecord_idle _ _
    · exact .inl rfl
  · exact .inl rfl

theorem State.takeByte_idle (b : Byte) (stopLow : Bool) (s : State) : s.idlePassed (s.takeByte b stopLow) := by
  have checked (len kind : Byte) (got : List Byte) : s.idlePassed (s.checkByte len kind got b) := by
    unfold State.checkByte
    split
    · split
      · exact State.record_idle _ _ _ s.frameTaken
      · exact .inl rfl
    · exact .inl rfl
  unfold State.takeByte
  split
  · split <;> exact .inl rfl
  · (repeat' split) <;> exact .inl rfl
  · split <;> exact .inl rfl
  · split
    · exact .inl rfl
    · unfold State.bodyByte
      simp only []
      split <;> exact .inl rfl
  · split
    · exact .inl rfl
    · exact checked _ _ _

end Sys2Proof.Machine

namespace Sys2Proof.Machine

/-! ### Commands -/

/-- A command that acts on a live part alone and passes its idle timer on. -/
def State.passesIdle (s : State) (o : Host.Outcome State Fault Refusal) : Prop := ∃ f : State → State, o = s.does f ∧ s.idlePassed (f s)

/-- A command that an accepted frame carries. -/
theorem State.passesIdle_record {s : State} {i : Instr} (f : State → State) (h : exec i s = s.does fun s => f s.frameTaken)
    (passed : ∀ s : State, s.idlePassed (f s)) : s.passesIdle (exec i s) := ⟨_, h, passed s.frameTaken⟩

/-- An operation that keeps the idle timer, on a state with the run of `s`. -/
theorem State.idlePassed.after {s u t : State} (k : u.idleKept t) (h : u.run = s.run) : s.idlePassed t :=
  (State.idleKept.trans (.of_run h) k).passed

theorem State.beginStapling_run (r : Fin 8) (s : State) : (s.beginStapling r).run = s.run := by simp [State.beginStapling]

theorem State.decideSet_run (r : Fin 8) (x : SetRec) (s : State) : (s.decideSet r x).run = s.run := by
  unfold State.decideSet
  simp only []
  split <;> simp [State.beginStapling_run]

theorem State.waitTest_run (s : State) : s.waitTest.run = s.run := by
  unfold State.waitTest
  (repeat' split) <;> simp [State.beginStapling_run]

theorem State.goodStaple_run (s : State) : s.goodStaple.run = s.run := by
  unfold State.goodStaple
  simp only []
  (repeat' split) <;> simp

theorem State.startingEnds_idle (s : State) : s.idlePassed s.startingEnds := by
  unfold State.startingEnds
  simp only []
  split
  · exact (State.jam_idle _ _ { s with run := { s.run with startup := none } }).passed
  · exact .inr nofun

theorem State.wakeEnds_idle (s : State) : s.idlePassed s.wakeEnds := by
  unfold State.wakeEnds
  simp only []
  split
  · exact .inr nofun
  · exact .inl rfl

/-! #### Edges -/

theorem execS1LeadingEdge_passesIdle (s : State) : s.passesIdle (execS1LeadingEdge s) := by
  refine ⟨_, rfl, ?_⟩
  simp only []
  split
  · exact .after (State.s1Sheet_idle _) rfl
  · exact .after (State.s1Sheet_idle _) rfl
  · exact .inl rfl
  · exact .after (State.jam_idle _ _ _) rfl

theorem execS1TrailingEdge_passesIdle (s : State) : s.passesIdle (execS1TrailingEdge s) := by
  refine ⟨_, rfl, ?_⟩
  simp only []
  split
  · exact .inl rfl
  · exact .of_run (State.s1Clears_run _ _)

theorem execS2LeadingEdge_passesIdle (s : State) : s.passesIdle (execS2LeadingEdge s) := by
  refine ⟨_, rfl, ?_⟩
  simp only []
  split
  · split
    · exact .after (State.jam_idle _ _ _) rfl
    · split
      · exact .after (State.s2Sheet_idle _ _ _ _) rfl
      · exact .inl rfl
  · exact .inl rfl

theorem execS2TrailingEdge_passesIdle (s : State) : s.passesIdle (execS2TrailingEdge s) := by
  refine ⟨_, rfl, ?_⟩
  simp only []
  split <;> exact .inl rfl

theorem execScLeadingEdge_passesIdle (s : State) : s.passesIdle (execScLeadingEdge s) := by
  refine ⟨_, rfl, ?_⟩
  simp only []
  split
  · exact .after (State.sheetArrives_idle _ _ _) rfl
  · exact .inl rfl

theorem execSrLeadingEdge_passesIdle (s : State) : s.passesIdle (execSrLeadingEdge s) := by
  refine ⟨_, rfl, ?_⟩
  simp only []
  split
  · exact .after (State.sheetArrives_idle _ _ _) rfl
  · exact .inl rfl

theorem execSeLeadingEdge_passesIdle (s : State) : s.passesIdle (execSeLeadingEdge s) := by
  refine ⟨_, rfl, ?_⟩
  simp only []
  split
  · split
    · split
      · exact .after (State.jam_idle _ _ _) rfl
      · exact .of_run (State.setAtSE_run _ _)
    · exact .after (State.jam_idle _ _ _) rfl
  · exact .inl rfl

theorem execSeTrailingEdge_passesIdle (s : State) : s.passesIdle (execSeTrailingEdge s) := by
  refine ⟨_, rfl, ?_⟩
  simp only []
  split
  · exact .of_run (State.bufferTest_frame _).2.2.2.2.2.1
  · exact .inl rfl

theorem execS0Arrival_passesIdle (s : State) : s.passesIdle (execS0Arrival s) := by
  refine ⟨_, rfl, ?_⟩
  exact .after (State.arrive_idle _ _) rfl

theorem execBufferRelease_passesIdle (s : State) : s.passesIdle (execBufferRelease s) := by
  refine ⟨_, rfl, ?_⟩
  simp only []
  split <;> exact .inl rfl

/-! #### Timers -/

theorem execPathLateWindowExpiry_passesIdle (s : State) (w : PathWindow) : s.passesIdle (execPathLateWindowExpiry w s) := by
  refine ⟨_, rfl, ?_⟩
  split
  · exact .after (State.jam_idle _ _ _) rfl
  · exact .inl rfl

theorem execDeliveryWindowExpiry_passesIdle (s : State) (x : Target) : s.passesIdle (execDeliveryWindowExpiry x s) := by
  refine ⟨_, rfl, ?_⟩
  split
  · exact .after (State.jam_idle _ _ _) rfl
  · exact .inl rfl

theorem execStallTimerExpiry_passesIdle (s : State) (a : StallSensor) : s.passesIdle (execStallTimerExpiry a s) := by
  refine ⟨_, rfl, ?_⟩
  simp only [State.stallExpires]
  split
  · split
    · exact .after (State.jam_idle _ _ _) rfl
    · exact .inl rfl
  · exact .inl rfl

theorem execSpinUpEnd_passesIdle (s : State) : s.passesIdle (execSpinUpEnd s) := by
  refine ⟨_, rfl, ?_⟩
  simp only []
  split <;> exact .inl rfl

theorem execGovernorTimerExpiry_passesIdle (s : State) : s.passesIdle (execGovernorTimerExpiry s) := by
  refine ⟨_, rfl, ?_⟩
  simp only []
  split <;> exact .inl rfl

theorem execInterByteTimeout_passesIdle (s : State) : s.passesIdle (execInterByteTimeout s) := by
  refine ⟨_, rfl, ?_⟩
  split <;> exact .inl rfl

theorem execTransmitBegin_passesIdle (s : State) : s.passesIdle (execTransmitBegin s) := by
  refine ⟨_, rfl, ?_⟩
  split <;> exact .inl rfl

theorem execTransmitDone_passesIdle (s : State) : s.passesIdle (execTransmitDone s) := by
  refine ⟨_, rfl, ?_⟩
  simp only []
  split <;> exact .inl rfl

theorem execG0GateFree_passesIdle (s : State) : s.passesIdle (execG0GateFree s) := by
  refine ⟨_, rfl, ?_⟩
  simp only []
  split <;> exact .inl rfl

theorem execEjectStart_passesIdle (s : State) : s.passesIdle (execEjectStart s) := by
  refine ⟨_, rfl, ?_⟩
  split <;> exact .inl rfl

theorem execIdleTimerExpiry_passesIdle (s : State) : s.passesIdle (execIdleTimerExpiry s) := by
  refine ⟨_, rfl, ?_⟩
  split
  · exact .inr nofun
  · exact .inl rfl

theorem execStandbyTimerExpiry_passesIdle (s : State) : s.passesIdle (execStandbyTimerExpiry s) := by
  refine ⟨_, rfl, ?_⟩
  split
  · split
    · exact .inl rfl
    · exact .inr nofun
  · exact .inl rfl

theorem execWakeTimerEnd_passesIdle (s : State) : s.passesIdle (execWakeTimerEnd s) := by
  refine ⟨_, rfl, ?_⟩
  split
  · exact State.wakeEnds_idle (s.reach _)
  · exact .inl rfl

theorem execStartupTimerExpiry_passesIdle (s : State) : s.passesIdle (execStartupTimerExpiry s) := by
  refine ⟨_, rfl, ?_⟩
  split
  · split
    · exact State.startingEnds_idle (s.reach _)
    · exact .inl rfl
  · exact .inl rfl

theorem execStartupComplete_passesIdle (s : State) : s.passesIdle (execStartupComplete s) := by
  refine ⟨_, rfl, ?_⟩
  split
  · exact s.startingEnds_idle
  · exact .inl rfl

theorem execHoldTimerExpiry_passesIdle (s : State) : s.passesIdle (execHoldTimerExpiry s) := by
  refine ⟨_, rfl, ?_⟩
  split
  · exact .of_run (State.holdExpires_frame _).2.2.2.2.1
  · exact .inl rfl

/-! #### Finishing -/

theorem execSplitEjectStart_passesIdle (s : State) : s.passesIdle (execSplitEjectStart s) := by
  refine ⟨_, rfl, ?_⟩
  split
  · exact .of_run (by simp [State.splitEject])
  · exact .inl rfl

theorem execJogEnd_passesIdle (s : State) : s.passesIdle (execJogEnd s) := by
  refine ⟨_, rfl, ?_⟩
  simp only []
  split
  · exact .inl rfl
  · split
    · exact .inl rfl
    · split
      · exact .of_run (State.purgedEject_frame _ _).2.2.2.2.1
      · exact .of_run (State.decideSet_run _ _ _)

theorem execStapleHomeReturn_passesIdle (s : State) : s.passesIdle (execStapleHomeReturn s) := by
  refine ⟨_, rfl, ?_⟩
  simp only []
  split
  · split
    · exact .of_run (State.goodStaple_run _)
    · exact .inl rfl
  · exact .inl rfl

theorem execStapleHomeTimeout_passesIdle (s : State) : s.passesIdle (execStapleHomeTimeout s) := by
  refine ⟨_, rfl, ?_⟩
  simp only []
  split
  · exact .of_run (by simp)
  · exact .inl rfl

theorem execShelfRelease_passesIdle (s : State) : s.passesIdle (execShelfRelease s) := by
  refine ⟨_, rfl, ?_⟩
  split
  · exact .of_run (by simp [State.releaseShelf])
  · exact .inl rfl

theorem execCartridgeInsertion_passesIdle (s : State) : s.passesIdle (execCartridgeInsertion s) := by
  refine ⟨_, rfl, ?_⟩
  simp only []
  split
  · exact .inl rfl
  · exact .of_run (State.waitTest_run _)

theorem execCartridgeRemoval_passesIdle (s : State) : s.passesIdle (execCartridgeRemoval s) := by
  refine ⟨_, rfl, ?_⟩
  simp only []
  split <;> exact .inl rfl

theorem execCartridgeEmptyCovered_passesIdle (s : State) : s.passesIdle (execCartridgeEmptyCovered s) := by
  refine ⟨_, rfl, ?_⟩
  simp only []
  split <;> exact .inl rfl

theorem execCartridgeEmptyClear_passesIdle (s : State) : s.passesIdle (execCartridgeEmptyClear s) := by
  refine ⟨_, rfl, ?_⟩
  split <;> exact .inl rfl

/-! #### Bins and towers -/

theorem execBinEmpty_passesIdle (s : State) (b : Fin 41) : s.passesIdle (execBinEmpty b s) := by
  refine ⟨_, rfl, ?_⟩
  split
  · exact (s.presentWakes_idle b false).passed
  · exact .inl rfl

theorem execBinPresentCovered_passesIdle (s : State) (b : Fin 41) : s.passesIdle (execBinPresentCovered b s) := by
  refine ⟨_, rfl, ?_⟩
  split
  · exact (s.presentWakes_idle b true).passed
  · exact .inl rfl

theorem execBinFullSensorCovered_passesIdle (s : State) (b : Fin 41) : s.passesIdle (execBinFullSensorCovered b s) := by
  refine ⟨_, rfl, ?_⟩
  split
  · exact (s.fullWakes_idle b true).passed
  · exact .inl rfl

theorem execBinFullSensorClear_passesIdle (s : State) (b : Fin 41) : s.passesIdle (execBinFullSensorClear b s) := by
  refine ⟨_, rfl, ?_⟩
  split
  · exact (s.fullWakes_idle b false).passed
  · exact .inl rfl

theorem execReReference_passesIdle (s : State) (b : Fin 41) : s.passesIdle (execReReference b s) := by
  refine ⟨_, rfl, ?_⟩
  split
  · exact (s.fullWakes_idle b false).passed
  · exact .inl rfl

theorem execRejectNearFullChange_passesIdle (s : State) (v : Bool) : s.passesIdle (execRejectNearFullChange v s) := by
  refine ⟨_, rfl, ?_⟩
  simp only []
  split <;> exact .inl rfl

theorem execRejectFullChange_passesIdle (s : State) (v : Bool) : s.passesIdle (execRejectFullChange v s) := by
  refine ⟨_, rfl, ?_⟩
  simp only []
  split <;> exact .inl rfl

theorem execTowerPollReply_passesIdle (s : State) (k : Fin 4) (reply : PollReply) : s.passesIdle (execTowerPollReply k reply s) := by
  refine ⟨_, rfl, ?_⟩
  split
  · exact (s.goodReply_idle k reply).passed
  · exact .inl rfl

theorem execTowerPollMissed_passesIdle (s : State) (k : Fin 4) : s.passesIdle (execTowerPollMissed k s) := by
  refine ⟨_, rfl, ?_⟩
  simp only []
  split
  · split
    · exact .after (State.loseTower_idle k _) rfl
    · exact .inl rfl
  · exact .inl rfl

theorem execTowerInputChange_passesIdle (s : State) (k : Fin 4) (i : TowerInput) (v : Bool) : s.passesIdle (execTowerInputChange k i v s) := by
  refine ⟨_, rfl, ?_⟩
  split
  · exact (s.inputQualified_idle k i v).passed
  · exact .inl rfl

theorem execEnumerationReply_passesIdle (s : State) : s.passesIdle (execEnumerationReply s) := by
  refine ⟨_, rfl, ?_⟩
  simp only []
  split
  · exact .inl rfl
  · split
    · exact .inl rfl
    · exact .of_run (State.enumerationEnds_run _ _)

theorem execEnumerationSlotTimeout_passesIdle (s : State) : s.passesIdle (execEnumerationSlotTimeout s) := by
  refine ⟨_, rfl, ?_⟩
  split
  · exact .inl rfl
  · exact .of_run (State.enumerationEnds_run _ _)

/-! #### All commands -/

/-- Every command but those of section 8.1 passes the idle timer on, and leaves it to the rule at its end (R145). -/
theorem exec_passesIdle (i : Instr) (s : State) (noReset : resets i = false) : s.passesIdle (exec i s) := by
  cases i with
  | powerOn | resetnLow | resetEnd => cases noReset
  | sheet q rest => exact State.passesIdle_record (State.sheetRecord q rest) rfl fun s => .of_run (s.sheetRecord_run q rest)
  | jobOpen tag rest => exact State.passesIdle_record (State.jobOpenRecord tag rest) rfl (State.jobOpenRecord_idle tag rest)
  | jobClose tag rest => exact State.passesIdle_record (State.jobCloseRecord tag rest) rfl fun s => .of_run (s.jobCloseRecord_run tag rest)
  | jobPurge tag rest => exact State.passesIdle_record (State.jobPurgeRecord tag rest) rfl fun s => .of_run (s.jobPurgeRecord_run tag rest)
  | mediaWrite tag rest => exact State.passesIdle_record (State.mediaRecord tag rest) rfl (State.mediaRecord_idle tag rest)
  | timingWrite tag rest => exact State.passesIdle_record (State.timingRecord tag rest) rfl (State.timingRecord_idle tag rest)
  | routeWrite tag rest => exact State.passesIdle_record (State.routeRecord tag rest) rfl (State.routeRecord_idle tag rest)
  | binWrite tag rest => exact State.passesIdle_record (State.binRecord tag rest) rfl (State.binRecord_idle tag rest)
  | towerWrite tag rest => exact State.passesIdle_record (State.towerRecord tag rest) rfl (State.towerRecord_idle tag rest)
  | noticeWrite tag rest => exact State.passesIdle_record (State.noticeRecord tag rest) rfl (State.noticeRecord_idle tag rest)
  | settingsWrite tag rest => exact State.passesIdle_record (State.settingsRecord tag rest) rfl (State.settingsRecord_idle tag rest)
  | queryState tag rest | queryQueue tag rest | queryTiming tag rest | queryCompiler tag rest | querySettings tag rest =>
    exact State.passesIdle_record (State.queryPlain _ tag rest _) rfl fun s => .of_run (s.queryPlain_run _ tag rest _)
  | queryPath tag rest | queryDelivery tag rest | queryRoute tag rest | queryBin tag rest | queryTower tag rest | queryJob tag rest
  | queryMedia tag rest =>
    exact State.passesIdle_record (State.queryIndexed _ tag rest _) rfl fun s => .of_run (s.queryIndexed_run _ tag rest _)
  | queryAttentionPeek tag idx extra =>
    exact State.passesIdle_record (State.peekRecord tag extra) rfl fun s => .of_run (s.peekRecord_run tag extra)
  | queryAttentionTake tag idx extra =>
    exact State.passesIdle_record (State.takeRecord tag extra) rfl fun s => .of_run (s.takeRecord_run tag extra)
  | pause tag extra => exact State.passesIdle_record (State.pauseRecord tag extra) rfl (State.pauseRecord_idle tag extra)
  | resume tag extra => exact State.passesIdle_record (State.resumeRecord tag extra) rfl (State.resumeRecord_idle tag extra)
  | clearJam tag extra => exact State.passesIdle_record (State.clearJamRecord tag extra) rfl (State.clearJamRecord_idle tag extra)
  | releaseHold tag extra => exact State.passesIdle_record (State.releaseHoldRecord tag extra) rfl (State.releaseHoldRecord_idle tag extra)
  | towerReset tag extra => exact State.passesIdle_record (State.towerResetRecord tag extra) rfl (State.towerResetRecord_idle tag extra)
  | standby tag extra => exact State.passesIdle_record (State.standbyRecord tag extra) rfl (State.standbyRecord_idle tag extra)
  | wake tag extra => exact State.passesIdle_record (State.wakeRecord tag extra) rfl (State.wakeRecord_idle tag extra)
  | reset tag extra => exact State.passesIdle_record (State.resetControl tag extra) rfl (State.resetControl_idle tag extra)
  | unknownKind kind tag rest => exact State.passesIdle_record (State.unknownKindRecord kind tag) rfl fun s => .inl rfl
  | badFrame byte stopLow => exact ⟨_, rfl, s.takeByte_idle byte stopLow⟩
  | receivedByte byte => exact ⟨_, rfl, s.takeByte_idle byte false⟩
  | startupComplete => exact execStartupComplete_passesIdle s
  | startupTimerExpiry => exact execStartupTimerExpiry_passesIdle s
  | interByteTimeout => exact execInterByteTimeout_passesIdle s
  | transmitBegin => exact execTransmitBegin_passesIdle s
  | transmitDone => exact execTransmitDone_passesIdle s
  | s1LeadingEdge => exact execS1LeadingEdge_passesIdle s
  | s1TrailingEdge => exact execS1TrailingEdge_passesIdle s
  | s2LeadingEdge => exact execS2LeadingEdge_passesIdle s
  | s2TrailingEdge => exact execS2TrailingEdge_passesIdle s
  | scLeadingEdge => exact execScLeadingEdge_passesIdle s
  | srLeadingEdge => exact execSrLeadingEdge_passesIdle s
  | seLeadingEdge => exact execSeLeadingEdge_passesIdle s
  | seTrailingEdge => exact execSeTrailingEdge_passesIdle s
  | s0Arrival => exact execS0Arrival_passesIdle s
  | pathLateWindowExpiry w => exact execPathLateWindowExpiry_passesIdle s w
  | deliveryWindowExpiry x => exact execDeliveryWindowExpiry_passesIdle s x
  | stallTimerExpiry a => exact execStallTimerExpiry_passesIdle s a
  | bufferRelease => exact execBufferRelease_passesIdle s
  | splitEjectStart => exact execSplitEjectStart_passesIdle s
  | jogEnd => exact execJogEnd_passesIdle s
  | stapleHomeReturn => exact execStapleHomeReturn_passesIdle s
  | stapleHomeTimeout => exact execStapleHomeTimeout_passesIdle s
  | ejectStart => exact execEjectStart_passesIdle s
  | shelfRelease => exact execShelfRelease_passesIdle s
  | g0GateFree => exact execG0GateFree_passesIdle s
  | holdTimerExpiry => exact execHoldTimerExpiry_passesIdle s
  | binEmpty b => exact execBinEmpty_passesIdle s b
  | binPresentCovered b => exact execBinPresentCovered_passesIdle s b
  | binFullSensorCovered b => exact execBinFullSensorCovered_passesIdle s b
  | binFullSensorClear b => exact execBinFullSensorClear_passesIdle s b
  | reReference b => exact execReReference_passesIdle s b
  | cartridgeInsertion => exact execCartridgeInsertion_passesIdle s
  | cartridgeRemoval => exact execCartridgeRemoval_passesIdle s
  | cartridgeEmptyCovered => exact execCartridgeEmptyCovered_passesIdle s
  | cartridgeEmptyClear => exact execCartridgeEmptyClear_passesIdle s
  | rejectNearFullChange v => exact execRejectNearFullChange_passesIdle s v
  | rejectFullChange v => exact execRejectFullChange_passesIdle s v
  | towerPollReply k reply => exact execTowerPollReply_passesIdle s k reply
  | towerPollMissed k => exact execTowerPollMissed_passesIdle s k
  | towerInputChange k i v => exact execTowerInputChange_passesIdle s k i v
  | enumerationReply => exact execEnumerationReply_passesIdle s
  | enumerationSlotTimeout => exact execEnumerationSlotTimeout_passesIdle s
  | spinUpEnd => exact execSpinUpEnd_passesIdle s
  | idleTimerExpiry => exact execIdleTimerExpiry_passesIdle s
  | standbyTimerExpiry => exact execStandbyTimerExpiry_passesIdle s
  | wakeTimerEnd => exact execWakeTimerEnd_passesIdle s
  | governorTimerExpiry => exact execGovernorTimerExpiry_passesIdle s

end Sys2Proof.Machine

namespace Sys2Proof.Machine

/-! ## Timers of the Run Controller and the governor -/

theorem State.syncIdle_of_not_running {s : State} (op : s.run.op ≠ .running) :
    s.syncIdle = { s with run := { s.run with idle := none } } := by
  rw [State.syncIdle_eq, State.syncIdle_idle, if_neg fun h => op h.1]

theorem exec_spinUpEnd {s : State} {start : Nat} (live : s.live) (runs : s.run.spinUp = some start) : exec .spinUpEnd s =
    .next ({ s with now := max s.now (start + 400), run := { s.run with spinUp := none } }.drop .spinUp).syncIdle := by
  show execSpinUpEnd s = _
  rw [execSpinUpEnd, State.does_live live, runs]
  rfl

theorem exec_idleTimerExpiry {s : State} {start : Nat} (live : s.live) (runs : s.run.idle = some start) : exec .idleTimerExpiry s =
    .next { s with
      now := max s.now (start + 2000)
      run := { s.run with op := .ready, standby := some (max s.now (start + 2000)), idle := none } } := by
  show execIdleTimerExpiry s = _
  rw [execIdleTimerExpiry, State.does_live live, runs]
  exact congrArg Host.Outcome.next (State.syncIdle_of_not_running (s := (s.reach (start + 2000)).enterReady) nofun)

theorem exec_standbyTimerExpiry {s : State} {start : Nat} (live : s.live) (runs : s.run.standby = some start) :
    ∃ t, exec .standbyTimerExpiry s = .next t ∧
      (s.run.standbyDelay = 0 → t = { s with run := { s.run with idle := t.run.idle } }) ∧
      (s.run.standbyDelay ≠ 0 → t = { s with
        now := max s.now (start + s.run.standbyDelay * 60000), run := { s.run with op := .standby, standby := none, idle := none } }) := by
  by_cases delay : s.run.standbyDelay = 0
  · refine ⟨s.syncIdle, ?_, fun _ => rfl, fun n => absurd delay n⟩
    show execStandbyTimerExpiry s = _
    rw [execStandbyTimerExpiry, State.does_live live, runs]
    exact congrArg (fun t : State => Host.Outcome.next t.syncIdle) (if_pos delay)
  · refine ⟨_, ?_, fun n => absurd n delay, fun _ => rfl⟩
    show execStandbyTimerExpiry s = _
    rw [execStandbyTimerExpiry, State.does_live live, runs]
    refine (congrArg (fun t : State => Host.Outcome.next t.syncIdle) (if_neg delay)).trans ?_
    exact congrArg Host.Outcome.next
      (State.syncIdle_of_not_running (s := (s.reach (start + s.run.standbyTime)).enterStandby) nofun)

theorem exec_wakeTimerEnd {s : State} {start : Nat} (live : s.live) (runs : s.run.wake = some start) : exec .wakeTimerEnd s =
    .next (s.reach (start + 500)).wakeEnds.syncIdle := by
  show execWakeTimerEnd s = _
  rw [execWakeTimerEnd, State.does_live live, runs]
  rfl

/-- The end of WAKING, by whether a job slot is in use (R147). -/
theorem State.wakeEnds_eq (s : State) : s.wakeEnds =
    (if s.allJobsFree then { s with run := { s.run with wake := none } }.enterReady
      else { s with run := { s.run with wake := none } }.enterRunning).drop .wake := rfl

theorem exec_governorTimerExpiry {s : State} {start : Nat} (live : s.live) (runs : s.report.gov.timer = some start) :
    exec .governorTimerExpiry s = .next
      ({ s.reach (start + s.report.gov.d * 100) with report := s.report.governorExpires } : State).syncIdle := by
  show execGovernorTimerExpiry s = _
  rw [execGovernorTimerExpiry, State.does_live live, runs]
  rfl

/-- The idle timer after a command (R145): in RUNNING it runs while the part is idle, from where it was. -/
theorem exec_idle {c : Instr} {s t : State} (sound : s.runSound) (h : exec c s = .next t) :
    (t.run.op = .running → t.standsIdle → t.run.idle = some (s.run.idle.getD t.now)) ∧
    (t.run.op ≠ .running ∨ ¬ t.standsIdle → t.run.idle = none) := by
  have exact_ : t.idleExact := (exec_keeps (fun _ runs => (sound.1.mp runs).1) h).2 sound.1
  refine ⟨fun op idle => ?_, fun out => by_contra fun runs => ?_⟩
  · have runs : t.run.idle ≠ none := exact_.mpr ⟨op, idle⟩
    have same (e : t = s) : t.run.idle = some (s.run.idle.getD t.now) := by
      obtain ⟨x, at_⟩ := Option.ne_none_iff_exists'.mp runs
      rw [← e, at_]
      rfl
    cases reset : resets c with
    | true =>
      obtain e | ⟨cause, low, e | e⟩ := exec_resets reset h
      · exact same e
      · rw [e] at op; cases op
      · rw [e] at op; cases op
    | false =>
      obtain ⟨f, does, passed⟩ := exec_passesIdle c s reset
      rw [does] at h
      have e : (if s.run.resetLow then s else (f s).syncIdle) = t := Host.Outcome.next.inj h
      by_cases low : s.run.resetLow
      · exact same (((if_pos low).symm.trans e).symm)
      · have e := (if_neg low).symm.trans e
        have op' : (f s).run.op = .running := by rw [← e] at op; exact op
        have idle' : (f s).isIdle = true := (State.isIdle_iff _).mpr (by rw [← e] at idle; exact idle)
        have kept := passed.resolve_right fun n => n op'
        rw [← e, State.syncIdle_idle, if_pos ⟨op', idle'⟩, kept]
        rfl
  · obtain ⟨op, idle⟩ := exact_.mp runs
    exact out.elim (fun n => n op) fun n => n idle

/-- Settles O53: each timer's command is opened once, and the rule at the end of a command gives the idle timer, which no command of a
live part touches without leaving RUNNING. -/
theorem timersChangeTheOperatingState : Obligations.TimersChangeTheOperatingState := by
  intro s start live
  refine ⟨fun runs => ⟨_, exec_spinUpEnd live runs, rfl, ?_, fun r n => ?_⟩, fun runs => ⟨_, exec_idleTimerExpiry live runs, rfl⟩,
    fun runs => exec_standbyTimerExpiry live runs, fun runs => ?_,
    fun runs => ⟨_, exec_governorTimerExpiry live runs, rfl, ?_, fun r n => ?_⟩, fun c t sound h => exec_idle sound h⟩
  · exact fun stands => ((State.drop_stands ..).mp stands).1 rfl
  · exact (State.drop_stands ..).trans ⟨And.right, fun h => ⟨n, h⟩⟩
  · refine ⟨_, exec_wakeTimerEnd live runs, ?_⟩
    rw [State.wakeEnds_eq]
    by_cases free : (s.reach (start + 500)).allJobsFree = true
    · have all : ∀ i : Fin 16, s.jobs[i].state = .free := (State.allJobsFree_iff _).mp free
      rw [if_pos free]
      exact ⟨rfl, fun stands => ((State.drop_stands ..).mp stands).1 rfl, fun ⟨i, used⟩ => absurd (all i) used, fun _ => ⟨rfl, rfl, rfl⟩⟩
    · rw [if_neg free]
      refine ⟨rfl, fun stands => ((State.drop_stands ..).mp stands).1 rfl, fun _ => ⟨rfl, rfl, rfl, ?_⟩,
        fun all => absurd ((State.allJobsFree_iff _).mpr all) free⟩
      exact (State.drop_stands ..).mpr ⟨nofun, (State.raise_stands ..).mpr (.inl rfl)⟩
  · exact (State.governorExpires_stands (s.reach (start + s.report.gov.d * 100)) .governor).trans (by rw [if_pos rfl]; rfl)
  · exact (State.governorExpires_stands (s.reach (start + s.report.gov.d * 100)) r).trans (by rw [if_neg n]; rfl)

end Sys2Proof.Machine

namespace Sys2Proof.Machine

/-! ## The cartridge and the reject tray -/

/-- A cause handed over after the governor has read a changed part (R152, R157). -/
theorem State.recombine_notified {s u : State} (n : Notice) (same : u.report = s.report) :
    s.handed n none (u.recombine.notify n none) ∧ s.governed (u.recombine.notify n none) := by
  have handed := State.notify_handed n none u.recombine
  have governed := (State.recombine_governed u).notify n none
  refine ⟨State.handed_of handed ?_ ?_ rfl rfl, governed.of_same (by rw [same]) (by unfold State.stands; rw [same])⟩
  · rw [State.recombine_notice, same]
  · rw [State.recombine_link, same]

/-- A part that is not in STAPLE WAIT has no set to let on (R74). -/
theorem State.waitTest_stays {s : State} (other : s.compiler.state ≠ .stapleWait) : s.waitTest = s := by
  unfold State.waitTest
  split
  · rfl
  · exact if_neg (by simp [State.waits, other])

/-- The part with a new stapler and new levels at its pins, the governor having read the count. -/
def State.restapled (p : Stapler) (pins : Pins) (s : State) : State := { s with stapler := p, pins := pins }.recombine

theorem State.restapled_eq (p : Stapler) (pins : Pins) (s : State) :
    s.restapled p pins = { s with stapler := p, pins := pins, report := (s.restapled p pins).report } := rfl

/-- The stapler at an insertion, its sensor qualified as fitted (R78). -/
def State.inserted (s : State) : State :=
  s.restapled { s.stapler with
    cartridge := .qualified true
    count := if s.stapler.emptySensor.state = some true then 0 else 5000
    state := if s.stapler.state = .stapling then .stapling else if s.stapler.emptySensor.state = some true then .empty else .ready }
    { s.pins with cartridge := true }

/-- The notice of an insertion (R78). -/
def State.insertedNotice (s : State) : Notice :=
  ⟨.stapleInserted, some (if s.stapler.emptySensor.state = some true then 0 else 5000), some s.waits.toNat, none, none⟩

theorem exec_cartridgeInsertion {s : State} (live : s.live) (absent : s.stapler.cartridge.state ≠ some true) :
    exec .cartridgeInsertion s = .next (s.inserted.notify s.insertedNotice none).waitTest.syncIdle := by
  show execCartridgeInsertion s = _
  rw [execCartridgeInsertion, State.does_live live]
  exact congrArg (fun t : State => Host.Outcome.next t.syncIdle) (if_neg absent)

/-- A waiting set that may be stapled, its decision recorded (R74). -/
def State.released (r : Fin 8) (x : SetRec) (s : State) : State := (s.drop .staples).setRec r { x with decision := some .staple }

theorem State.waitTest_of {s : State} {r : Fin 8} {x : SetRec} (current : s.compiler.current = some r) (used : s.getRec r = some x)
    (waits : s.compiler.state = .stapleWait) (ready : s.stapler.state = .ready) (enough : x.pattern.staples ≤ s.stapler.count) :
    s.waitTest = ((s.released r x).binChoice r).beginStapling r := by
  unfold State.waitTest
  rw [State.currentRec_of current used]
  exact if_pos (by simp [State.waits, waits, ready, enough])

/-- A waiting set let on: the compiler goes on stapling, STAPLES is dropped, and one staple is used (R73, R74, R76). -/
theorem State.waitTest_staples {s : State} {r : Fin 8} {x : SetRec} (current : s.compiler.current = some r) (used : s.getRec r = some x)
    (waits : s.compiler.state = .stapleWait) (ready : s.stapler.state = .ready) (enough : x.pattern.staples ≤ s.stapler.count) :
    (∀ c, s.latched c → s.waitTest.latched c) ∧ ¬ s.waitTest.stands .staples ∧
    s.waitTest.compiler = { s.compiler with state := .stapling } ∧
    (∃ y, s.waitTest.getRec r = some y ∧ y.decision = some .staple ∧ y.state = .stapling ∧ y.height = x.height) ∧
    s.waitTest.stapler = { s.stapler with
      state := .stapling, count := s.stapler.count - 1, drive := true, homeTimer := some s.now } := by
  have binned := State.binChoice_rebins r (s.released r x)
  obtain ⟨y, used_y, rebinned⟩ := binned.used r _ (State.setRec_getRec r _ (s.drop .staples))
  rw [State.waitTest_of current used waits ready enough]
  have frame := binned.frame
  have tells := binned.tells
  generalize (s.released r x).binChoice r = w at *
  obtain ⟨only, own, -, -⟩ := State.beginStapling_begins used_y
  refine ⟨fun c latched => ?_, fun stands => ?_, ?_, ⟨_, own, ?_, rfl, ?_⟩, ?_⟩
  · exact (State.beginStapling_keepsBin used_y).flags c (tells.flags c latched)
  · rw [State.beginStapling_of used_y, State.startStaple_stands .staples _ (by decide) (by decide), State.stapling, State.setCompiler_stands] at stands
    have left : (s.released r x).stands .staples := (tells.reasons .staples nofun).mp stands.1
    exact ((State.drop_stands ..).mp left).1 rfl
  · rw [only]
    rw [frame]
    rfl
  · rw [rebinned]
  · rw [rebinned]
  · rw [only]
    rw [frame]
    rfl

/-- Settles O51: each change of a sensor is one change of the stapler, read by the governor and then given as a notice; an insertion lets a
waiting set on. -/
theorem cartridgeAndRejectSensorsAct : Obligations.CartridgeAndRejectSensorsAct := by
  intro s live q covered busy changes fitted emptied
  have told {c : Instr} (p : Stapler) (pins : Pins) (n : Notice)
      (e : exec c s = .next ((s.restapled p pins).notify n none).syncIdle) : changes c p pins (some n) := by
    obtain ⟨handed, governed⟩ := State.recombine_notified (s := s) (u := { s with stapler := p, pins := pins }) n rfl
    exact ⟨_, e, fun m same => Option.some.inj same ▸ ⟨handed, governed⟩, nofun, rfl⟩
  have quiet {c : Instr} (p : Stapler) (pins : Pins) (e : exec c s = .next { s with stapler := p, pins := pins }.syncIdle) :
      changes c p pins none := ⟨_, e, nofun, fun _ => rfl, rfl⟩
  refine ⟨fun absent other => ?_, fun r x absent waits current used notCovered notBusy => ?_, fun fittedNow => ?_, fun unknown => ?_,
    fun notCovered => ?_, fun notClear => ?_, fun v differs => ?_, fun v differs => ?_⟩
  · refine told _ _ _ ((exec_cartridgeInsertion live absent).trans ?_)
    have still : (s.inserted.notify s.insertedNotice none).compiler.state ≠ .stapleWait := other
    have waits : s.waits = false := decide_eq_false other
    rw [State.waitTest_stays still, State.insertedNotice, waits]
    rfl
  · have e := exec_cartridgeInsertion live absent
    obtain ⟨u, u_eq⟩ : ∃ u, u = s.inserted.notify s.insertedNotice none := ⟨_, rfl⟩
    have stapler : u.stapler = { s.stapler with cartridge := q true, count := 5000, state := .ready } := by
      rw [u_eq]
      show (s.inserted).stapler = _
      unfold State.inserted
      rw [if_neg notCovered, if_neg notBusy, if_neg notCovered]
      rfl
    have enough : x.pattern.staples ≤ u.stapler.count := by
      rw [stapler]
      show x.pattern.staples ≤ 5000
      cases x.pattern <;> decide
    obtain ⟨flags, staples, compiler, ⟨y, own, decision, state, height⟩, stapled⟩ :=
      State.waitTest_staples (s := u) (r := r) (x := x) (by rw [u_eq]; exact current) (by rw [u_eq]; exact used) (by rw [u_eq]; exact waits)
        (by rw [stapler]) enough
    have latched : u.latched .stapleInserted := by
      rw [u_eq]
      exact (State.notify_latched ..).mpr (.inl rfl)
    rw [← u_eq] at e
    refine ⟨_, y, e, flags _ latched, staples, ?_, own, decision, state, height, ?_⟩
    · exact compiler.trans (by rw [u_eq]; rfl)
    · exact stapled.trans (by rw [stapler, u_eq]; rfl)
  · refine told _ _ _ ?_
    show execCartridgeRemoval s = _
    rw [execCartridgeRemoval, State.does_live live, fittedNow]
    rfl
  · refine quiet _ _ ?_
    show execCartridgeRemoval s = _
    rw [execCartridgeRemoval, State.does_live live, unknown]
    rfl
  · refine told _ _ _ ?_
    show execCartridgeEmptyCovered s = _
    rw [execCartridgeEmptyCovered, State.does_live live]
    exact congrArg (fun t : State => Host.Outcome.next t.syncIdle) (if_neg notCovered)
  · refine quiet _ _ ?_
    show execCartridgeEmptyClear s = _
    rw [execCartridgeEmptyClear, State.does_live live]
    exact congrArg (fun t : State => Host.Outcome.next t.syncIdle) (if_neg notClear)
  · obtain ⟨u, u_eq⟩ : ∃ u : State, u = { s with rejectNear := q v, pins := { s.pins with rejectNear := v } } := ⟨_, rfl⟩
    have e : exec (.rejectNearFullChange v) s = .next u.recombine.syncIdle := by
      show execRejectNearFullChange v s = _
      rw [execRejectNearFullChange, State.does_live live, u_eq]
      exact congrArg (fun t : State => Host.Outcome.next t.syncIdle) (if_neg differs)
    have report : u.recombine.report = { s.report with feed := u.recombine.report.feed, gov := u.recombine.report.gov } := by
      show u.report.recombine u.govCond u.now = _
      rw [Report.recombine_only]
      rw [u_eq]
      rfl
    refine ⟨_, e, (State.recombine_governed u).of_same (by rw [u_eq]) (by rw [u_eq]; rfl), ?_⟩
    have only : u.recombine = { s with
        pins := { s.pins with rejectNear := v }, rejectNear := q v
        report := { s.report with feed := u.recombine.report.feed, gov := u.recombine.report.gov } } := by
      rw [← report, u_eq]
      rfl
    rw [State.syncIdle_eq]
    show ({ u.recombine with run := { u.recombine.run with idle := u.recombine.syncIdle.run.idle } } : State) = _
    rw [only]
  · have e : exec (.rejectFullChange v) s = .next
        ({ s with rejectFull := q v, pins := { s.pins with rejectFull := v } }.setReason .rejectFull v).syncIdle := by
      show execRejectFullChange v s = _
      rw [execRejectFullChange, State.does_live live]
      exact congrArg (fun t : State => Host.Outcome.next t.syncIdle) (if_neg differs)
    exact ⟨_, e, rfl, (State.setReason_stands ..).trans (by rw [if_pos rfl])⟩

end Sys2Proof.Machine

namespace Sys2Proof.Machine

/-! ## The attention summary -/

/-- What is latched, and the towers' attention flags, stay (R157). -/
def State.keepsAttention (s t : State) : Prop :=
  (∀ c, s.latched c → t.latched c) ∧ ∀ j : Fin 4, s.report.notice.towerFlags[j] = true → t.report.notice.towerFlags[j] = true

theorem State.keepsAttention.of_notice {s t : State} (h : t.report.notice = s.report.notice) : s.keepsAttention t := by
  unfold State.keepsAttention State.latched
  rw [h]
  exact ⟨fun _ => id, fun _ => id⟩

theorem State.keepsAttention.refl (s : State) : s.keepsAttention s := .of_notice rfl

theorem State.keepsAttention.trans {s t u : State} (h : s.keepsAttention t) (k : t.keepsAttention u) : s.keepsAttention u :=
  ⟨fun c latched => k.1 c (h.1 c latched), fun j flag => k.2 j (h.2 j flag)⟩

theorem State.keepsAttention.foldl {α : Type} {f : State → α → State} (h : ∀ (s : State) (a : α), s.keepsAttention (f s a)) (l : List α)
    (s : State) : s.keepsAttention (l.foldl f s) := by
  induction l generalizing s with
  | nil => exact .refl s
  | cons a l ih => exact (h s a).trans (ih _)

/-- The attention flags after a cause has been handed over (R157). -/
theorem State.notify_flags (n : Notice) (origin : Option (Fin 4)) (s : State) (j : Fin 4) :
    (s.notify n origin).report.notice.towerFlags[j] =
      (s.report.notice.towerFlags[j] || decide (origin = some j ∧ (n.cause.cls = 2 ∨ n.cause.cls = 3))) := by
  obtain ⟨-, becomes⟩ := State.notify_handed n origin s
  split_ifs at becomes
  · rw [becomes.1]
    simp
  · rw [becomes.1]
    simp
  · rw [becomes.1]
    simp
  · rw [becomes.2]
    simp

theorem State.notify_attention (n : Notice) (origin : Option (Fin 4)) (s : State) : s.keepsAttention (s.notify n origin) := by
  refine ⟨fun c latched => (State.notify_latched ..).mpr (.inr latched), fun j flag => ?_⟩
  rw [State.notify_flags, flag]
  rfl

theorem State.binsChanged_attention (s was : State) (bs : List (Fin 41)) : s.keepsAttention (s.binsChanged was bs) := by
  have told : s.keepsAttention (s.binsTold was bs) := .foldl (fun u b => by
    unfold State.binNotice
    dsimp only
    split
    · exact .refl u
    split
    · exact u.notify_attention _ _
    split
    · exact u.notify_attention _ _
    · exact .refl u) bs s
  exact told.trans (.of_notice (State.recombine_notice _))

/-! ## Wake events -/

/-- A wake event of tower `k` wakes the part (R122). -/
def State.wakesBy (k : Fin 4) (s : State) : Prop := s.run.op = .standby ∧ s.chain.towers[k].wakeEnable = true

theorem State.wakeEvent_of {k : Fin 4} {s : State} (wakes : s.wakesBy k) : s.wakeEvent k = s.enterWaking := by
  obtain ⟨op, enabled⟩ := wakes
  exact if_pos (Bool.and_eq_true_iff.mpr ⟨decide_eq_true op, enabled⟩)

theorem State.wakeEvent_not {k : Fin 4} {s : State} (stays : ¬ s.wakesBy k) : s.wakeEvent k = s :=
  if_neg (by simpa [State.wakesBy] using stays)

theorem State.wakeByBin_of {b : Fin 41} {k : Fin 4} (at_ : towerOf b = some k) (s : State) : s.wakeByBin b = s.wakeEvent k := by
  unfold State.wakeByBin
  rw [at_]

theorem State.wakeByBin_none {b : Fin 41} (at_ : towerOf b = none) (s : State) : s.wakeByBin b = s := by
  unfold State.wakeByBin
  rw [at_]

/-- A wake event changes the hold reason WAKE and the run state alone (R122, R147). -/
theorem State.wakeEvent_only (k : Fin 4) (s : State) :
    s.wakeEvent k = { s with
      report := { s.report with feed := (s.wakeEvent k).report.feed }, run := (s.wakeEvent k).run } ∧
    (∀ r, r ≠ .wake → ((s.wakeEvent k).stands r ↔ s.stands r)) := by
  by_cases wakes : s.wakesBy k
  · rw [State.wakeEvent_of wakes]
    refine ⟨rfl, fun r other => ?_⟩
    show (State.raise .wake _).stands r ↔ _
    rw [State.raise_stands]
    exact ⟨fun h => h.resolve_left other, .inr⟩
  · rw [State.wakeEvent_not wakes]
    exact ⟨rfl, fun _ _ => Iff.rfl⟩

theorem State.wakeByBin_only (b : Fin 41) (s : State) :
    s.wakeByBin b = { s with
      report := { s.report with feed := (s.wakeByBin b).report.feed }, run := (s.wakeByBin b).run } ∧
    (∀ r, r ≠ .wake → ((s.wakeByBin b).stands r ↔ s.stands r)) := by
  cases at_ : towerOf b with
  | none => rw [State.wakeByBin_none at_]; exact ⟨rfl, fun _ _ => Iff.rfl⟩
  | some k => rw [State.wakeByBin_of at_]; exact s.wakeEvent_only k

/-! ## A bin's sensors -/

/-- `t` is `s` with bin `b` corrected to `x`: pins, reports and cursors apart, nothing else changes, and what is latched stays. -/
structure State.Corrects (b : Fin 41) (x : Bin) (s t : State) : Prop where
  frame : t = { s with pins := t.pins, report := t.report, routes := t.routes, bins := s.bins.set b x }
  attention : s.keepsAttention t

/-- The governor and OVERFLOW FULL follow a changed fill (R150, R152). -/
def State.followed (s t : State) : Prop := s.governed t ∧ (t.stands .overflowFull ↔ t.binState 0 = .full)

/-- One bin changed and derived again, without a set held: its cursor-return test and its event follow (R98, R103, R131). -/
theorem State.updateBin_corrects {b : Fin 41} {f : Bin → Bin} {s : State} :
    s.Corrects b (f s.bins[b]) (s.updateBin b f) ∧ (s.updateBin b f).pins = s.pins ∧ s.followed (s.updateBin b f) := by
  obtain ⟨frame, governed, overflow, -⟩ := State.binsChanged_tells (s.modBin b f) s [b]
  have attention := State.binsChanged_attention (s.modBin b f) s [b]
  refine ⟨⟨?_, State.keepsAttention.trans (.of_notice rfl) attention⟩, ?_, governed.of_same rfl Iff.rfl, overflow⟩
  · unfold State.updateBin
    rw [frame]
    rfl
  · unfold State.updateBin
    rw [frame]
    rfl

/-- What follows a corrected bin, its cursor-return test and its event, with no set held. -/
theorem State.Corrects.then {b : Fin 41} {x : Bin} {s t : State} (h : s.Corrects b x t) (none_ : s.noneHeld) (followed : s.followed t) :
    s.Corrects b x ((t.cursorReturn b).binEvent b) ∧ ((t.cursorReturn b).binEvent b).pins = t.pins ∧
      s.followed ((t.cursorReturn b).binEvent b) := by
  have unheld : (t.cursorReturn b).noneHeld := by
    show t.noneHeld
    rw [h.frame]
    exact none_
  rw [State.binEvent_noneHeld unheld]
  have frame := h.frame
  refine ⟨⟨?_, h.attention.trans (.of_notice rfl)⟩, rfl, followed.1.then rfl rfl (State.combines_congr rfl rfl rfl rfl rfl rfl) Iff.rfl, followed.2⟩
  show ({ t with routes := (t.cursorReturn b).routes } : State) = { s with
    pins := t.pins, report := t.report, routes := (t.cursorReturn b).routes, bins := s.bins.set b x }
  generalize (t.cursorReturn b).routes = q
  rw [frame]

/-! ### The present sensor -/

/-- Whether a present sensor qualified as `v` is an empty (R110). -/
def Bin.empties (v : Bool) (x : Bin) : Bool := !v && (x.present.state = some true || (x.present.state = none && 0 < x.fill))

/-- A bin as its present sensor takes a qualified state (R110). -/
def Bin.presentQualified (v : Bool) (x : Bin) : Bin :=
  if x.empties v then { x with present := .qualified v, fill := 0, count := 0, nextSide := .left } else { x with present := .qualified v }

/-- The part with a bin's present sensor qualified, before an empty of it takes effect. -/
def State.presentSet (b : Fin 41) (v : Bool) (s : State) : State := { s.modBin b fun x => { x with present := .qualified v } with
  pins := { s.pins with bin0Present := if b = 0 then v else s.pins.bin0Present } }

theorem State.presentQualified_of (b : Fin 41) (v : Bool) (s : State) :
    s.presentQualified b v = if s.bins[b].empties v then (s.presentSet b v).binEmptied b else s.presentSet b v := rfl

theorem State.presentSet_corrects (b : Fin 41) (v : Bool) (s : State) :
    s.Corrects b { s.bins[b] with present := .qualified v } (s.presentSet b v) := ⟨rfl, .of_notice rfl⟩

/-- An empty of a bin, with no set held (R110). -/
theorem State.binEmptied_corrects {b : Fin 41} {s : State} (none_ : s.noneHeld) :
    s.Corrects b { s.bins[b] with fill := 0, count := 0, nextSide := .left } (s.binEmptied b) ∧ (s.binEmptied b).pins = s.pins ∧
    s.followed (s.binEmptied b) ∧ (s.binEmptied b).latched .binEmptied ∧
    ∀ k, towerOf b = some k → (s.binEmptied b).report.notice.towerFlags[k] = true := by
  obtain ⟨u, u_eq⟩ : ∃ u, u = s.notify ⟨.binEmptied, some b.val, some s.bins[b].fill, some s.bins[b].count, none⟩ (towerOf b) := ⟨_, rfl⟩
  have told : s.binEmptied b =
      ((u.updateBin b fun x => { x with fill := 0, count := 0, nextSide := .left }).cursorReturn b).binEvent b := by rw [u_eq]; rfl
  have only : u = { s with report := u.report } := by rw [u_eq]; rfl
  have attention : s.keepsAttention u := by rw [u_eq]; exact s.notify_attention _ _
  have tells : s.report.Tells [] u.report := by rw [u_eq]; exact s.notify_tells _ _
  have latched : u.latched .binEmptied := by rw [u_eq]; exact (State.notify_latched ..).mpr (.inl rfl)
  have flag (k : Fin 4) (at_ : towerOf b = some k) : u.report.notice.towerFlags[k] = true := by
    rw [u_eq, State.notify_flags, at_]
    simp [Cause.cls]
  have unheld : u.noneHeld := by rw [only]; exact none_
  obtain ⟨corrects, pins, followed⟩ := State.updateBin_corrects (b := b) (f := fun x => { x with fill := 0, count := 0, nextSide := .left })
    (s := u)
  obtain ⟨corrects, pins', followed⟩ := corrects.then unheld followed
  rw [told]
  generalize ((u.updateBin b fun x => { x with fill := 0, count := 0, nextSide := .left }).cursorReturn b).binEvent b = t at *
  refine ⟨⟨?_, attention.trans corrects.attention⟩, ?_, ⟨followed.1.of_same tells.gov tells.governor, followed.2⟩,
    corrects.attention.1 _ latched, fun k at_ => corrects.attention.2 k (flag k at_)⟩
  · rw [corrects.frame]
    rw [only]
  · rw [pins', pins, only]

/-- What a present sensor qualified as `v` leaves, with no set held (R110). -/
theorem State.presentQualified_corrects {b : Fin 41} {v : Bool} {s : State} (none_ : s.noneHeld) :
    s.Corrects b (s.bins[b].presentQualified v) (s.presentQualified b v) ∧
    (s.presentQualified b v).pins = { s.pins with bin0Present := if b = 0 then v else s.pins.bin0Present } ∧
    (s.bins[b].empties v = true → s.followed (s.presentQualified b v) ∧ (s.presentQualified b v).latched .binEmptied ∧
      ∀ k, towerOf b = some k → (s.presentQualified b v).report.notice.towerFlags[k] = true) ∧
    (s.bins[b].empties v = false → s.presentQualified b v = s.presentSet b v) := by
  rw [State.presentQualified_of, Bin.presentQualified]
  have set := s.presentSet_corrects b v
  cases empties : s.bins[b].empties v with
  | false => exact ⟨set, rfl, nofun, fun _ => rfl⟩
  | true =>
    obtain ⟨corrects, pins, followed, latched, flags⟩ := State.binEmptied_corrects (b := b) (s := s.presentSet b v) none_
    have bin : (s.presentSet b v).bins[b] = { s.bins[b] with present := .qualified v } := by
      show (s.bins.set b _)[b] = _
      simp
    rw [bin] at corrects
    refine ⟨⟨?_, set.attention.trans corrects.attention⟩, pins, fun _ => ⟨⟨followed.1.of_same rfl Iff.rfl, followed.2⟩, latched, flags⟩, nofun⟩
    have frame := corrects.frame
    rw [if_pos rfl, if_pos rfl]
    generalize (s.presentSet b v).binEmptied b = t at *
    rw [frame]
    show ({ s with pins := t.pins, report := t.report, routes := t.routes, bins := (s.bins.set b _).set b _ } : State) = _
    rw [Vector.set_set]

/-! ### The full sensor -/

/-- The part with a bin's full sensor qualified and its fill corrected, before a re-reference takes effect (R111, R112). -/
def State.fullSet (b : Fin 41) (v : Bool) (s : State) : State := { s.updateBin b (Bin.fullQualified v) with
  pins := { s.pins with bin0Full := if b = 0 then v else s.pins.bin0Full } }

theorem State.fullQualified_of (b : Fin 41) (v : Bool) (s : State) : s.fullQualified b v =
    if !v && s.bins[b].rereferences then ((s.fullSet b v).cursorReturn b).binEvent b else s.fullSet b v := by
  unfold State.fullQualified State.fullSet Bin.rereferences
  simp only [State.updateBin_frame, Bool.and_assoc]

/-- What a full sensor qualified as `v` leaves, with no set held (R111, R112). -/
theorem State.fullQualified_corrects {b : Fin 41} {v : Bool} {s : State} (none_ : s.noneHeld) :
    s.Corrects b (s.bins[b].fullQualified v) (s.fullQualified b v) ∧
    (s.fullQualified b v).pins = { s.pins with bin0Full := if b = 0 then v else s.pins.bin0Full } ∧
    s.followed (s.fullQualified b v) := by
  obtain ⟨corrects, -, followed⟩ := State.updateBin_corrects (b := b) (f := Bin.fullQualified v) (s := s)
  have set : s.Corrects b (s.bins[b].fullQualified v) (s.fullSet b v) := by
    refine ⟨?_, corrects.attention.trans (.of_notice rfl)⟩
    unfold State.fullSet
    have frame := corrects.frame
    generalize s.updateBin b (Bin.fullQualified v) = t at *
    rw [frame]
  have followed' : s.followed (s.fullSet b v) :=
    ⟨followed.1.then rfl rfl (State.combines_congr rfl rfl rfl rfl rfl rfl) Iff.rfl, followed.2⟩
  rw [State.fullQualified_of]
  split
  · obtain ⟨corrects, pins, followed⟩ := set.then none_ followed'
    exact ⟨corrects, pins, followed⟩
  · exact ⟨set, rfl, followed'⟩

end Sys2Proof.Machine

namespace Sys2Proof.Machine

/-! ## The changes of a bin's sensors -/

theorem Tower.state_powered {x : Tower} (present : x.present = true) (power : x.power.state = some true) : x.state ≠ .unpowered := by
  unfold Tower.state
  rw [if_neg (by simp [present]), if_neg (by simp [power])]
  split <;> nofun

theorem State.polled_of {k : Fin 4} {s : State} (present : s.chain.towers[k].present = true) (enum : s.chain.enum = none) :
    s.polled k = true := Bool.and_eq_true_iff.mpr ⟨present, by rw [enum]; rfl⟩

theorem State.sampled_of {b : Fin 41} {s : State}
    (powered : ∀ k, towerOf b = some k → s.chain.towers[k].present = true ∧ s.chain.enum = none ∧ s.chain.towers[k].power.state = some true) :
    s.sampled b = true := by
  unfold State.sampled
  split
  · rfl
  · rename_i k at_
    obtain ⟨present, enum, power⟩ := powered k at_
    exact Bool.and_eq_true_iff.mpr ⟨State.polled_of present enum, decide_eq_true (Tower.state_powered present power)⟩

theorem State.sampled_enumerating {b : Fin 41} {s : State} (tower : b ≠ 0) (enum : s.chain.enum ≠ none) : s.sampled b = false := by
  have in_ : towerOf b ≠ none := fun e => tower (Fin.ext (by simpa [towerOf] using e))
  unfold State.sampled
  split
  · rename_i e
    exact absurd e in_
  · simp [State.polled, enum]

/-- The levels at the pins as bin `b` reads `x`: bin 0's sensors are inputs of the part (log entry 20). -/
def State.binPins (b : Fin 41) (x : Bin) (s : State) : Pins :=
  if b = 0 then
    { s.pins with
      bin0Present := if x.present = s.bins[b].present then s.pins.bin0Present else decide (x.present.state = some true)
      bin0Full := if x.full = s.bins[b].full then s.pins.bin0Full else decide (x.full.state = some true) }
  else s.pins

theorem State.binPins_present {b : Fin 41} {v : Bool} {x : Bin} {s : State} (differs : s.bins[b].present.state ≠ some v)
    (present : x.present = .qualified v) (full : x.full = s.bins[b].full) :
    s.binPins b x = { s.pins with bin0Present := if b = 0 then v else s.pins.bin0Present } := by
  have new : Qual.qualified v ≠ s.bins[b].present := fun e => differs (by rw [← e]; rfl)
  unfold State.binPins
  by_cases zero : b = 0
  · rw [if_pos zero, if_pos zero, present, full, if_neg new, if_pos rfl]
    cases v <;> rfl
  · rw [if_neg zero, if_neg zero]

theorem State.binPins_full {b : Fin 41} {v : Bool} {x : Bin} {s : State} (differs : s.bins[b].full.state ≠ some v)
    (present : x.present = s.bins[b].present) (full : x.full = .qualified v) :
    s.binPins b x = { s.pins with bin0Full := if b = 0 then v else s.pins.bin0Full } := by
  have new : Qual.qualified v ≠ s.bins[b].full := fun e => differs (by rw [← e]; rfl)
  unfold State.binPins
  by_cases zero : b = 0
  · rw [if_pos zero, if_pos zero, present, full, if_neg new, if_pos rfl]
    cases v <;> rfl
  · rw [if_neg zero, if_neg zero]

/-- A wake event leaves the governor and OVERFLOW FULL as they followed. -/
theorem State.followed.woken {s u : State} (h : s.followed u) (b : Fin 41) : s.followed (u.wakeByBin b) := by
  obtain ⟨only, stands⟩ := u.wakeByBin_only b
  have overflow := stands .overflowFull nofun
  have governor := stands .governor nofun
  generalize u.wakeByBin b = t at *
  have gov : t.report.gov = u.report.gov := by rw [only]
  have bins : t.bins = u.bins := by rw [only]
  have chain : t.chain = u.chain := by rw [only]
  refine ⟨h.1.then gov (by rw [only]) ?_ governor, ?_⟩
  · exact State.combines_congr gov (by rw [only]) (by rw [only]) bins chain (by rw [only])
  · rw [overflow, State.binState_same bins chain]
    exact h.2

/-- What a qualified change of a bin's sensor leaves, with no set held: `t` of O49. -/
theorem exec_corrects {c : Instr} {b : Fin 41} {x : Bin} {s u : State} (e : exec c s = .next (u.wakeByBin b).syncIdle)
    (corrects : s.Corrects b x u) (pins : u.pins = s.binPins b x)
    (followed : x.fill ≠ s.bins[b].fill ∨ x.full ≠ s.bins[b].full → s.followed u)
    (emptied : c = .binEmpty b → s.bins[b].present.state = some true → u.latched .binEmptied ∧
      ∀ k, towerOf b = some k → u.report.notice.towerFlags[k] = true) :
    ∃ t, exec c s = .next t ∧ t.bins[b] = x ∧ (∀ k : Fin 41, k ≠ b → t.bins[k] = s.bins[k]) ∧
      t = { s with pins := s.binPins b x, report := t.report, routes := t.routes, bins := t.bins, run := t.run } ∧
      (x.fill ≠ s.bins[b].fill ∨ x.full ≠ s.bins[b].full → s.governed t ∧ (t.stands .overflowFull ↔ t.binState 0 = .full)) ∧
      (s.run.op ≠ .standby → t.run = { s.run with idle := t.run.idle }) ∧
      (∀ k, towerOf b = some k → s.run.op = .standby → t.run.op = if s.chain.towers[k].wakeEnable then .waking else .standby) ∧
      (c = .binEmpty b → s.bins[b].present.state = some true → t.latched .binEmptied ∧
        ∀ k, towerOf b = some k → t.report.notice.towerFlags[k] = true) := by
  have frame := corrects.frame
  have run : u.run = s.run := by rw [frame]
  have chain : u.chain = s.chain := by rw [frame]
  have woken : u.wakeByBin b = u ∨ ∃ k, towerOf b = some k ∧ u.wakesBy k ∧ u.wakeByBin b = u.enterWaking := by
    cases at_ : towerOf b with
    | none => exact .inl (State.wakeByBin_none at_ u)
    | some k =>
      rw [State.wakeByBin_of at_]
      by_cases wakes : u.wakesBy k
      · exact .inr ⟨k, rfl, wakes, State.wakeEvent_of wakes⟩
      · exact .inl (State.wakeEvent_not wakes)
  have follows := fun differs => (followed differs).woken b
  obtain ⟨only, -⟩ := u.wakeByBin_only b
  have op (k : Fin 4) (at_ : towerOf b = some k) (standby : s.run.op = .standby) :
      (u.wakeByBin b).run.op = if s.chain.towers[k].wakeEnable then .waking else .standby := by
    rw [State.wakeByBin_of at_]
    by_cases enabled : s.chain.towers[k].wakeEnable = true
    · rw [State.wakeEvent_of ⟨by rw [run]; exact standby, by rw [chain]; exact enabled⟩, if_pos enabled]
      rfl
    · rw [State.wakeEvent_not fun h => enabled (by rw [← chain]; exact h.2), if_neg enabled, run, standby]
  have notice : (u.wakeByBin b).report.notice = u.report.notice := by rw [only]
  have stays (other : s.run.op ≠ .standby) : (u.wakeByBin b).run = s.run := by
    obtain same | ⟨k, -, wakes, -⟩ := woken
    · rw [same, run]
    · exact absurd (run ▸ wakes.1) other
  generalize u.wakeByBin b = t at *
  have bins : t.bins = s.bins.set b x := by rw [only, frame]
  refine ⟨_, e, ?_, fun k other => ?_, ?_, fun differs => follows differs, fun other => ?_, op, fun same covered => ?_⟩
  · show t.bins[b] = x
    rw [bins]
    simp
  · show t.bins[k] = _
    rw [bins]
    exact Vector.getElem_set_ne _ _ (fun same => other (Fin.ext same.symm))
  · rw [← pins]
    show ({ t with run := t.syncIdle.run } : State) = _
    rw [only]
    rw [frame]
    rfl
  · show t.syncIdle.run = _
    rw [State.syncIdle_eq]
    show ({ t.run with idle := _ } : RunController) = _
    rw [stays other]
  · obtain ⟨latched, flags⟩ := emptied same covered
    refine ⟨?_, fun k at_ => ?_⟩
    · show _ ∈ t.report.notice.flags
      rw [notice]
      exact latched
    · show t.report.notice.towerFlags[k] = true
      rw [notice]
      exact flags k at_

end Sys2Proof.Machine

namespace Sys2Proof.Machine

/-! ### The five commands -/

theorem exec_binEmpty {b : Fin 41} {s : State} (live : s.live) (sampled : s.sampled b = true) (differs : s.bins[b].present.state ≠ some false) :
    exec (.binEmpty b) s = .next ((s.presentQualified b false).wakeByBin b).syncIdle := by
  show execBinEmpty b s = _
  rw [execBinEmpty, State.does_live live]
  exact congrArg (fun t : State => Host.Outcome.next t.syncIdle) (if_pos (Bool.and_eq_true_iff.mpr ⟨sampled, decide_eq_true differs⟩))

theorem exec_binPresentCovered {b : Fin 41} {s : State} (live : s.live) (sampled : s.sampled b = true)
    (differs : s.bins[b].present.state ≠ some true) :
    exec (.binPresentCovered b) s = .next ((s.presentQualified b true).wakeByBin b).syncIdle := by
  show execBinPresentCovered b s = _
  rw [execBinPresentCovered, State.does_live live]
  exact congrArg (fun t : State => Host.Outcome.next t.syncIdle) (if_pos (Bool.and_eq_true_iff.mpr ⟨sampled, decide_eq_true differs⟩))

theorem exec_binFullSensorCovered {b : Fin 41} {s : State} (live : s.live) (sampled : s.sampled b = true)
    (differs : s.bins[b].full.state ≠ some true) :
    exec (.binFullSensorCovered b) s = .next ((s.fullQualified b true).wakeByBin b).syncIdle := by
  show execBinFullSensorCovered b s = _
  rw [execBinFullSensorCovered, State.does_live live]
  exact congrArg (fun t : State => Host.Outcome.next t.syncIdle) (if_pos (Bool.and_eq_true_iff.mpr ⟨sampled, decide_eq_true differs⟩))

theorem exec_binFullSensorClear {b : Fin 41} {s : State} (live : s.live) (sampled : s.sampled b = true)
    (differs : s.bins[b].full.state ≠ some false) (plain : s.bins[b].rereferences = false) :
    exec (.binFullSensorClear b) s = .next ((s.fullQualified b false).wakeByBin b).syncIdle := by
  show execBinFullSensorClear b s = _
  rw [execBinFullSensorClear, State.does_live live]
  exact congrArg (fun t : State => Host.Outcome.next t.syncIdle) (if_pos (Bool.and_eq_true_iff.mpr
    ⟨Bool.and_eq_true_iff.mpr ⟨sampled, decide_eq_true differs⟩, by rw [plain]; rfl⟩))

theorem exec_reReference {b : Fin 41} {s : State} (live : s.live) (sampled : s.sampled b = true) (renews : s.bins[b].rereferences = true) :
    exec (.reReference b) s = .next ((s.fullQualified b false).wakeByBin b).syncIdle := by
  show execReReference b s = _
  rw [execReReference, State.does_live live]
  exact congrArg (fun t : State => Host.Outcome.next t.syncIdle) (if_pos (Bool.and_eq_true_iff.mpr ⟨sampled, renews⟩))

/-- While its sensors are not sampled a bin has no qualified change (R117). -/
theorem exec_unsampled {b : Fin 41} {s : State} (live : s.live) (unsampled : s.sampled b = false) :
    ∀ c ∈ [Instr.binEmpty b, .binPresentCovered b, .binFullSensorCovered b, .binFullSensorClear b, .reReference b],
      exec c s = .next s.syncIdle := by
  have stays {p : Bool} {u : State} (h : (s.sampled b && p) = false) : (if s.sampled b && p then u else s) = s := if_neg (by simp [h])
  have no (p : Bool) : (s.sampled b && p) = false := by rw [unsampled]; rfl
  intro c among
  simp only [List.mem_cons, List.not_mem_nil, or_false] at among
  obtain rfl | rfl | rfl | rfl | rfl := among
  · show execBinEmpty b s = _
    rw [execBinEmpty, State.does_live live]
    exact congrArg (fun t : State => Host.Outcome.next t.syncIdle) (stays (no _))
  · show execBinPresentCovered b s = _
    rw [execBinPresentCovered, State.does_live live]
    exact congrArg (fun t : State => Host.Outcome.next t.syncIdle) (stays (no _))
  · show execBinFullSensorCovered b s = _
    rw [execBinFullSensorCovered, State.does_live live]
    exact congrArg (fun t : State => Host.Outcome.next t.syncIdle) (stays (no _))
  · show execBinFullSensorClear b s = _
    rw [execBinFullSensorClear, State.does_live live]
    exact congrArg (fun t : State => Host.Outcome.next t.syncIdle) (if_neg (by rw [unsampled]; nofun))
  · show execReReference b s = _
    rw [execReReference, State.does_live live]
    exact congrArg (fun t : State => Host.Outcome.next t.syncIdle) (stays (no _))

theorem Bin.empties_iff (v : Bool) (x : Bin) :
    x.empties v = true ↔ v = false ∧ (x.present.state = some true ∨ (x.present.state = none ∧ 0 < x.fill)) := by
  simp [Bin.empties]

theorem Bin.rereferences_iff (x : Bin) : x.rereferences = true ↔ x.full.state = some true ∧ x.present.state = some true := by
  simp [Bin.rereferences]

theorem Bin.fullQualified_clear {x : Bin} (plain : ¬ (x.full.state = some true ∧ x.present.state = some true)) :
    x.fullQualified false = { x with full := ⟨some false, some false, 0⟩ } := by
  unfold Bin.fullQualified
  rw [if_neg nofun, if_neg fun h => plain (by simpa using h)]
  rfl

theorem Bin.fullQualified_renewed {x : Bin} (full : x.full.state = some true) (present : x.present.state = some true) :
    x.fullQualified false = { x with full := ⟨some false, some false, 0⟩, fill := x.capacity - x.margin - 1 } := by
  unfold Bin.fullQualified
  rw [if_neg nofun, if_pos (by simp [full, present])]
  rfl

/-- Settles O49: the two sensors' corrections, each under its commands, and then the wake event. -/
theorem binSensorsCorrectTheFill : Obligations.BinSensorsCorrectTheFill := by
  intro s b live
  refine ⟨fun none_ powered => ?_, fun tower enum => exec_unsampled live (State.sampled_enumerating tower enum)⟩
  have sampled := State.sampled_of powered
  intro becomes
  have present {c : Instr} (v : Bool) (differs : s.bins[b].present.state ≠ some v) (clears : c = .binEmpty b → v = false)
      (e : exec c s = .next ((s.presentQualified b v).wakeByBin b).syncIdle) : becomes c (s.bins[b].presentQualified v) := by
    obtain ⟨corrects, pins, empties, plain⟩ := State.presentQualified_corrects (b := b) (v := v) none_
    have full : (s.bins[b].presentQualified v).full = s.bins[b].full := by
      unfold Bin.presentQualified
      split <;> rfl
    have qualified : (s.bins[b].presentQualified v).present = .qualified v := by
      unfold Bin.presentQualified
      split <;> rfl
    refine exec_corrects e corrects (pins.trans (State.binPins_present differs qualified full).symm) (fun changed => ?_)
      fun same covered => ?_
    · cases empty : s.bins[b].empties v with
      | true => exact (empties empty).1
      | false =>
        refine changed.elim (fun fill => absurd ?_ fill) fun n => absurd full n
        unfold Bin.presentQualified
        rw [empty]
        rfl
    · exact (empties ((Bin.empties_iff ..).mpr ⟨clears same, .inl covered⟩)).2
  have full {c : Instr} (v : Bool) (differs : s.bins[b].full.state ≠ some v) (other : c ≠ .binEmpty b)
      (e : exec c s = .next ((s.fullQualified b v).wakeByBin b).syncIdle) : becomes c (s.bins[b].fullQualified v) := by
    obtain ⟨corrects, pins, followed⟩ := State.fullQualified_corrects (b := b) (v := v) none_
    exact exec_corrects e corrects (pins.trans (State.binPins_full (x := s.bins[b].fullQualified v) differs rfl rfl).symm) (fun _ => followed) fun same => absurd same other
  have uncovered {q : Qual} {v w : Bool} (h : q.state = some w) (n : w ≠ v) : q.state ≠ some v := fun e =>
    n (Option.some.inj (h.symm.trans e))
  have unknown {q : Qual} {v : Bool} (h : q.state = none) : q.state ≠ some v := fun e => nomatch h.symm.trans e
  refine ⟨fun empty => ?_, fun fresh unfilled => ?_, fun differs => ?_, fun differs => ?_, fun plain => ?_, fun fullNow covered => ?_⟩
  · have differs : s.bins[b].present.state ≠ some false := empty.elim (fun h => uncovered h nofun) fun h => unknown h.1
    have goal := present false differs (fun _ => rfl) (exec_binEmpty live sampled differs)
    unfold Bin.presentQualified at goal
    rw [if_pos ((Bin.empties_iff ..).mpr ⟨rfl, empty⟩)] at goal
    exact goal
  · have differs : s.bins[b].present.state ≠ some false := unknown fresh
    have goal := present false differs (fun _ => rfl) (exec_binEmpty live sampled differs)
    unfold Bin.presentQualified at goal
    rw [if_neg fun h => ((Bin.empties_iff ..).mp h).2.elim (unknown fresh) fun h => absurd unfilled (Nat.pos_iff_ne_zero.mp h.2)] at goal
    exact goal
  · have goal := present (c := .binPresentCovered b) true differs nofun (exec_binPresentCovered live sampled differs)
    unfold Bin.presentQualified at goal
    rw [if_neg fun h => nomatch ((Bin.empties_iff true _).mp h).1] at goal
    exact goal
  · exact full (c := .binFullSensorCovered b) true differs nofun (exec_binFullSensorCovered live sampled differs)
  · have differs : s.bins[b].full.state ≠ some false := plain.elim unknown fun h => uncovered h.1 nofun
    have no : ¬ (s.bins[b].full.state = some true ∧ s.bins[b].present.state = some true) := fun h =>
      plain.elim (fun n => unknown n h.1) fun n => n.2 h.2
    have goal := full (c := .binFullSensorClear b) false differs nofun
      (exec_binFullSensorClear live sampled differs (Bool.eq_false_iff.mpr fun h => no ((Bin.rereferences_iff _).mp h)))
    rw [Bin.fullQualified_clear no] at goal
    exact goal
  · have goal := full (c := .reReference b) false (uncovered fullNow nofun) nofun
      (exec_reReference live sampled ((Bin.rereferences_iff _).mpr ⟨fullNow, covered⟩))
    rw [Bin.fullQualified_renewed fullNow covered] at goal
    exact goal

end Sys2Proof.Machine

/-! Sheets with a readable descriptor at S1 (R35 to R41). -/

namespace Sys2Proof.Machine

/-! ## The head taken -/

/-- Without debt, taking the head leaves the rest of the queue, and QUEUE may drop (R29, R30). -/
theorem State.takeHead_only {s : State} {head : Entry} {rest : List Entry} (entries : s.queue.entries = head :: rest)
    (noDebt : s.queue.debt = 0) : s.takeHead = { s with
      queue := { s.queue with entries := rest }, report := { s.report with feed := s.takeHead.report.feed } } := by
  have taken : s.queue.taken = { s.queue with entries := rest } := by
    rw [DescQueue.taken_of_no_debt _ noDebt, entries, List.tail_cons]
  unfold State.takeHead
  rw [taken]
  rfl

theorem exec_s1Descriptor {s : State} {d : Descriptor} {rest : List Entry} (live : s.live) (working : s.working = true)
    (room : s.path.list.length < 6) (entries : s.queue.entries = .descriptor d :: rest) :
    exec .s1LeadingEdge s = .next (s.coverS1.takeHead.classifyDescriptor d).syncIdle := by
  rw [exec_s1LeadingEdge_of_room s live working room]
  have classify : s.coverS1.classify = s.coverS1.takeHead.classifyDescriptor d := by
    have entries' : s.coverS1.queue.entries = .descriptor d :: rest := entries
    simp [State.classify, entries']
  rw [classify]

/-! ## The sheet on the path -/

/-- The path-list entry of a sheet with a readable descriptor, just classified (R39, R40, R49, R50). -/
def PathMonitor.describedEntry (now : Nat) (d : Descriptor) (body : SheetBody) (p : PathMonitor) : PathEntry :=
  { id := p.freeId, seq := some d.seq, slotOrd := some (d.slot, d.setOrdinal), sheetOrd := some d.sheetOrdinal, body := body
    mismatch := false, stage := if body.isBound then .toS2 else .toSR
    window := some ⟨now, p.lateLimit (if body.isBound then p.timing[4] else p.timing[6])⟩, s1Clear := false, released := false }

theorem PathMonitor.describedEntry_enters (now : Nat) (d : Descriptor) (body : SheetBody) (p : PathMonitor) (h : p.list.length < 6) :
    (p.describedEntry now d body).enters now p body := by
  obtain ⟨fresh, freshS2⟩ := p.freeId_fresh h
  refine ⟨rfl, rfl, rfl, rfl, fresh, freshS2, ?_⟩
  cases body <;> exact ⟨rfl, rfl⟩

/-! ### Bound sheets -/

/-- A set's record as a sheet of the given eligibility is bound to it (R39). -/
def SetRec.withSheet (eligible : Bool) (x : SetRec) : SetRec := { x with allEligible := x.allEligible && eligible }

/-- A set's record as its LAST sheet has been bound, its landed sheets fewer than its bound ones (R38). -/
def SetRec.lastSheet (d : Descriptor) (x : SetRec) : SetRec :=
  { (if x.count.isSome ∧ x.count ≠ some d.sheetOrdinal then x.markBroken .countShort else x) with state := .gathering }

/-- The part with a sheet bound to record `r`, which becomes `y` (R38, R39). -/
def State.boundAs (d : Descriptor) (r : Fin 8) (y : SetRec) (s : State) : State := { s.setRec r y with
  path := s.path.entered s.now (s.path.describedEntry s.now d (.bound r d.media s.media[d.media])) s.media[d.media].length
  binder := ⟨if d.last then none else s.binder.forming, .main⟩ }

/-- The record of a set with one sheet more bound to it. -/
def SetRec.taking (d : Descriptor) (eligible : Bool) (x : SetRec) : SetRec :=
  if d.last then (x.withSheet eligible).lastSheet d else x.withSheet eligible

theorem State.setRec_setRec (r : Fin 8) (x y : SetRec) (s : State) : (s.setRec r x).setRec r y = s.setRec r y := by
  unfold State.setRec
  dsimp only
  rw [Vector.set_set]

/-- A set that leaves FORMING with sheets still to land (R13). -/
theorem State.closeForming_open {s : State} {r : Fin 8} {x : SetRec} (used : s.getRec r = some x) (open_ : x.compiled ≠ x.bound) :
    s.closeForming r = { s.setRec r { x with state := .gathering } with binder := { s.binder with forming := none } } := by
  unfold State.closeForming
  rw [used]
  exact if_neg open_

theorem State.lastBound_open {d : Descriptor} {s : State} {r : Fin 8} {x : SetRec} (used : s.getRec r = some x)
    (open_ : x.compiled ≠ x.bound) :
    s.lastBound d r = { s.setRec r (x.lastSheet d) with binder := { s.binder with forming := none } } := by
  unfold State.lastBound SetRec.lastSheet
  rw [used]
  dsimp only
  by_cases short : x.count.isSome = true ∧ x.count ≠ some d.sheetOrdinal
  · rw [if_pos (by simpa using short), if_pos short, State.closeForming_open (x := x.markBroken .countShort) (State.setRec_getRec r _ s) open_,
      State.setRec_setRec]
    rfl
  · rw [if_neg (by simpa using short), if_neg short]
    exact State.closeForming_open used open_

/-- The sheet's binding, and the set's closing under a LAST flag, while sheets of it are still to land (R38, R39). -/
theorem State.bind_boundAs {d : Descriptor} {r : Fin 8} {x : SetRec} {s : State} (used : s.getRec r = some x) (open_ : x.compiled ≠ x.bound) :
    (if d.last then (s.bind d r).lastBound d r else s.bind d r) = s.boundAs d r (x.taking d s.media[d.media].eligible) := by
  obtain ⟨u, u_eq⟩ : ∃ u : State, u = { s with
      path := s.path.entered s.now (s.path.describedEntry s.now d (.bound r d.media s.media[d.media])) s.media[d.media].length
      binder := { s.binder with g1 := .main } } := ⟨_, rfl⟩
  have bind : s.bind d r = u.setRec r (x.withSheet s.media[d.media].eligible) := by
    have same : s.bind d r = u.modRec r fun x => x.withSheet s.media[d.media].eligible := by rw [u_eq]; rfl
    have used' : u.getRec r = some x := by rw [u_eq]; exact used
    rw [same, State.modRec, used']
  rw [bind]
  unfold State.boundAs SetRec.taking
  cases d.last with
  | false => rw [if_neg nofun, if_neg nofun, if_neg nofun, u_eq]; rfl
  | true =>
    rw [if_pos rfl, if_pos rfl, if_pos rfl, State.lastBound_open (State.setRec_getRec r _ u) (by exact open_), State.setRec_setRec, u_eq]
    rfl

/-! ## The completion test of a job still open -/

theorem State.completionTest_opened {i : Fin 16} {s : State} (opened : s.jobs[i].state = .opened) : s.completionTest i = s :=
  State.completionTest_fails fun h => by
    obtain ⟨state, -⟩ := (State.completes_iff i s).mp h
    rw [opened] at state
    exact state.elim nofun fun h => nomatch h.1

/-! ## The first sheet of a set -/

/-- The record of a set being opened, its first sheet bound to it (R12, R39). -/
def State.openedRec (d : Descriptor) (s : State) : SetRec := (s.newRec d).taking d s.media[d.media].eligible

/-- The part with a set being opened in record `r`, its job's counter raised, before its first sheet is bound (R11, R12, R36). -/
def State.opening (d : Descriptor) (r : Fin 8) (s : State) : State :=
  { (s.allocate r (s.newRec d)).bump d.slot Counters.addOpened with binder := { s.binder with forming := some r } }

theorem Counters.addOpened_eq (c : Counters) : c.addOpened = { c with opened := min 65535 (c.opened + 1) } := rfl

theorem State.opening_only {d : Descriptor} {r : Fin 8} {s : State} (opened : s.jobs[d.slot].state = .opened) :
    s.opening d r = { s with
      report := { s.report with feed := (s.opening d r).report.feed }
      sets := ⟨s.sets.recs.set r (some (s.newRec d)), s.sets.order ++ [r]⟩
      jobs := s.jobs.set d.slot { s.jobs[d.slot] with counters := s.jobs[d.slot].counters.addOpened }
      binder := { s.binder with forming := some r } } := by
  have used : (s.allocate r (s.newRec d)).jobs[d.slot].state ≠ .free := by
    show s.jobs[d.slot].state ≠ .free
    rw [opened]
    nofun
  unfold State.opening State.bump
  dsimp only
  rw [if_neg used]
  rfl

/-- A FIRST sheet opens its set, the forming set having been closed and a record being FREE (R36). -/
theorem State.openSet_closes {d : Descriptor} {r : Fin 8} {s w : State} (ended : s.endForming .missingEnd = w)
    (opened : w.jobs[d.slot].state = .opened) (free : w.sets.freeIndex = some r) :
    s.openSet d = (w.opening d r).boundAs d r (w.openedRec d) := by
  have only := State.opening_only (r := r) opened
  have used : (w.opening d r).getRec r = some (w.newRec d) := by
    rw [only]
    exact Vector.getElem_set_self _
  have media : (w.opening d r).media = w.media := by rw [only]
  have bound := State.bind_boundAs (d := d) used (by simp [State.newRec])
  rw [media] at bound
  unfold State.openSet
  dsimp only
  rw [ended, free]
  exact bound

/-- With no set forming, there is none to end. -/
theorem State.endForming_none (b : BrokenReason) {s : State} (forming : s.binder.forming = none) : s.endForming b = s := by
  unfold State.endForming
  rw [forming]

/-- A record with one sheet more, field by field (R38, R39). -/
theorem SetRec.taking_eq (d : Descriptor) (eligible : Bool) (x : SetRec) : x.taking d eligible = { x with
    allEligible := x.allEligible && eligible
    broken := if d.last = true ∧ x.count.isSome = true ∧ x.count ≠ some d.sheetOrdinal then some (x.broken.getD .countShort)
      else x.broken
    state := if d.last then .gathering else x.state } := by
  unfold SetRec.taking SetRec.lastSheet SetRec.withSheet
  cases d.last with
  | false => simp
  | true =>
    by_cases short : x.count.isSome = true ∧ x.count ≠ some d.sheetOrdinal
    · simp only [if_pos short, SetRec.markBroken, if_true, true_and]
    · simp only [if_neg short, if_true, true_and]

/-- The values of a record being opened (R12, R38, R39). -/
theorem State.openedRec_eq (d : Descriptor) (s : State) : s.openedRec d = { s.openedRec d with
    slot := d.slot, jobNumber := s.jobs[d.slot].number, setOrdinal := d.setOrdinal, part := 0, key := d.key, count := d.count
    pattern := d.finish.getD s.jobs[d.slot].pattern, policy := s.jobs[d.slot].policy, offset := s.jobs[d.slot].offset
    bound := 1, lastOrdinal := 1, compiled := 0, thickness := 0, allEligible := s.media[d.media].eligible
    broken := if d.last = true ∧ d.count.isSome = true ∧ d.count ≠ some d.sheetOrdinal then some .countShort else none
    decision := none, result := .notRequested, skip := none, height := none, chosen := none, partBin := none
    nextPart := none, side := .none, divert := none, place := .path
    state := if d.last then .gathering else .forming } := by
  unfold State.openedRec
  rw [SetRec.taking_eq]
  rfl

theorem State.openedRec_route (d : Descriptor) (s : State) :
    (s.openedRec d).route = s.routes.resolve s.jobs[d.slot].number d.key := by
  unfold State.openedRec
  rw [SetRec.taking_eq]
  rfl

theorem RouteEntry.routes_iff (job : Nat) (key : Option Nat) (e : RouteEntry) : e.routes job key = true ↔
    e.valid = true ∧ (e.job = none ∨ e.job = some job) ∧ (∀ k, key = some k → e.keyBase ≤ k ∧ k ≤ e.keyLimit) ∧
      (key = none → e.keyBase = 0 ∧ e.keyLimit = 65535) := by
  unfold RouteEntry.routes
  cases key <;> simp [and_assoc]

/-- The snapshot taken of the routes: the lowest entry that matches, or what is set for unmatched sets (R88, R89). -/
theorem RouteTable.resolve_of (job : Nat) (key : Option Nat) (t : RouteTable) :
    (∀ i : Fin 32, t.entries[i].routes job key = true → (∀ k : Fin 32, k < i → ¬ t.entries[k].routes job key = true) →
      t.resolve job key = .entry i t.entries[i].first t.entries[i].last t.entries[i].policy t.entries[i].generation) ∧
    ((∀ i : Fin 32, ¬ t.entries[i].routes job key = true) →
      t.resolve job key = if t.unmatched = .quiet then .default t.defaultBin else .none) := by
  unfold RouteTable.resolve
  refine ⟨fun i fits least => ?_, fun unmatched => ?_⟩
  · have found : (List.finRange 32).find? (fun i => t.entries[i].routes job key) = some i := by
      refine List.find?_eq_some_iff_getElem.mpr ⟨fits, i.val, by simp, by simp, fun j before => ?_⟩
      simpa using least ⟨j, by omega⟩ before
    rw [found]
  · rw [List.find?_eq_none.mpr fun i _ => unmatched i]

/-! ## The obligations on bound sheets -/

/-- A bound sheet leaves the part busy, so the idle timer stops (R145). -/
theorem State.boundAs_syncIdle (d : Descriptor) (r : Fin 8) (y : SetRec) (s : State) :
    (s.boundAs d r y).syncIdle = { s.boundAs d r y with run := { s.run with idle := none } } :=
  State.syncIdle_of_onPath _ (by simp [State.boundAs, PathMonitor.entered])

theorem State.boundAs_getRec (d : Descriptor) (r k : Fin 8) (y : SetRec) (s : State) :
    (s.boundAs d r y).getRec k = if k = r then some y else s.getRec k := State.setRec_getRec_ite r k y s

/-- Settles O32: the head is taken, the record opened, and the sheet bound to it. -/
theorem firstSheetOpensItsSet : Obligations.FirstSheetOpensItsSet := by
  intro s d rest live working room entries noDebt opened first forming ⟨q, unused⟩
  have e := exec_s1Descriptor live working room entries
  have only := State.takeHead_only (s := s.coverS1) entries noDebt
  generalize s.coverS1.takeHead = v at *
  obtain ⟨r, free⟩ : ∃ r, s.sets.freeIndex = some r := by
    cases found : s.sets.freeIndex with
    | some r => exact ⟨r, rfl⟩
    | none =>
      have used := List.find?_eq_none.mp found q (List.mem_finRange q)
      exact absurd (Option.isNone_iff_eq_none.mpr unused) used
  have opened' : v.jobs[d.slot].state = .opened := by rw [only]; exact opened
  have opens : v.openSet d = (v.opening d r).boundAs d r (v.openedRec d) :=
    State.openSet_closes (State.endForming_none _ (by rw [only]; exact forming)) opened' (by rw [only]; exact free)
  have opening := State.opening_only (d := d) (r := r) opened'
  have opened'' : ((v.opening d r).boundAs d r (v.openedRec d)).jobs[d.slot].state = .opened := by
    show (v.opening d r).jobs[d.slot].state = _
    rw [opening]
    simpa using opened'
  have classified : v.classifyDescriptor d = (v.opening d r).boundAs d r (v.openedRec d) := by
    unfold State.classifyDescriptor
    rw [if_neg fun n => n opened', if_pos first, opens]
    exact State.completionTest_opened opened''
  rw [classified, State.boundAs_syncIdle] at e
  have sets : v.sets = s.sets := by rw [only]; rfl
  have jobs : v.jobs = s.jobs := by rw [only]; rfl
  have routes : v.routes = s.routes := by rw [only]; rfl
  have openedRec : v.openedRec d = s.openedRec d := by
    rw [only]
    rfl
  have getRec (k : Fin 8) : (v.opening d r).getRec k = if k = r then some (v.newRec d) else s.getRec k := by
    show (v.opening d r).sets.recs[k] = _
    rw [opening, sets]
    exact State.setRec_getRec_ite r k _ s
  have raised : (v.opening d r).jobs = s.jobs.set d.slot { s.jobs[d.slot] with
      counters := { s.jobs[d.slot].counters with opened := min 65535 (s.jobs[d.slot].counters.opened + 1) } } := by
    rw [← Counters.addOpened_eq, ← jobs, opening]
  obtain ⟨matched, unmatched⟩ := RouteTable.resolve_of s.jobs[d.slot].number d.key s.routes
  have only' : (v.opening d r).boundAs d r (v.openedRec d) = { s with
      pins := { s.pins with s1 := true }
      report := { s.report with feed := (v.opening d r).report.feed }
      queue := { s.queue with entries := rest }
      jobs := (v.opening d r).jobs
      sets := ((v.opening d r).boundAs d r (v.openedRec d)).sets
      path := s.path.entered s.now (s.path.describedEntry s.now d (.bound r d.media s.media[d.media])) s.media[d.media].length
      binder := ⟨if d.last then none else some r, .main⟩ } := by
    unfold State.boundAs State.setRec
    rw [opening, only]
    rfl
  have jobs' : ((v.opening d r).boundAs d r (v.openedRec d)).jobs = (v.opening d r).jobs := rfl
  have order : ((v.opening d r).boundAs d r (v.openedRec d)).sets.order = s.sets.order ++ [r] := by
    show (v.opening d r).sets.order = _
    rw [opening, sets]
  have bound (k : Fin 8) := State.boundAs_getRec d r k (v.openedRec d) (v.opening d r)
  have run : (v.opening d r).run = s.run := by rw [opening, only]; rfl
  rw [run] at e
  generalize (v.opening d r).boundAs d r (v.openedRec d) = u at *
  refine ⟨_, r, s.openedRec d, s.path.describedEntry s.now d (.bound r d.media s.media[d.media]), e, SetTable.freeIndex_free free, ?_,
    fun k other => ?_, order, s.openedRec_eq d, ⟨fun i fits least => ?_, fun none_ => ?_⟩, rfl, rfl, rfl,
    PathMonitor.describedEntry_enters _ _ _ _ room, ?_, fun k other => ?_, ?_⟩
  · rw [← openedRec]
    exact (bound r).trans (if_pos rfl)
  · exact (bound k).trans ((if_neg other).trans ((getRec k).trans (if_neg other)))
  · rw [State.openedRec_route]
    exact matched i ((RouteEntry.routes_iff ..).mpr fits) fun k before fits => least k before ((RouteEntry.routes_iff ..).mp fits)
  · rw [State.openedRec_route]
    exact unmatched fun i fits => none_ i ((RouteEntry.routes_iff ..).mp fits)
  · show u.jobs[d.slot] = _
    rw [jobs', raised]
    exact Vector.getElem_set_self _
  · show u.jobs[k] = _
    rw [jobs', raised]
    exact Vector.getElem_set_ne _ _ fun same => other (Fin.ext same.symm)
  · rw [only']

end Sys2Proof.Machine

namespace Sys2Proof.Machine

/-! ## A sheet that joins its set -/

/-- The broken reason of a set that a sheet joins: one already held is kept, and else the first that applies is taken (R13, R37, R38). -/
def SetRec.brokenBy (d : Descriptor) (x : SetRec) : Option BrokenReason :=
  if x.broken.isSome = true then x.broken
  else if d.sheetOrdinal ≠ x.lastOrdinal + 1 then some .ordinalSkip
  else if ∃ n, x.count = some n ∧ n < d.sheetOrdinal then some .countExceeded
  else if d.last = true ∧ x.count.isSome = true ∧ x.count ≠ some d.sheetOrdinal then some .countShort
  else none

theorem SetRec.join_eq (d : Descriptor) (x : SetRec) : x.join d = { x with
    bound := x.bound + 1, lastOrdinal := d.sheetOrdinal, broken := (x.join d).broken } := by
  unfold SetRec.join
  dsimp only
  split <;> split <;> rfl

/-- A mark on a broken reason: one already held is kept (R13). -/
theorem SetRec.markBroken_broken (b : BrokenReason) (x : SetRec) : (x.markBroken b).broken = some (x.broken.getD b) := rfl

theorem SetRec.join_broken (d : Descriptor) (x : SetRec) : (x.join d).broken =
    if x.broken.isSome = true then x.broken
    else if d.sheetOrdinal ≠ x.lastOrdinal + 1 then some .ordinalSkip
    else if ∃ n, x.count = some n ∧ n < d.sheetOrdinal then some .countExceeded else none := by
  have exceeds : (x.count.any fun n => n < d.sheetOrdinal) = true ↔ ∃ n, x.count = some n ∧ n < d.sheetOrdinal := by
    cases x.count <;> simp
  unfold SetRec.join
  dsimp only
  by_cases next : d.sheetOrdinal = x.lastOrdinal + 1
  · rw [if_pos next, if_neg (not_not.mpr next)]
    by_cases beyond : ∃ n, x.count = some n ∧ n < d.sheetOrdinal
    · rw [if_pos (exceeds.mpr beyond), if_pos beyond, SetRec.markBroken_broken]
      cases x.broken <;> rfl
    · rw [if_neg fun h => beyond (exceeds.mp h), if_neg beyond]
      cases x.broken <;> rfl
  · rw [if_neg next, if_pos next]
    split
    · rw [SetRec.markBroken_broken, SetRec.markBroken_broken]
      cases x.broken <;> rfl
    · rw [SetRec.markBroken_broken]
      cases x.broken <;> rfl

/-- A record that a sheet has joined (R13, R37 to R39). -/
theorem SetRec.join_taking (d : Descriptor) (eligible : Bool) (x : SetRec) : (x.join d).taking d eligible = { x with
    bound := x.bound + 1, lastOrdinal := d.sheetOrdinal, allEligible := x.allEligible && eligible, broken := x.brokenBy d
    state := if d.last then .gathering else x.state } := by
  have broken : (if d.last = true ∧ x.count.isSome = true ∧ x.count ≠ some d.sheetOrdinal then
      some ((x.join d).broken.getD .countShort) else (x.join d).broken) = x.brokenBy d := by
    rw [SetRec.join_broken, SetRec.brokenBy]
    by_cases held : x.broken.isSome = true
    · obtain ⟨b, is⟩ := Option.isSome_iff_exists.mp held
      rw [if_pos held, if_pos held, is]
      split <;> rfl
    rw [if_neg held, if_neg held]
    by_cases skip : d.sheetOrdinal ≠ x.lastOrdinal + 1
    · rw [if_pos skip, if_pos skip]
      split <;> rfl
    rw [if_neg skip, if_neg skip]
    split
    · split <;> rfl
    · rfl
  rw [SetRec.taking_eq, ← broken]
  rw [SetRec.join_eq]

theorem State.extendSet_joins {d : Descriptor} {r : Fin 8} {x : SetRec} {s : State} (forming : s.binder.forming = some r)
    (used : s.getRec r = some x) (own : x.slot = d.slot ∧ x.setOrdinal = d.setOrdinal) (room : x.bound < 255)
    (landed : x.compiled ≤ x.bound) : s.extendSet d = s.boundAs d r ((x.join d).taking d s.media[d.media].eligible) := by
  have ours : s.ownForming d = true := by
    unfold State.ownForming
    rw [forming]
    dsimp only
    rw [used]
    exact Bool.and_eq_true_iff.mpr ⟨decide_eq_true own.1, decide_eq_true own.2⟩
  have open_ : (x.join d).compiled ≠ (x.join d).bound := by
    rw [SetRec.join_eq]
    show x.compiled ≠ x.bound + 1
    omega
  have bound := State.bind_boundAs (d := d) (State.setRec_getRec r (x.join d) s) open_
  have twice (y : SetRec) : (s.setRec r (x.join d)).boundAs d r y = s.boundAs d r y := by
    show ({ (s.setRec r (x.join d)).setRec r y with path := _, binder := _ } : State) = _
    rw [State.setRec_setRec]
    rfl
  rw [twice] at bound
  unfold State.extendSet
  rw [forming]
  dsimp only
  rw [used]
  dsimp only
  rw [ours, if_neg nofun, if_neg (Nat.not_le.mpr room)]
  exact bound

/-- Settles O33: the head is taken, and the sheet counted into the forming set and bound to it. -/
theorem joiningSheetIsCountedAndChecked : Obligations.JoiningSheetIsCountedAndChecked := by
  intro s d rest r x live working room entries noDebt opened first forming used slot ordinal bound landed
  have e := exec_s1Descriptor live working room entries
  have only := State.takeHead_only (s := s.coverS1) entries noDebt
  generalize s.coverS1.takeHead = v at *
  have opened' : v.jobs[d.slot].state = .opened := by rw [only]; exact opened
  have joins : v.extendSet d = v.boundAs d r ((x.join d).taking d v.media[d.media].eligible) :=
    State.extendSet_joins (by rw [only]; exact forming) (by rw [only]; exact used) ⟨slot, ordinal⟩ bound landed
  have media : v.media = s.media := by rw [only]; rfl
  rw [media, SetRec.join_taking] at joins
  have classified : v.classifyDescriptor d = v.extendSet d := by
    unfold State.classifyDescriptor
    rw [if_neg fun n => n opened', if_neg (by rw [first]; nofun), joins]
    exact State.completionTest_opened opened'
  rw [classified, joins, State.boundAs_syncIdle] at e
  have recs (k : Fin 8) := State.boundAs_getRec d r k { x with
    bound := x.bound + 1, lastOrdinal := d.sheetOrdinal, allEligible := x.allEligible && s.media[d.media].eligible
    broken := x.brokenBy d, state := if d.last then .gathering else x.state } v
  have same (k : Fin 8) : v.getRec k = s.getRec k := by rw [only]; rfl
  refine ⟨_, s.path.describedEntry s.now d (.bound r d.media s.media[d.media]), e, (recs r).trans (if_pos rfl),
    fun k other => (recs k).trans ((if_neg other).trans (same k)), ?_, rfl, rfl, rfl, PathMonitor.describedEntry_enters _ _ _ _ room, ?_⟩
  · show v.sets.order = _
    rw [only]
    rfl
  · unfold State.boundAs State.setRec
    rw [only]
    show _ = ({ s with pins := _, report := _, queue := _, sets := _, path := _, binder := _, run := _ } : State)
    rw [← forming]
    rfl

end Sys2Proof.Machine

namespace Sys2Proof.Machine

/-! ## Orphans with a readable descriptor -/

/-- The completion test's condition once the head has been taken (R7, R29). -/
def State.leavesNothing (d : Descriptor) (rest : List Entry) (s : State) : Prop :=
  (s.jobs[d.slot].state = .closed ∨ (s.jobs[d.slot].state = .purging ∧ s.jobs[d.slot].closeSeen = true)) ∧
    rest.any (Entry.names d.slot) = false ∧ s.sets.names d.slot = false

/-- The S1 leading edge makes the sheet of `d` an orphan: `t` of O34. -/
def State.orphans (d : Descriptor) (rest : List Entry) (reason : OrphanReason) (loose : Bool) (forming : State → Prop) (s : State) : Prop :=
  ∃ t, ∃ e : PathEntry, exec .s1LeadingEdge s = .next t ∧ forming t ∧
    e.seq = some d.seq ∧ e.slotOrd = some (d.slot, d.setOrdinal) ∧ e.sheetOrd = some d.sheetOrdinal ∧
    e.enters s.now s.path (.orphan reason) ∧
    t = { s with
      pins := { s.pins with s1 := true }
      report := t.report
      queue := { s.queue with entries := rest }
      jobs := s.jobs.set d.slot { s.jobs[d.slot] with
        state := t.jobs[d.slot].state
        counters := { s.jobs[d.slot].counters with
          loose := if loose then min 65535 (s.jobs[d.slot].counters.loose + 1) else s.jobs[d.slot].counters.loose } }
      sets := t.sets
      path := s.path.entered s.now e s.media[0].length
      compiler := t.compiler
      binder := ⟨t.binder.forming, .reject⟩
      run := { s.run with idle := none } } ∧
    (∀ r ∈ t.report.link.queue, r ∈ s.report.link.queue ∨ ∃ n, r = .notice n) ∧
    (s.leavesNothing d rest → t.jobs[d.slot].state = .free ∧
      t.latched (if s.jobs[d.slot].state = .closed then .jobComplete else .jobPurged)) ∧
    (¬ s.leavesNothing d rest → t.jobs[d.slot].state = s.jobs[d.slot].state ∧ t.report.notice = s.report.notice)

/-- `w` is `v` with the forming set treated: no record is made or freed, and none changes its slot. -/
structure State.Treats (v w : State) : Prop where
  frame : w = { v with
    report := { v.report with feed := w.report.feed }, sets := w.sets, compiler := w.compiler
    binder := { v.binder with forming := w.binder.forming } }
  names : ∀ i, w.sets.names i = v.sets.names i

theorem State.Treats.refl (v : State) : v.Treats v := ⟨rfl, fun _ => rfl⟩

/-- The sheet's slot with one loose sheet more, where it is counted (R6). -/
def JobSlot.loosened (loose : Bool) (j : JobSlot) : JobSlot := { j with counters := { j.counters with
  loose := if loose then min 65535 (j.counters.loose + 1) else j.counters.loose } }

/-- The part with an orphan on its path list (R6, R40). -/
def State.orphaned (d : Descriptor) (reason : OrphanReason) (loose : Bool) (s : State) : State := { s with
  jobs := s.jobs.set d.slot (s.jobs[d.slot].loosened loose)
  path := s.path.entered s.now (s.path.describedEntry s.now d (.orphan reason)) s.media[0].length
  binder := { s.binder with g1 := .reject } }

theorem State.orphanOf_eq (d : Descriptor) (reason : OrphanReason) (s : State) : s.orphanOf reason d = s.orphaned d reason false := by
  have same : s.jobs.set d.slot (s.jobs[d.slot].loosened false) = s.jobs := Vector.set_getElem_self _
  unfold State.orphaned
  rw [same]
  rfl

theorem Counters.addLoose_eq (c : Counters) : c.addLoose = { c with loose := min 65535 (c.loose + 1) } := rfl

theorem State.looseOf_eq {d : Descriptor} {s : State} (reason : OrphanReason) (used : s.jobs[d.slot].state ≠ .free) :
    s.looseOf reason d = s.orphaned d reason true := by
  have counted : s.bump d.slot Counters.addLoose = { s with jobs := s.jobs.set d.slot (s.jobs[d.slot].loosened true) } := by
    unfold State.bump
    dsimp only
    rw [if_neg used]
    unfold State.setJob JobSlot.loosened
    rw [if_pos rfl, Counters.addLoose_eq]
  unfold State.looseOf
  rw [counted]
  rfl

/-- The completion test writes one slot's state, and reports (R7). -/
theorem State.completionTest_writes (i : Fin 16) (s : State) : s.completionTest i = { s with
    report := (s.completionTest i).report
    jobs := s.jobs.set i { s.jobs[i] with state := (s.completionTest i).jobs[i].state } } := by
  by_cases passes : s.completes i = true
  · obtain ⟨p, freed, -⟩ := State.completionTest_passes passes
    have read : (s.completionTest i).jobs[i].state = .free := by
      rw [freed]
      exact congrArg JobSlot.state (Vector.getElem_set_self _)
    rw [read, freed]
  · rw [State.completionTest_fails passes]
    have same : s.jobs.set i { s.jobs[i] with state := s.jobs[i].state } = s.jobs := Vector.set_getElem_self _
    rw [same]

/-- What the orphan's entry leaves of a part whose forming set was treated, after the completion test (R29, R40). -/
theorem exec_orphans {s v w : State} {d : Descriptor} {rest : List Entry} {reason : OrphanReason} {loose : Bool} {F : State → Prop}
    (e : exec .s1LeadingEdge s = .next ((w.orphaned d reason loose).completionTest d.slot).syncIdle) (room : s.path.list.length < 6)
    (only : v = { s with
      pins := { s.pins with s1 := true }, queue := { s.queue with entries := rest }, report := { s.report with feed := v.report.feed } })
    (treats : v.Treats w)
    (forming : ∀ t : State, t.sets = w.sets → t.binder.forming = w.binder.forming → t.compiler = w.compiler → F t) :
    s.orphans d rest reason loose F := by
  have frame := treats.frame
  have names := treats.names d.slot
  obtain ⟨u, u_eq⟩ : ∃ u, u = w.orphaned d reason loose := ⟨_, rfl⟩
  have whole : u = { s with
      pins := { s.pins with s1 := true }, report := { s.report with feed := w.report.feed }, queue := { s.queue with entries := rest }
      jobs := s.jobs.set d.slot (s.jobs[d.slot].loosened loose), sets := w.sets
      path := s.path.entered s.now (s.path.describedEntry s.now d (.orphan reason)) s.media[0].length
      compiler := w.compiler, binder := ⟨w.binder.forming, .reject⟩ } := by
    rw [u_eq]
    unfold State.orphaned
    rw [frame]
    rw [only]
  have slot : u.jobs[d.slot] = s.jobs[d.slot].loosened loose := by
    rw [whole]
    exact Vector.getElem_set_self _
  have passes : u.completes d.slot = true ↔ s.leavesNothing d rest := by
    have sets : s.sets = v.sets := by rw [only]
    rw [State.completes_iff, slot, State.leavesNothing, sets, ← names]
    rw [whole]
    exact Iff.rfl
  have tells := State.completionTest_tells d.slot u
  have link : u.report.link = s.report.link := by rw [whole]
  rw [← u_eq] at e
  have path : u.path.list ≠ [] := by
    rw [whole]
    simp [PathMonitor.entered]
  have notices : ∀ r ∈ (u.completionTest d.slot).report.link.queue, r ∈ s.report.link.queue ∨ ∃ n, r = .notice n := by
    rw [← link]
    exact tells.notices rfl
  have writes := State.completionTest_writes d.slot u
  have passed : s.leavesNothing d rest → (u.completionTest d.slot).jobs[d.slot].state = .free ∧
      (u.completionTest d.slot).latched (if s.jobs[d.slot].state = .closed then .jobComplete else .jobPurged) := fun done => by
    obtain ⟨p, freed, latched⟩ := State.completionTest_passes (passes.mpr done)
    rw [slot] at latched
    rw [freed]
    refine ⟨?_, latched⟩
    exact congrArg JobSlot.state (Vector.getElem_set_self _)
  have failed : ¬ s.leavesNothing d rest → (u.completionTest d.slot).jobs[d.slot].state = s.jobs[d.slot].state ∧
      (u.completionTest d.slot).report.notice = s.report.notice := fun more => by
    rw [State.completionTest_fails fun h => more (passes.mp h), slot]
    exact ⟨rfl, by rw [whole]⟩
  rw [slot] at writes
  generalize u.completionTest d.slot = t at *
  have path' : t.path.list ≠ [] := by rw [writes]; exact path
  rw [State.syncIdle_of_onPath _ path'] at e
  refine ⟨_, s.path.describedEntry s.now d (.orphan reason), e, ?_, rfl, rfl, rfl, PathMonitor.describedEntry_enters _ _ _ _ room, ?_,
    notices, passed, failed⟩
  · refine forming _ ?_ ?_ ?_
    · show t.sets = _
      rw [writes, whole]
    · show t.binder.forming = _
      rw [writes, whole]
    · show t.compiler = _
      rw [writes, whole]
  · have jobs : u.jobs = s.jobs.set d.slot (s.jobs[d.slot].loosened loose) := by rw [whole]
    have twice (x : JobState) : (u.jobs.set d.slot { s.jobs[d.slot].loosened loose with state := x }) = s.jobs.set d.slot
        { s.jobs[d.slot].loosened loose with state := x } := by rw [jobs, Vector.set_set]
    show ({ t with run := { t.run with idle := none } } : State) = { s with
      pins := { s.pins with s1 := true }
      report := t.report
      queue := { s.queue with entries := rest }
      jobs := s.jobs.set d.slot { s.jobs[d.slot].loosened loose with state := t.jobs[d.slot].state }
      sets := t.sets
      path := s.path.entered s.now (s.path.describedEntry s.now d (.orphan reason)) s.media[0].length
      compiler := t.compiler
      binder := ⟨t.binder.forming, .reject⟩
      run := { s.run with idle := none } }
    generalize t.jobs[d.slot].state = j at *
    rw [writes, twice, whole]

end Sys2Proof.Machine

namespace Sys2Proof.Machine

/-! ## The forming set ended -/

/-- A record that stays in its slot leaves the table's slots as they are. -/
theorem SetTable.names_set {t : SetTable} {r : Fin 8} {x y : SetRec} (used : t.recs[r] = some x) (slot : y.slot = x.slot) (i : Fin 16) :
    ({ t with recs := t.recs.set r (some y) } : SetTable).names i = t.names i := by
  have read (k : Fin 8) : (t.recs.set r (some y))[k] = if k = r then some y else t.recs[k] := by
    by_cases same : k = r
    · rw [if_pos same, same]
      exact Vector.getElem_set_self _
    · rw [if_neg same]
      exact Vector.getElem_set_ne _ _ fun e => same (Fin.ext e.symm)
  rw [Bool.eq_iff_iff, SetTable.names_iff, SetTable.names_iff]
  constructor
  · rintro ⟨k, z, e, z_slot⟩
    rw [read] at e
    by_cases same : k = r
    · rw [if_pos same] at e
      obtain rfl := Option.some.inj e
      exact ⟨r, x, used, slot ▸ z_slot⟩
    · rw [if_neg same] at e
      exact ⟨k, z, e, z_slot⟩
  · rintro ⟨k, z, e, z_slot⟩
    by_cases same : k = r
    · rw [same, used] at e
      obtain rfl := Option.some.inj e
      exact ⟨r, y, (read r).trans (if_pos rfl), slot.trans z_slot⟩
    · exact ⟨k, z, (read k).trans ((if_neg same).trans e), z_slot⟩

/-- The forming set `r`, which was `x`, is broken by `b` and closed in `w` (R13, R35 to R38). -/
structure State.Ends (r : Fin 8) (x : SetRec) (b : BrokenReason) (s w : State) : Prop where
  gathers : x.compiled ≠ x.bound → w.getRec r = some { x with broken := some (x.broken.getD b), state := .gathering } ∧
    w.compiler = s.compiler
  compiles : x.compiled = x.bound → w.getRec r = some { x with broken := some (x.broken.getD b), state := .compiling } ∧
    w.compiler = { s.compiler with state := .finishing, jog := some s.now }
  forming : w.binder.forming = none
  order : w.sets.order = s.sets.order
  others : ∀ k : Fin 8, k ≠ r → w.getRec k = s.getRec k

theorem State.Ends.used {r : Fin 8} {x : SetRec} {b : BrokenReason} {s w : State} (h : s.Ends r x b w) : ∃ y, w.getRec r = some y := by
  by_cases landed : x.compiled = x.bound
  · exact ⟨_, (h.compiles landed).1⟩
  · exact ⟨_, (h.gathers landed).1⟩

theorem State.endForming_ends {s : State} {r : Fin 8} {x : SetRec} (b : BrokenReason) (forming : s.binder.forming = some r)
    (used : s.getRec r = some x) (whole : x.divert ≠ some .purged) : s.Treats (s.endForming b) ∧ s.Ends r x b (s.endForming b) := by
  obtain ⟨u, u_eq⟩ : ∃ u : State, u = { s.setRec r { x.markBroken b with state := .gathering } with
      binder := { s.binder with forming := none } } := ⟨_, rfl⟩
  have ended : s.endForming b = if x.compiled = x.bound then u.partComplete r else u := by
    unfold State.endForming
    rw [forming]
    dsimp only
    unfold State.modRec
    rw [used]
    dsimp only
    unfold State.closeForming
    rw [State.setRec_getRec]
    dsimp only
    rw [State.setRec_setRec, u_eq]
    rfl
  have recs (y : SetRec) (k : Fin 8) := State.setRec_getRec_ite r k y s
  by_cases landed : x.compiled = x.bound
  · rw [ended, if_pos landed]
    have compiles : u.partComplete r = ({ u.setRec r { x.markBroken b with state := .compiling } with
        compiler := { u.compiler with jog := some u.now } } : State).setCompiler .finishing := by
      unfold State.partComplete
      have used' : u.getRec r = some { x.markBroken b with state := .gathering } := by
        rw [u_eq]
        exact State.setRec_getRec r _ s
      rw [used']
      exact if_neg whole
    have only := State.setCompiler_only .finishing { u.setRec r { x.markBroken b with state := .compiling } with
      compiler := { u.compiler with jog := some u.now } }
    rw [compiles]
    have sets : ({ u.setRec r { x.markBroken b with state := .compiling } with
        compiler := { u.compiler with jog := some u.now } } : State).sets = (s.setRec r { x.markBroken b with state := .compiling }).sets := by
      show (u.setRec r _).sets = _
      rw [u_eq]
      unfold State.setRec
      dsimp only
      rw [Vector.set_set]
    generalize ({ u.setRec r { x.markBroken b with state := .compiling } with
      compiler := { u.compiler with jog := some u.now } } : State).setCompiler .finishing = w at *
    have sets' : w.sets = (s.setRec r { x.markBroken b with state := .compiling }).sets := by
      rw [← sets, only]
    have read (k : Fin 8) : w.getRec k = if k = r then some { x.markBroken b with state := .compiling } else s.getRec k := by
      show w.sets.recs[k] = _
      rw [sets']
      exact recs _ k
    refine ⟨⟨?_, fun i => ?_⟩, fun n => absurd landed n, fun _ => ⟨(read r).trans (if_pos rfl), ?_⟩, ?_, ?_,
      fun k other => (read k).trans (if_neg other)⟩
    · rw [only]
      rw [u_eq]
      rfl
    · rw [sets']
      exact SetTable.names_set (y := { x.markBroken b with state := .compiling }) used rfl i
    · rw [only, u_eq]
      rfl
    · rw [only, u_eq]
      rfl
    · rw [sets']
      rfl
  · rw [ended, if_neg landed]
    have read (k : Fin 8) : u.getRec k = if k = r then some { x.markBroken b with state := .gathering } else s.getRec k := by
      rw [u_eq]
      exact recs _ k
    refine ⟨⟨?_, fun i => ?_⟩, fun _ => ⟨(read r).trans (if_pos rfl), ?_⟩, fun n => absurd n landed, ?_, ?_,
      fun k other => (read k).trans (if_neg other)⟩
    · rw [u_eq]
      rfl
    · rw [u_eq]
      exact SetTable.names_set (y := { x.markBroken b with state := .gathering }) used rfl i
    · rw [u_eq]
      rfl
    · rw [u_eq]
    · rw [u_eq]
      rfl

/-! ## The obligation on unmatched sheets -/

theorem State.orphans_closed {d : Descriptor} {s : State} (closed : s.jobs[d.slot].state = .closed) : s.unopened d =
    (if s.ownForming d then s.endForming .sheetMissing else s).looseOf .jobNotOpen d := by
  unfold State.unopened
  rw [closed]

theorem State.ownForming_iff {d : Descriptor} {r : Fin 8} {x : SetRec} {s : State} (forming : s.binder.forming = some r)
    (used : s.getRec r = some x) : s.ownForming d = true ↔ x.slot = d.slot ∧ x.setOrdinal = d.setOrdinal := by
  unfold State.ownForming
  rw [forming]
  dsimp only
  rw [used]
  simp

/-- Settles O34: the head is taken, the forming set treated as its job and the descriptor say, and the sheet made an orphan; or, with a
record FREE, a new set opened behind the one that was ended. -/
theorem unmatchedSheetsAreOrphans : Obligations.UnmatchedSheetsAreOrphans := by
  intro s d rest live working room entries noDebt job completes untouched ended closes orphan
  have e := exec_s1Descriptor live working room entries
  have only := State.takeHead_only (s := s.coverS1) entries noDebt
  obtain ⟨v, v_eq⟩ : ∃ v, v = s.coverS1.takeHead := ⟨_, rfl⟩
  rw [← v_eq] at e only
  have v_job : v.jobs[d.slot].state = job.state := by rw [only]; rfl
  have conclude {w : State} {reason : OrphanReason} {loose : Bool} {F : State → Prop}
      (classified : v.classifyDescriptor d = (w.orphaned d reason loose).completionTest d.slot) (treats : v.Treats w)
      (forming : ∀ t : State, t.sets = w.sets → t.binder.forming = w.binder.forming → t.compiler = w.compiler → F t) :
      orphan reason loose F := by
    rw [classified] at e
    exact exec_orphans e room only treats forming
  have plain {reason : OrphanReason} {loose : Bool}
      (classified : v.classifyDescriptor d = (v.orphaned d reason loose).completionTest d.slot) : orphan reason loose untouched :=
    conclude classified (.refl v) fun t sets forming compiler =>
      ⟨sets.trans (by rw [only]; rfl), forming.trans (by rw [only]; rfl), compiler.trans (by rw [only]; rfl)⟩
  have unopened (other : job.state ≠ .opened) : v.classifyDescriptor d = (v.unopened d).completionTest d.slot := by
    unfold State.classifyDescriptor
    rw [if_pos (by rw [v_job]; exact other)]
  have first (opened : job.state = .opened) (first : d.first = true) :
      v.classifyDescriptor d = (v.openSet d).completionTest d.slot := by
    unfold State.classifyDescriptor
    rw [if_neg fun n => n (v_job.trans opened), if_pos first]
  have later (opened : job.state = .opened) (later : d.first = false) :
      v.classifyDescriptor d = (v.extendSet d).completionTest d.slot := by
    unfold State.classifyDescriptor
    rw [if_neg fun n => n (v_job.trans opened), if_neg (by rw [later]; nofun)]
  have used {w : State} (treats : v.Treats w) (h : job.state ≠ .free) : w.jobs[d.slot].state ≠ .free := by
    rw [treats.frame]
    exact v_job ▸ h
  have full (all : ∀ r : Fin 8, s.getRec r ≠ none) {w : State} (same : ∀ r : Fin 8, w.getRec r = none → s.getRec r = none) :
      w.sets.freeIndex = none := List.find?_eq_none.mpr fun r _ free => all r (same r (Option.isNone_iff_eq_none.mp free))
  have v_forming : v.binder.forming = s.binder.forming := by rw [only]; rfl
  have v_rec (k : Fin 8) : v.getRec k = s.getRec k := by rw [only]; rfl
  have not_free {x : JobState} (h : job.state = x) (n : x ≠ .free) : job.state ≠ .free := by rw [h]; exact n
  refine ⟨fun free => ?_, fun purging => ?_, fun opened isFirst all none_ => ?_, fun opened notFirst none_ => ?_, fun closed none_ => ?_,
    fun r x forming has whole => ?_⟩
  · refine plain ((unopened (by rw [free]; nofun)).trans ?_)
    have orphan_ : v.unopened d = v.orphanOf .jobNotOpen d := by
      unfold State.unopened
      rw [v_job, free]
    rw [orphan_, State.orphanOf_eq]
  · refine plain ((unopened (by rw [purging]; nofun)).trans ?_)
    have orphan_ : v.unopened d = v.looseOf .jobPurging d := by
      unfold State.unopened
      rw [v_job, purging]
    rw [orphan_, State.looseOf_eq _ (used (.refl v) (not_free purging nofun))]
  · refine plain ((first opened isFirst).trans ?_)
    have orphan_ : v.openSet d = v.looseOf .noSetRecord d := by
      unfold State.openSet
      rw [State.endForming_none _ (v_forming.trans none_)]
      dsimp only
      rw [full all fun r free => (v_rec r).symm.trans free]
    rw [orphan_, State.looseOf_eq _ (used (.refl v) (not_free opened nofun))]
  · refine plain ((later opened notFirst).trans ?_)
    have orphan_ : v.extendSet d = v.looseOf .noSet d := by
      unfold State.extendSet
      rw [v_forming, none_]
    rw [orphan_, State.looseOf_eq _ (used (.refl v) (not_free opened nofun))]
  · refine plain ((unopened (by rw [closed]; nofun)).trans ?_)
    have foreign : v.ownForming d = false := by
      unfold State.ownForming
      rw [v_forming, none_]
    rw [State.orphans_closed (v_job.trans closed), foreign, if_neg nofun, State.looseOf_eq _ (used (.refl v) (not_free closed nofun))]
  · have v_used : v.getRec r = some x := (v_rec r).trans has
    have v_forms : v.binder.forming = some r := v_forming.trans forming
    have own_iff := State.ownForming_iff (d := d) v_forms v_used
    have v_same : v.compiler = s.compiler ∧ v.now = s.now ∧ v.sets.order = s.sets.order := by rw [only]; exact ⟨rfl, rfl, rfl⟩
    obtain ⟨v_compiler, v_now, v_order⟩ := v_same
    have ending {b : BrokenReason} {reason : OrphanReason}
        (classified : v.classifyDescriptor d = ((v.endForming b).orphaned d reason true).completionTest d.slot) :
        orphan reason true (closes r x b) := by
      obtain ⟨treats, gathers, compiles, none_, order, others⟩ := State.endForming_ends b v_forms v_used whole
      refine conclude classified treats fun t sets forming compiler => ⟨⟨fun more => ?_, fun landed => ?_⟩, forming.trans none_, ?_,
        fun k other => ?_⟩
      · obtain ⟨record, same⟩ := gathers more
        exact ⟨(congrArg (fun y : SetTable => y.recs[r]) sets).trans record, compiler.trans (same.trans v_compiler)⟩
      · obtain ⟨record, same⟩ := compiles landed
        rw [v_compiler, v_now] at same
        exact ⟨(congrArg (fun y : SetTable => y.recs[r]) sets).trans record, compiler.trans same⟩
      · rw [sets, order, v_order]
      · exact (congrArg (fun y : SetTable => y.recs[k]) sets).trans ((others k other).trans (v_rec k))
    have used' (b : BrokenReason) (h : job.state ≠ .free) : (v.endForming b).jobs[d.slot].state ≠ .free :=
      used (State.endForming_ends b v_forms v_used whole).1 h
    refine ⟨fun closed foreign => plain ((unopened (by rw [closed]; nofun)).trans ?_),
      fun closed own => ending ((unopened (by rw [closed]; nofun)).trans ?_),
      fun opened notFirst foreign => ending ((later opened notFirst).trans ?_),
      fun opened notFirst own most => ending ((later opened notFirst).trans ?_),
      fun opened isFirst all => ending ((first opened isFirst).trans ?_), fun opened isFirst free => ?_⟩
    · rw [State.orphans_closed (v_job.trans closed), if_neg fun h => foreign (own_iff.mp h),
        State.looseOf_eq _ (used (.refl v) (not_free closed nofun))]
    · rw [State.orphans_closed (v_job.trans closed), if_pos (own_iff.mpr own), State.looseOf_eq _ (used' _ (not_free closed nofun))]
    · have orphan_ : v.extendSet d = (v.endForming .jobChange).looseOf .noSet d := by
        unfold State.extendSet
        rw [v_forms]
        dsimp only
        rw [v_used]
        exact if_pos (by simpa using fun h => foreign (own_iff.mp h))
      rw [orphan_, State.looseOf_eq _ (used' _ (not_free opened nofun))]
    · have orphan_ : v.extendSet d = (v.endForming .countExceeded).looseOf .noSet d := by
        unfold State.extendSet
        rw [v_forms]
        dsimp only
        rw [v_used]
        exact (if_neg (by rw [own_iff.mpr own]; nofun)).trans (if_pos most)
      rw [orphan_, State.looseOf_eq _ (used' _ (not_free opened nofun))]
    · have none_left := full all (w := v.endForming .missingEnd) fun k free => by
        by_cases same : k = r
        · obtain ⟨y, still⟩ := (State.endForming_ends .missingEnd v_forms v_used whole).2.used
          rw [same, still] at free
          cases free
        · exact (v_rec k).symm.trans (((State.endForming_ends .missingEnd v_forms v_used whole).2.others k same).symm.trans free)
      have orphan_ : v.openSet d = (v.endForming .missingEnd).looseOf .noSetRecord d := by
        unfold State.openSet
        dsimp only
        rw [none_left]
      rw [orphan_, State.looseOf_eq _ (used' _ (not_free opened nofun))]
    · obtain ⟨treats, ends⟩ := State.endForming_ends .missingEnd v_forms v_used whole
      obtain ⟨y, still⟩ := ends.used
      obtain ⟨w, w_eq⟩ : ∃ w, w = v.endForming .missingEnd := ⟨_, rfl⟩
      rw [← w_eq] at treats ends still
      obtain ⟨q, unused⟩ := free
      have w_free : w.getRec q = none := (ends.others q fun same => by
        rw [same, has] at unused
        cases unused).trans ((v_rec q).trans unused)
      obtain ⟨c, index⟩ : ∃ c, w.sets.freeIndex = some c := by
        cases found : w.sets.freeIndex with
        | some c => exact ⟨c, rfl⟩
        | none => exact absurd (Option.isNone_iff_eq_none.mpr w_free) (List.find?_eq_none.mp found q (List.mem_finRange q))
      have c_free : w.getRec c = none := SetTable.freeIndex_free index
      have other : c ≠ r := fun same => by
        rw [same, still] at c_free
        cases c_free
      have w_opened : w.jobs[d.slot].state = .opened := by
        rw [treats.frame]
        exact v_job.trans opened
      have opening := State.opening_only (d := d) (r := c) w_opened
      have opens : v.openSet d = (w.opening d c).boundAs d c (w.openedRec d) := State.openSet_closes w_eq.symm w_opened index
      have stays : ((w.opening d c).boundAs d c (w.openedRec d)).jobs[d.slot].state = .opened := by
        show (w.opening d c).jobs[d.slot].state = _
        rw [opening]
        exact (congrArg JobSlot.state (Vector.getElem_set_self _)).trans w_opened
      rw [first opened isFirst, opens, State.completionTest_opened stays, State.boundAs_syncIdle] at e
      have bound (k : Fin 8) := State.boundAs_getRec d c k (w.openedRec d) (w.opening d c)
      have recs (k : Fin 8) (differs : k ≠ c) : ((w.opening d c).boundAs d c (w.openedRec d)).getRec k = w.getRec k := by
        refine (bound k).trans ((if_neg differs).trans ?_)
        show (w.opening d c).sets.recs[k] = _
        rw [opening]
        exact (State.setRec_getRec_ite c k _ w).trans (if_neg differs)
      have compiler : ((w.opening d c).boundAs d c (w.openedRec d)).compiler = w.compiler := by
        show (w.opening d c).compiler = _
        rw [opening]
      have order : ((w.opening d c).boundAs d c (w.openedRec d)).sets.order = w.sets.order ++ [c] := by
        show (w.opening d c).sets.order = _
        rw [opening]
      have binder : ((w.opening d c).boundAs d c (w.openedRec d)).binder = ⟨if d.last then none else some c, .main⟩ := by
        show (⟨if d.last then none else (w.opening d c).binder.forming, .main⟩ : Binder) = _
        rw [opening]
      have opened_ := w.openedRec_eq d
      generalize (w.opening d c).boundAs d c (w.openedRec d) = u at *
      refine ⟨_, c, w.openedRec d, e, ⟨fun more => ?_, fun landed => ?_⟩, ?_, (bound c).trans (if_pos rfl), ?_, ?_, ?_, binder, ?_,
        fun k notR notC => (recs k notC).trans ((ends.others k notR).trans (v_rec k))⟩
      · obtain ⟨record, same⟩ := ends.gathers more
        exact ⟨(recs r other.symm).trans record, compiler.trans (same.trans v_compiler)⟩
      · obtain ⟨record, same⟩ := ends.compiles landed
        rw [v_compiler, v_now] at same
        exact ⟨(recs r other.symm).trans record, compiler.trans same⟩
      · exact (v_rec c).symm.trans ((ends.others c other).symm.trans c_free)
      · rw [opened_]
      · rw [opened_]
      · rw [opened_]
      · rw [← v_order, ← ends.order]
        exact order

end Sys2Proof.Machine

/-! Bin events with sets held (R97, R113, R131, R132). -/

namespace Sys2Proof.Machine

/-! ## One held set -/

/-- A set held, in one piece, with no bin and nothing that diverts it. -/
structure State.Holds (s : State) (r : Fin 8) (x : SetRec) : Prop where
  used : s.getRec r = some x
  held : x.state = .held
  unchosen : x.chosen = none
  carries : x.divert = none
  unbroken : x.broken = none
  whole : x.part = 0

/-- A held set once the bin found for it, if any, is given to it (R97, R131). -/
def State.served (r : Fin 8) (x : SetRec) (o : Option (Fin 41)) (s : State) : State :=
  match o with
  | some k => (s.giveBin r k x none).foundBin r
  | none => s

/-- The bins a held set of a FILL or a DEFAULT route is tried in (R92, R93). -/
def SetRec.tried (x : SetRec) : List (Fin 41) :=
  match x.route with
  | .default d => [d]
  | .entry _ first last .fill _ => binRange first last
  | _ => []

/-- The bin a held set finds (R93). -/
def State.finds (x : SetRec) (s : State) : Option (Fin 41) := x.tried.find? (s.admits (x.height.getD 0))

/-- The route of a set tried bin by bin from a list of its own. -/
def SetRec.listed (x : SetRec) : Prop := (∃ d, x.route = .default d) ∨ ∃ i first last g, x.route = .entry i first last .fill g

theorem State.selectBin_held {s : State} {r : Fin 8} {x : SetRec} (holds : s.Holds r x) (listed : x.listed) :
    s.selectBin r = s.scan r (x.height.getD 0) x.tried fun _ s => s := by
  unfold State.selectBin SetRec.tried
  rw [holds.used]
  dsimp only
  rw [if_neg (by simp [holds.carries]), if_neg (by simp [holds.unbroken]), if_neg (by rw [holds.whole]; decide)]
  obtain ⟨d, route⟩ | ⟨i, first, last, g, route⟩ := listed <;> rw [route]

theorem State.reevaluate_held {s : State} {r : Fin 8} {x : SetRec} (holds : s.Holds r x) (listed : x.listed) :
    s.reevaluate r = s.served r x (s.finds x) := by
  unfold State.reevaluate
  dsimp only
  rw [State.selectBin_held holds listed]
  unfold State.scan State.finds State.served
  cases x.tried.find? (s.admits (x.height.getD 0)) with
  | none => exact if_neg (by rw [State.hasBin_none holds.used holds.unchosen]; nofun)
  | some k =>
    have gives : s.choose r k = s.giveBin r k x none := by
      rw [State.choose_gives k holds.used holds.unchosen, holds.carries]
    have has : (s.choose r k).hasBin r = true := by
      rw [gives]
      unfold State.hasBin
      rw [(s.giveBin_gives r k x none).own]
      rfl
    refine (if_pos has).trans ?_
    dsimp only
    rw [gives]
    refine State.passPartBin_other (State.giveBin_found (s := s) (r := r) (x := x) (b := k) (d := none)).1 ?_
    show x.part ≠ 1
    rw [holds.whole]
    nofun

theorem State.reevaluateFor_held {s : State} {r : Fin 8} {x : SetRec} (b : Fin 41) (holds : s.Holds r x) (listed : x.listed) :
    s.reevaluateFor b (some r) = if x.candidate b then s.served r x (s.finds x) else s := by
  unfold State.reevaluateFor
  dsimp only
  rw [holds.used]
  dsimp only
  rw [State.reevaluate_held holds listed, holds.held]
  cases x.candidate b <;> rfl

/-- A record that is not held is not re-evaluated (R131). -/
theorem State.reevaluateFor_ready {s : State} {r : Fin 8} {x : SetRec} (b : Fin 41) (used : s.getRec r = some x) (ready : x.state ≠ .held) :
    s.reevaluateFor b (some r) = s := by
  unfold State.reevaluateFor
  dsimp only
  rw [used]
  dsimp only
  rw [if_neg (by simp [ready])]

/-! ## What a served set leaves -/

/-- What a bin found, or not, leaves for the set, the other records, the bins and the holds. -/
theorem State.served_leaves {s : State} {r : Fin 8} {x : SetRec} (used : s.getRec r = some x) (o : Option (Fin 41)) :
    let t := s.served r x o
    (∀ k : Fin 8, k ≠ r → t.getRec k = s.getRec k) ∧
    t.delivery = (if o.isSome then s.delivery.found r else s.delivery) ∧
    t.getRec r = (match o with
      | some k => some { x with chosen := some k, divert := none, side := x.sideFrom s.bins[k], state := .readyToEject }
      | none => some x) ∧
    (∀ k : Fin 41, t.bins[k] = if o = some k then s.bins[k].given x else s.bins[k]) ∧
    t = { s with sets := { s.sets with recs := t.sets.recs }, bins := t.bins, delivery := t.delivery } := by
  cases o with
  | none => exact ⟨fun _ _ => rfl, rfl, used, fun _ => (if_neg nofun).symm, rfl⟩
  | some k =>
    obtain ⟨own, others, bin, rest, only⟩ := State.giveBin_found (s := s) (r := r) (x := x) (b := k) (d := none)
    have delivery : ((s.giveBin r k x none).foundBin r).delivery = s.delivery.found r := by rw [only]
    refine ⟨others, delivery, own, fun j => ?_, ?_⟩
    · by_cases here : j = k
      · rw [here, if_pos rfl]
        exact bin
      · rw [if_neg fun e => here (Option.some.inj e).symm]
        exact rest j here
    · show (s.giveBin r k x none).foundBin r = _
      rw [← delivery] at only
      exact only

/-- A served set is held no more, or it is as it was and nothing has changed. -/
theorem State.served_stays {s : State} {r : Fin 8} {x : SetRec} (used : s.getRec r = some x) (o : Option (Fin 41)) :
    s.served r x o = s ∨ ∃ y, (s.served r x o).getRec r = some y ∧ y.state = .readyToEject := by
  cases o with
  | none => exact .inl rfl
  | some k => exact .inr ⟨_, (State.served_leaves used (some k)).2.2.1, rfl⟩

/-! ## A run of bin events -/

/-- A list of events of which one alone counts: it may have its effect early, and has it once. -/
theorem foldl_once {α β : Type} {f : β → α → β} {w v : β} {b : α} {l : List α} (nodup : l.Nodup) (mem : b ∈ l)
    (before : ∀ c, c ≠ b → f w c = w ∨ (f w c = v ∧ f v b = v)) (here : f w b = v) (after : ∀ c, c ≠ b → f v c = v) :
    l.foldl f w = v := by
  have stays (l : List α) (h : ∀ c ∈ l, f v c = v) : l.foldl f v = v := by
    induction l with
    | nil => rfl
    | cons c l ih => rw [List.foldl_cons, h c List.mem_cons_self, ih fun a m => h a (List.mem_cons_of_mem _ m)]
  induction l with
  | nil => cases mem
  | cons c l ih =>
    obtain ⟨fresh, nodup⟩ := List.nodup_cons.mp nodup
    rw [List.foldl_cons]
    obtain rfl | rest := List.mem_cons.mp mem
    · rw [here]
      exact stays l fun a m => after a fun e => fresh (e ▸ m)
    · have other : c ≠ b := fun e => fresh (e ▸ rest)
      obtain same | ⟨done, still⟩ := before c other
      · rw [same]
        exact ih nodup rest
      · rw [done]
        refine stays l fun a m => ?_
        by_cases at_ : a = b
        · rw [at_, still]
        · exact after a at_

end Sys2Proof.Machine

/-! The held sets' bin events, whatever gives them (R113, R131). -/

namespace Sys2Proof.Machine

/-! ## The run of bin events -/

theorem State.reevaluateFor_idle {s : State} {r : Fin 8} {y : SetRec} {b : Fin 41} (used : s.getRec r = some y)
    (idle : y.state ≠ .held ∨ y.candidate b = false) : s.reevaluateFor b (some r) = s := by
  unfold State.reevaluateFor
  dsimp only
  rw [used]
  obtain state | other := idle
  · exact if_neg (by simp [state])
  · exact if_neg (by simp [other])

theorem SetRec.candidate_default {x : SetRec} {b c : Fin 41} (whole : x.part = 0) (route : x.route = .default b) :
    x.candidate c = Decidable.decide (b = c) := by
  unfold SetRec.candidate
  rw [if_neg (by rw [whole]; decide), route]

theorem SetRec.candidate_fill {x : SetRec} {i : Fin 32} {first last c : Fin 41} {g : BitVec 8} (whole : x.part = 0)
    (route : x.route = .entry i first last .fill g) : x.candidate c = (Decidable.decide (first ≤ c) && Decidable.decide (c ≤ last)) := by
  unfold SetRec.candidate
  rw [if_neg (by rw [whole]; decide), route]

/-- A served set is re-evaluated no more, for a bin that is no candidate of it or once it has found its bin. -/
theorem State.served_idle {s t : State} {r : Fin 8} {x : SetRec} {c : Fin 41} (used : s.getRec r = some x) (o : Option (Fin 41))
    (rec_ : t.getRec r = (s.served r x o).getRec r) (other : o = none → x.candidate c = false) :
    t.reevaluateFor c (some r) = t := by
  obtain ⟨-, -, own, -⟩ := State.served_leaves used o
  rw [own] at rec_
  cases o with
  | none => exact State.reevaluateFor_idle rec_ (.inr (other rfl))
  | some k => exact State.reevaluateFor_idle rec_ (.inl nofun)

theorem State.served_delivery {s : State} {r : Fin 8} {x : SetRec} (used : s.getRec r = some x) (o : Option (Fin 41)) :
    (s.served r x o).delivery.onShelf = s.delivery.onShelf ∧
    (s.delivery.compilerHold ≠ some r → (s.served r x o).delivery.compilerHold = s.delivery.compilerHold) := by
  obtain ⟨-, delivery, -⟩ := State.served_leaves used o
  rw [delivery]
  cases o with
  | none => exact ⟨rfl, fun _ => rfl⟩
  | some k => exact ⟨rfl, fun other => if_neg other⟩

/-- The shelf set of a FILL route, alone, is served once by a run of events that holds a bin of its group (R97, R131). -/
theorem State.binEvents_fill {w : State} {r : Fin 8} {x : SetRec} {b : Fin 41} {l : List (Fin 41)} (holds : w.Holds r x)
    (shelf : w.delivery.onShelf = some r) (alone : w.delivery.compilerHold = none) (nodup : l.Nodup) (mem : b ∈ l) {i first last g}
    (route : x.route = .entry i first last .fill g) (from_ : first ≤ b) (upTo : b ≤ last) :
    l.foldl State.binEvent w = w.served r x (w.finds x) := by
  have listed : x.listed := .inr ⟨i, first, last, g, route⟩
  have event (c : Fin 41) : w.binEvent c = if x.candidate c then w.served r x (w.finds x) else w := by
    unfold State.binEvent
    dsimp only
    rw [shelf, State.reevaluateFor_held c holds listed]
    have none_ : (if x.candidate c then w.served r x (w.finds x) else w).delivery.compilerHold = none := by
      split
      · exact ((State.served_delivery holds.used _).2 (by rw [alone]; nofun)).trans alone
      · exact alone
    rw [none_]
    rfl
  have candidate : x.candidate b = true := by
    rw [SetRec.candidate_fill holds.whole route, decide_eq_true from_, decide_eq_true upTo]
    rfl
  have after (c : Fin 41) : (w.served r x (w.finds x)).binEvent c = w.served r x (w.finds x) := by
    cases found : w.finds x with
    | none =>
      show w.binEvent c = w
      rw [event c, found]
      exact ite_self _
    | some k =>
      unfold State.binEvent
      dsimp only
      rw [(State.served_delivery holds.used _).1, shelf, State.served_idle holds.used (some k) rfl nofun,
        (State.served_delivery holds.used _).2 (by rw [alone]; nofun), alone]
      rfl
  refine foldl_once nodup mem (fun c _ => ?_) ((event b).trans (if_pos candidate)) fun c _ => after c
  rw [event c]
  cases x.candidate c with
  | false => exact .inl rfl
  | true => exact .inr ⟨rfl, after b⟩

/-- Of two sets of one DEFAULT route, the one on the shelf is served before the one in the compiler (R131). -/
theorem State.binEvents_default {w : State} {r q : Fin 8} {x z : SetRec} {b : Fin 41} {l : List (Fin 41)} (holds : w.Holds r x)
    (waits : w.Holds q z) (shelf : w.delivery.onShelf = some r) (hold : w.delivery.compilerHold = some q) (other : q ≠ r)
    (nodup : l.Nodup) (mem : b ∈ l) (route : x.route = .default b) (same : z.route = .default b) :
    let v := w.served r x (w.finds x)
    l.foldl State.binEvent w = v.served q z (v.finds z) := by
  intro v
  have keeps : v.delivery.compilerHold = some q :=
    ((State.served_delivery holds.used _).2 (by rw [hold]; exact fun e => other (Option.some.inj e))).trans hold
  have second : v.Holds q z := ⟨((State.served_leaves holds.used _).1 q other).trans waits.used, waits.held, waits.unchosen, waits.carries,
    waits.unbroken, waits.whole⟩
  have onShelf : (v.served q z (v.finds z)).delivery.onShelf = some r :=
    (State.served_delivery second.used _).1.trans ((State.served_delivery holds.used _).1.trans shelf)
  have first : (v.served q z (v.finds z)).getRec r = v.getRec r := (State.served_leaves second.used _).1 r other.symm
  have noX (c : Fin 41) (away : c ≠ b) : x.candidate c = false := by
    rw [SetRec.candidate_default holds.whole route]
    exact decide_eq_false away.symm
  have noZ (c : Fin 41) (away : c ≠ b) : z.candidate c = false := by
    rw [SetRec.candidate_default waits.whole same]
    exact decide_eq_false away.symm
  refine foldl_once nodup mem (fun c away => .inl ?_) ?_ fun c away => ?_
  · unfold State.binEvent
    dsimp only
    rw [shelf, State.reevaluateFor_idle holds.used (.inr (noX c away)), hold, State.reevaluateFor_idle waits.used (.inr (noZ c away))]
  · unfold State.binEvent
    dsimp only
    rw [shelf, State.reevaluateFor_held b holds (.inl ⟨b, route⟩), SetRec.candidate_default holds.whole route, decide_eq_true rfl]
    show v.reevaluateFor b v.delivery.compilerHold = _
    rw [keeps, State.reevaluateFor_held b second (.inl ⟨b, same⟩), SetRec.candidate_default waits.whole same, decide_eq_true rfl]
    rfl
  · unfold State.binEvent
    dsimp only
    rw [onShelf, State.served_idle holds.used _ first fun _ => noX c away]
    cases found : v.finds z with
    | none =>
      show v.reevaluateFor c v.delivery.compilerHold = v
      rw [keeps]
      exact State.reevaluateFor_idle second.used (.inr (noZ c away))
    | some k =>
      have gone : (v.served q z (some k)).delivery.compilerHold = none := by
        rw [(State.served_leaves second.used (some k)).2.1]
        exact if_pos keeps
      rw [gone]
      rfl

/-! ## What the statement reads from it -/

/-- The admission test with a reserved height of its own (R105). -/
def State.admitsAt (u : State) (h reserved : Nat) (k : Fin 41) : Prop :=
  ((u.binState k = .available ∨ u.binState k = .nearFull) ∧ u.bins[k].fill + reserved + h ≤ u.bins[k].capacity) ∨
    (u.bins[k].capacity < h ∧ u.bins[k].fill = 0 ∧ reserved = 0 ∧ u.bins[k].present.state = some false ∧ u.binState k = .available)

/-- A set READY TO EJECT with a bin found for it. -/
def State.givenBin (q : Fin 8) (z : SetRec) (k : Fin 41) (t : State) : Prop :=
  ∃ y, t.getRec q = some y ∧ y = { z with state := .readyToEject, chosen := some k, side := y.side }

/-- `t` has the sets of `s` as a run of bin events leaves them, `b`'s among them, with the bins of `u`. -/
def State.ranEvents (s u : State) (b : Fin 41) (t : State) : Prop :=
  ∃ w : State, ∃ l : List (Fin 41), l.Nodup ∧ b ∈ l ∧ w.sets = s.sets ∧ w.delivery = s.delivery ∧ w.bins = u.bins ∧ w.chain = u.chain ∧
    t.sets = (l.foldl State.binEvent w).sets ∧ t.delivery = (l.foldl State.binEvent w).delivery ∧ t.bins = (l.foldl State.binEvent w).bins

theorem State.binState_of {s t : State} {k : Fin 41} (chain : t.chain = s.chain)
    (bin : t.bins[k] = { s.bins[k] with reserved := t.bins[k].reserved, nextSide := t.bins[k].nextSide }) :
    t.binState k = s.binState k := by
  unfold State.binState State.reachable
  rw [chain]
  dsimp only
  generalize t.bins[k] = y at bin
  generalize s.bins[k] = z at bin
  rw [bin]

theorem State.admits_admitsAt {w u : State} (bins : w.bins = u.bins) (chain : w.chain = u.chain) (h : Nat) (k : Fin 41) :
    w.admits h k = true ↔ u.admitsAt h u.bins[k].reserved k := by
  have state : w.binState k = u.binState k := by
    unfold State.binState State.reachable
    rw [chain, bins]
  rw [State.admits_iff, state, bins]
  rfl

/-- The shelf set of a FILL route takes the first bin of its group that admits it, or stays (R93, R97). -/
theorem State.ranEvents_fill {s u t : State} {r : Fin 8} {x : SetRec} {b : Fin 41} (ran : s.ranEvents u b t) (holds : s.Holds r x)
    (occupied : s.delivery.shelf = .occupied) (shelfSet : s.delivery.shelfSet = some r) (alone : s.delivery.compilerHold = none)
    {i first last g} (route : x.route = .entry i first last .fill g) (from_ : first ≤ b) (upTo : b ≤ last) :
    (∀ q : Fin 8, q ≠ r → t.getRec q = s.getRec q) ∧
    (∀ k, first ≤ k → k ≤ last → u.admitsAt (x.height.getD 0) u.bins[k].reserved k →
      (∀ j, first ≤ j → j < k → ¬ u.admitsAt (x.height.getD 0) u.bins[j].reserved j) →
      State.givenBin r x k t ∧ t.delivery = { s.delivery with holdTimer := none } ∧
      t.bins[k].reserved = u.bins[k].reserved + x.height.getD 0 ∧ ∀ j : Fin 41, j ≠ k → t.bins[j] = u.bins[j]) ∧
    ((∀ k, first ≤ k → k ≤ last → ¬ u.admitsAt (x.height.getD 0) u.bins[k].reserved k) →
      t.getRec r = some x ∧ t.delivery = s.delivery ∧ t.bins = u.bins) := by
  obtain ⟨w, l, nodup, mem, sets, delivery, bins, chain, tSets, tDelivery, tBins⟩ := ran
  have tried : x.tried = binRange first last := by unfold SetRec.tried; rw [route]
  have getRec (k : Fin 8) : w.getRec k = s.getRec k := by unfold State.getRec; rw [sets]
  have holdsW : w.Holds r x := ⟨(getRec r).trans holds.used, holds.held, holds.unchosen, holds.carries, holds.unbroken, holds.whole⟩
  rw [State.binEvents_fill holdsW (by rw [delivery]; exact (if_pos occupied).trans shelfSet) (by rw [delivery]; exact alone) nodup mem route
    from_ upTo] at tSets tDelivery tBins
  have recs (k : Fin 8) : t.getRec k = (w.served r x (w.finds x)).getRec k := by unfold State.getRec; rw [tSets]
  obtain ⟨others, left, own, given, -⟩ := State.served_leaves holdsW.used (w.finds x)
  have admits (k : Fin 41) := State.admits_admitsAt bins chain (x.height.getD 0) k
  refine ⟨fun q away => (recs q).trans ((others q away).trans (getRec q)), fun k low high fits least => ?_, fun none_ => ?_⟩
  · have found : w.finds x = some k := by
      unfold State.finds
      rw [tried]
      refine find?_least (binRange_sorted first last) ((mem_binRange _ _ _).mpr ⟨low, high⟩) ((admits k).mpr fits) fun j inside below => ?_
      exact fun h => least j ((mem_binRange _ _ _).mp inside).1 below ((admits j).mp h)
    rw [found] at own given left recs tBins
    refine ⟨⟨_, (recs r).trans own, ?_⟩, ?_, ?_, fun j away => ?_⟩
    · rw [holds.carries]
    · rw [tDelivery, found, left, delivery]
      unfold Delivery.found
      rw [Option.isSome_some, if_pos rfl, if_pos ⟨occupied, shelfSet⟩]
      exact congrArg (fun o => ({ s.delivery with holdTimer := none, compilerHold := o } : Delivery)) (if_neg (by rw [alone]; nofun))
    · rw [tBins, given k, if_pos rfl, bins]
      rfl
    · rw [tBins, given j, if_neg fun e => away (Option.some.inj e).symm, bins]
  · have found : w.finds x = none := by
      unfold State.finds
      rw [tried]
      refine List.find?_eq_none.mpr fun k inside h => ?_
      obtain ⟨low, high⟩ := (mem_binRange _ _ _).mp inside
      exact none_ k low high ((admits k).mp h)
    rw [found] at recs tDelivery tBins
    exact ⟨(recs r).trans holdsW.used, tDelivery.trans delivery, tBins.trans bins⟩

theorem Bin.given_of (x : SetRec) {y z : Bin} (h : y = { z with reserved := y.reserved, nextSide := y.nextSide }) :
    y.given x = { z with reserved := (y.given x).reserved, nextSide := (y.given x).nextSide } := by
  unfold Bin.given
  dsimp only
  generalize y.reserved = m at h
  generalize y.nextSide = side at h
  subst h
  rfl

/-- A held set of a DEFAULT route takes its bin where that admits it. -/
theorem State.served_default {w u : State} {r : Fin 8} {x : SetRec} {b : Fin 41} (holds : w.Holds r x) (route : x.route = .default b)
    (chain : w.chain = u.chain)
    (bin : w.bins[b] = { u.bins[b] with reserved := w.bins[b].reserved, nextSide := w.bins[b].nextSide }) :
    let v := w.served r x (w.finds x)
    (u.admitsAt (x.height.getD 0) w.bins[b].reserved b → State.givenBin r x b v ∧ v.delivery = w.delivery.found r ∧
      v.bins[b].reserved = w.bins[b].reserved + x.height.getD 0) ∧
    (¬ u.admitsAt (x.height.getD 0) w.bins[b].reserved b → v = w) ∧
    v.bins[b] = { u.bins[b] with reserved := v.bins[b].reserved, nextSide := v.bins[b].nextSide } := by
  intro v
  obtain ⟨-, left, own, given, -⟩ := State.served_leaves holds.used (w.finds x)
  have admits : w.admits (x.height.getD 0) b = true ↔ u.admitsAt (x.height.getD 0) w.bins[b].reserved b := by
    rw [State.admits_iff, State.binState_of chain bin]
    unfold State.admitsAt
    generalize w.bins[b] = y at bin
    rw [bin]
  have finds : w.finds x = if w.admits (x.height.getD 0) b then some b else none := by
    unfold State.finds SetRec.tried
    rw [route]
    dsimp only
    cases h : w.admits (x.height.getD 0) b
    · exact List.find?_cons_of_neg (by rw [h]; nofun)
    · exact List.find?_cons_of_pos h
  by_cases fits : u.admitsAt (x.height.getD 0) w.bins[b].reserved b
  · have found : w.finds x = some b := finds.trans (if_pos (admits.mpr fits))
    rw [found] at own given left
    have binB : v.bins[b] = w.bins[b].given x := by
      show (w.served r x (w.finds x)).bins[b] = _
      rw [found, given b, if_pos rfl]
    refine ⟨fun _ => ⟨⟨_, (congrArg (fun o => (w.served r x o).getRec r) found).trans own, by rw [holds.carries]⟩,
      (congrArg (fun o => (w.served r x o).delivery) found).trans left, by rw [binB]; rfl⟩, fun no => absurd fits no, ?_⟩
    rw [binB]
    exact Bin.given_of x bin
  · have found : w.finds x = none := finds.trans (if_neg fun h => fits (admits.mp h))
    have same : v = w := congrArg (fun o => w.served r x o) found
    refine ⟨fun h => absurd h fits, fun _ => same, ?_⟩
    rw [same]
    exact bin

/-- Of two sets of one DEFAULT route, the one in the compiler finds the reservation of the one on the shelf made (R106, R131). -/
theorem State.ranEvents_default {s u t : State} {r q : Fin 8} {x z : SetRec} {b : Fin 41} (ran : s.ranEvents u b t) (holds : s.Holds r x)
    (waits : s.Holds q z) (occupied : s.delivery.shelf = .occupied) (shelfSet : s.delivery.shelfSet = some r)
    (hold : s.delivery.compilerHold = some q) (other : q ≠ r) (route : x.route = .default b) (same : z.route = .default b) :
    let first := u.admitsAt (x.height.getD 0) u.bins[b].reserved b
    ∃ standing : Nat, (first → standing = u.bins[b].reserved + x.height.getD 0) ∧ (¬ first → standing = u.bins[b].reserved) ∧
      (first → State.givenBin r x b t ∧ t.delivery.holdTimer = none) ∧ (¬ first → t.getRec r = some x) ∧
      (u.admitsAt (z.height.getD 0) standing b → State.givenBin q z b t ∧ t.delivery.compilerHold = none ∧
        t.bins[b].reserved = standing + z.height.getD 0) ∧
      (¬ u.admitsAt (z.height.getD 0) standing b → t.getRec q = some z ∧ t.delivery.compilerHold = some q ∧
        t.bins[b].reserved = standing) := by
  intro first
  obtain ⟨w, l, nodup, mem, sets, delivery, bins, chain, tSets, tDelivery, tBins⟩ := ran
  have getRec (k : Fin 8) : w.getRec k = s.getRec k := by unfold State.getRec; rw [sets]
  have holdsW : w.Holds r x := ⟨(getRec r).trans holds.used, holds.held, holds.unchosen, holds.carries, holds.unbroken, holds.whole⟩
  have waitsW : w.Holds q z := ⟨(getRec q).trans waits.used, waits.held, waits.unchosen, waits.carries, waits.unbroken, waits.whole⟩
  rw [State.binEvents_default holdsW waitsW (by rw [delivery]; exact (if_pos occupied).trans shelfSet) (by rw [delivery]; exact hold) other
    nodup mem route same] at tSets tDelivery tBins
  obtain ⟨v, v_eq⟩ : ∃ v, v = w.served r x (w.finds x) := ⟨_, rfl⟩
  have second : v.Holds q z := by
    rw [v_eq]
    exact ⟨((State.served_leaves holdsW.used _).1 q other).trans waitsW.used, waits.held, waits.unchosen, waits.carries, waits.unbroken,
      waits.whole⟩
  have chainV : v.chain = u.chain := by
    rw [v_eq, (State.served_leaves holdsW.used _).2.2.2.2]
    exact chain
  have served := State.served_default (u := u) holdsW route chain (by rw [bins])
  rw [bins, ← v_eq] at served
  obtain ⟨takes, stays, binV⟩ := served
  obtain ⟨given, keeps, -⟩ := State.served_default (u := u) second same chainV binV
  have shelfRec : (v.served q z (v.finds z)).getRec r = v.getRec r := (State.served_leaves second.used _).1 r other.symm
  have holdTimer : v.delivery.holdTimer = none → (v.served q z (v.finds z)).delivery.holdTimer = none := fun none_ => by
    rw [(State.served_leaves second.used _).2.1]
    split
    · exact (congrArg (fun o => if v.delivery.shelf = .occupied ∧ v.delivery.shelfSet = some q then none else o) none_).trans (ite_self _)
    · exact none_
  have holdV : v.delivery.compilerHold = some q := by
    rw [v_eq]
    exact ((State.served_delivery holdsW.used _).2 (by rw [delivery, hold]; exact fun e => other (Option.some.inj e))).trans
      ((congrArg Delivery.compilerHold delivery).trans hold)
  rw [← v_eq] at tSets tDelivery tBins
  have recs (k : Fin 8) : t.getRec k = (v.served q z (v.finds z)).getRec k := by unfold State.getRec; rw [tSets]
  have shelfT : t.getRec r = v.getRec r := (recs r).trans shelfRec
  refine ⟨v.bins[b].reserved, fun fits => (takes fits).2.2, fun fits => by rw [stays fits, bins], fun fits => ?_, fun fits => ?_, fun fits => ?_,
    fun fits => ?_⟩
  · obtain ⟨⟨y, own, shape⟩, left, -⟩ := takes fits
    refine ⟨⟨y, shelfT.trans own, shape⟩, ?_⟩
    rw [tDelivery]
    refine holdTimer ?_
    rw [left, delivery]
    exact if_pos ⟨occupied, shelfSet⟩
  · rw [shelfT, stays fits]
    exact holdsW.used
  · obtain ⟨⟨y, own, shape⟩, left, reserved⟩ := given fits
    refine ⟨⟨y, (recs q).trans own, shape⟩, ?_, by rw [tBins, reserved]⟩
    rw [tDelivery, left]
    exact if_pos holdV
  · have same := keeps fits
    rw [same] at recs tDelivery tBins
    exact ⟨(recs q).trans second.used, by rw [tDelivery, holdV], by rw [tBins]⟩

end Sys2Proof.Machine

/-! O50: the bin events, each from what gives it. -/

namespace Sys2Proof.Machine

/-! ## The notion of the statement -/

/-- What a bin event of `b` does to the held sets, `u` having the bins as they now stand (R97, R131): the statement's own notion. -/
def State.reevaluates (s : State) (b : Fin 41) (r : Fin 8) (x : SetRec) (c : Instr) (u : State) : Prop :=
  (∀ i first last generation, x.route = .entry i first last .fill generation → first ≤ b → b ≤ last → s.delivery.compilerHold = none →
    ∃ t, exec c s = .next t ∧ (∀ q : Fin 8, q ≠ r → t.getRec q = s.getRec q) ∧
      (∀ k, first ≤ k → k ≤ last → u.admitsAt (x.height.getD 0) u.bins[k].reserved k →
        (∀ j, first ≤ j → j < k → ¬ u.admitsAt (x.height.getD 0) u.bins[j].reserved j) →
        State.givenBin r x k t ∧ t.delivery = { s.delivery with holdTimer := none } ∧
        t.bins[k].reserved = s.bins[k].reserved + x.height.getD 0 ∧ ∀ j : Fin 41, j ≠ k → t.bins[j] = u.bins[j]) ∧
      ((∀ k, first ≤ k → k ≤ last → ¬ u.admitsAt (x.height.getD 0) u.bins[k].reserved k) →
        t.getRec r = some x ∧ t.delivery = s.delivery ∧ t.bins = u.bins)) ∧
  ∀ q z, x.route = .default b → s.delivery.compilerHold = some q → q ≠ r → s.getRec q = some z → z.state = .held →
    z.chosen = none → z.divert = none → z.broken = none → z.part = 0 → z.route = .default b →
    let first := u.admitsAt (x.height.getD 0) s.bins[b].reserved b
    ∃ t, ∃ standing : Nat, exec c s = .next t ∧
      (first → standing = s.bins[b].reserved + x.height.getD 0) ∧ (¬ first → standing = s.bins[b].reserved) ∧
      (first → State.givenBin r x b t ∧ t.delivery.holdTimer = none) ∧ (¬ first → t.getRec r = some x) ∧
      (u.admitsAt (z.height.getD 0) standing b → State.givenBin q z b t ∧ t.delivery.compilerHold = none ∧
        t.bins[b].reserved = standing + z.height.getD 0) ∧
      (¬ u.admitsAt (z.height.getD 0) standing b → t.getRec q = some z ∧ t.delivery.compilerHold = some q ∧
        t.bins[b].reserved = standing)

theorem State.reevaluates_of {s u t : State} {r : Fin 8} {x : SetRec} {b : Fin 41} {c : Instr} (holds : s.Holds r x)
    (occupied : s.delivery.shelf = .occupied) (shelfSet : s.delivery.shelfSet = some r)
    (reserved : ∀ k : Fin 41, u.bins[k].reserved = s.bins[k].reserved) (e : exec c s = .next t) (ran : s.ranEvents u b t) :
    s.reevaluates b r x c u := by
  refine ⟨fun i first last g route from_ upTo alone => ?_, fun q z route hold other used held unchosen carries unbroken whole same => ?_⟩
  · obtain ⟨others, takes, stays⟩ := State.ranEvents_fill ran holds occupied shelfSet alone route from_ upTo
    refine ⟨t, e, others, fun k low high fits least => ?_, stays⟩
    obtain ⟨given, delivery, bin, bins⟩ := takes k low high fits least
    exact ⟨given, delivery, bin.trans (congrArg (· + _) (reserved k)), bins⟩
  · have two := State.ranEvents_default ran holds ⟨used, held, unchosen, carries, unbroken, whole⟩ occupied shelfSet hold other route same
    rw [reserved b] at two
    obtain ⟨standing, rest⟩ := two
    exact ⟨t, standing, e, rest⟩

/-! ## From the events to the end of the command -/

theorem State.ranEvents_of_same {s u v t : State} {b : Fin 41} (ran : s.ranEvents u b v) (sets : t.sets = v.sets)
    (delivery : t.delivery = v.delivery) (bins : t.bins = v.bins) : s.ranEvents u b t := by
  obtain ⟨w, l, nodup, mem, wSets, wDelivery, wBins, wChain, tSets, tDelivery, tBins⟩ := ran
  exact ⟨w, l, nodup, mem, wSets, wDelivery, wBins, wChain, sets.trans tSets, delivery.trans tDelivery, bins.trans tBins⟩

theorem State.ranEvents_wakeByBin {s u v : State} {b c : Fin 41} (ran : s.ranEvents u b v) : s.ranEvents u b (v.wakeByBin c).syncIdle := by
  have only := (v.wakeByBin_only c).1
  exact State.ranEvents_of_same ran (congrArg State.sets only :) (congrArg State.delivery only :) (congrArg State.bins only :)

theorem State.ranEvents_wakeEvent {s u v : State} {b : Fin 41} {k : Fin 4} (ran : s.ranEvents u b v) :
    s.ranEvents u b (v.wakeEvent k).syncIdle := by
  have only := (v.wakeEvent_only k).1
  exact State.ranEvents_of_same ran (congrArg State.sets only :) (congrArg State.delivery only :) (congrArg State.bins only :)

/-- One bin event, after a correction of its bin. -/
theorem State.ranEvents_binEvent {s w : State} {b : Fin 41} {x : Bin} (corrects : s.Corrects b x w) :
    s.ranEvents { s with bins := s.bins.set b x } b (w.binEvent b) := by
  have frame := corrects.frame
  exact ⟨w, [b], List.nodup_singleton b, List.mem_singleton_self b, (congrArg State.sets frame :), (congrArg State.delivery frame :),
    (congrArg State.bins frame :), (congrArg State.chain frame :), rfl, rfl, rfl⟩

/-- A correction is followed by a cursor-return test without effect on the sets (R98). -/
theorem State.Corrects.cursor {s t : State} {b c : Fin 41} {x : Bin} (h : s.Corrects b x t) : s.Corrects b x (t.cursorReturn c) := by
  refine ⟨?_, h.attention.trans (.of_notice rfl)⟩
  have frame := h.frame
  unfold State.cursorReturn
  generalize t.routes = routes
  rw [frame]

/-! ## The sensors -/

theorem State.sampled_ready {b : Fin 41} {s : State}
    (ready : ∀ k, towerOf b = some k → s.chain.towers[k].state = .ready ∧ s.chain.enum = none) : s.sampled b = true := by
  unfold State.sampled
  split
  · rfl
  · rename_i k at_
    obtain ⟨state, enum⟩ := ready k at_
    have present : s.chain.towers[k].present = true := by
      by_contra absent
      unfold Tower.state at state
      rw [if_pos (by simpa using absent)] at state
      cases state
    exact Bool.and_eq_true_iff.mpr ⟨State.polled_of present enum, decide_eq_true (by rw [state]; nofun)⟩

/-- An empty of a bin corrects it and gives its event (R110, R113). -/
theorem State.presentQualified_event {b : Fin 41} {s : State} (covered : s.bins[b].present.state = some true) :
    ∃ w, s.presentQualified b false = w.binEvent b ∧
      s.Corrects b { s.bins[b] with present := ⟨some false, some false, 0⟩, fill := 0, count := 0, nextSide := .left } w := by
  have empties : s.bins[b].empties false = true := (Bin.empties_iff _ _).mpr ⟨rfl, .inl covered⟩
  obtain ⟨u, u_eq⟩ : ∃ u, u = (s.presentSet b false).notify
    ⟨.binEmptied, some b.val, some (s.presentSet b false).bins[b].fill, some (s.presentSet b false).bins[b].count, none⟩ (towerOf b) := ⟨_, rfl⟩
  have attention : s.keepsAttention u := by
    rw [u_eq]
    exact (s.presentSet_corrects b false).attention.trans (State.notify_attention ..)
  have only : u = { s.presentSet b false with report := u.report } := by rw [u_eq]; rfl
  have corrects := (State.updateBin_corrects (b := b) (f := fun x => { x with fill := 0, count := 0, nextSide := .left }) (s := u)).1
  refine ⟨(u.updateBin b fun x => { x with fill := 0, count := 0, nextSide := .left }).cursorReturn b, ?_, ?_⟩
  · rw [State.presentQualified_of, empties, if_pos rfl, u_eq]
    rfl
  refine State.Corrects.cursor ⟨?_, attention.trans corrects.attention⟩
  have frame := corrects.frame
  have bin : u.bins[b] = { s.bins[b] with present := .qualified false } := by
    rw [only]
    exact Vector.getElem_set_self _
  rw [bin] at frame
  generalize u.updateBin b (fun x => { x with fill := 0, count := 0, nextSide := .left }) = t at *
  rw [frame, only]
  show ({ s with pins := t.pins, report := t.report, routes := t.routes, bins := (s.bins.set b _).set b _ } : State) = _
  rw [Vector.set_set]
  rfl

/-- A re-reference corrects its bin and gives its event (R112, R113). -/
theorem State.fullQualified_event {b : Fin 41} {s : State} (renews : s.bins[b].rereferences = true) :
    ∃ w, s.fullQualified b false = w.binEvent b ∧ s.Corrects b (s.bins[b].fullQualified false) w := by
  have corrects := (State.updateBin_corrects (b := b) (f := Bin.fullQualified false) (s := s)).1
  have set : s.Corrects b (s.bins[b].fullQualified false) (s.fullSet b false) := by
    refine ⟨?_, corrects.attention.trans (.of_notice rfl)⟩
    unfold State.fullSet
    have frame := corrects.frame
    generalize s.updateBin b (Bin.fullQualified false) = t at *
    rw [frame]
  exact ⟨_, by rw [State.fullQualified_of, renews]; exact if_pos rfl, set.cursor⟩

/-- A bin as a re-reference leaves it (R112). -/
theorem Bin.fullQualified_rereferenced {x : Bin} (renews : x.rereferences = true) :
    x.fullQualified false = { x with full := ⟨some false, some false, 0⟩, fill := x.capacity - x.margin - 1 } := by
  obtain ⟨full, present⟩ := (Bin.rereferences_iff x).mp renews
  unfold Bin.fullQualified
  rw [if_neg nofun, if_pos (by simp [full, present])]
  rfl

/-- A correction of one bin leaves the reservations (R110, R112, R114). -/
theorem State.reserved_set {s : State} {b : Fin 41} {x : Bin} (same : x.reserved = s.bins[b].reserved) (k : Fin 41) :
    (s.bins.set b x)[k].reserved = s.bins[k].reserved := by
  by_cases here : b = k
  · subst here
    exact (congrArg Bin.reserved (Vector.getElem_set_self _)).trans same
  · exact congrArg Bin.reserved (Vector.getElem_set_ne _ _ fun e => here (Fin.ext e))

/-! ## The write -/

/-- A write of one bin (R114). -/
theorem writeAll_one {b : Fin 41} {y : BinWrite} (v : Vector Bin 41) : writeAll Bin.write b.val [y] v = v.set b (v[b].write y) := by
  refine Vector.ext fun i inside => ?_
  by_cases here : b.val = i
  · subst here
    rw [Vector.getElem_set_self]
    exact writeAll_written Bin.write b.val [y] v b y (le_refl _) (by rw [Nat.sub_self]; rfl)
  · rw [Vector.getElem_set_ne _ _ here]
    exact writeAll_kept Bin.write b.val [y] v ⟨i, inside⟩ (by dsimp only [List.length_singleton]; omega)

/-- What a write of one bin does: the value, what changed bins tell, and the event of the bin if it is roomier (R113, R114). -/
theorem exec_binWrite {s : State} {tag : Byte} {rest : List Byte} {b : Fin 41} {y : BinWrite} (live : s.live)
    (op : s.run.op ≠ .starting) (body : tableBody binEntries rest = some (b.val, [y])) (enabled : y.enabled.toNat ≤ 1) :
    ∃ u : State, exec (.binWrite tag rest) s =
        .next ((((binsWritten b.val 1).filter fun k => s.bins[k].roomier (s.bins.set b (s.bins[b].write y))[k]).foldl State.binEvent u).syncIdle) ∧
      u.sets = s.sets ∧ u.delivery = s.delivery ∧ u.bins = s.bins.set b (s.bins[b].write y) ∧ u.chain = s.chain := by
  have small : b.val + 1 ≤ 41 := by omega
  have taken := exec_tableWrite (c := .binWrite tag rest) rfl live op body
    (by simpa [yesNo_isSome, small] using enabled)
  let v : State := { s.frameTaken with bins := writeAll Bin.write b.val [y] s.bins }
  obtain ⟨frame, -⟩ := v.binsChanged_tells s.frameTaken (binsWritten b.val 1)
  refine ⟨v.binsChanged s.frameTaken (binsWritten b.val 1), ?_, (congrArg State.sets frame :), (congrArg State.delivery frame :), ?_,
    (congrArg State.chain frame :)⟩
  · rw [taken, ← writeAll_one]
    rfl
  · exact (congrArg State.bins frame :).trans (writeAll_one s.bins)

/-- Whether a write makes a bin roomier (R113). -/
theorem Bin.roomier_iff (old new : Bin) : old.roomier new = true ↔
    (old.enabled = false ∧ new.enabled = true) ∨ old.capacity < new.capacity ∨ new.margin < old.margin := by
  simp [Bin.roomier, or_assoc]

/-! ## The tower -/

/-- A qualified change of an input of a tower that is polled (R119). -/
theorem exec_towerInputChange {s : State} {k : Fin 4} {i : TowerInput} {v : Bool} (live : s.live)
    (present : s.chain.towers[k].present = true) (enum : s.chain.enum = none) (differs : (s.chain.towers[k].input i).state ≠ some v) :
    exec (.towerInputChange k i v) s = .next (s.inputQualified k i v).syncIdle := by
  show execTowerInputChange k i v s = _
  rw [execTowerInputChange, State.does_live live]
  exact congrArg (fun t : State => Host.Outcome.next t.syncIdle)
    (if_pos (Bool.and_eq_true_iff.mpr ⟨State.polled_of present enum, decide_eq_true differs⟩))

/-- A tower with an input not qualified on is not READY (R119). -/
theorem Tower.state_off {x : Tower} {i : TowerInput} (present : x.present = true) (off : (x.input i).state ≠ some true) : x.state ≠ .ready := by
  unfold Tower.state
  rw [if_neg (by rw [present]; nofun)]
  cases i with
  | power => rw [if_pos (show x.power.state ≠ some true from off)]; nofun
  | door =>
    by_cases power : x.power.state ≠ some true
    · rw [if_pos power]; nofun
    · rw [if_neg power, if_pos (show x.door.state ≠ some true from off)]; nofun

/-- A tower that has become READY gives its bins their events (R113, R119). -/
theorem State.inputQualified_event {s : State} {b : Fin 41} {k : Fin 4} {i : TowerInput} (at_ : towerOf b = some k)
    (was : s.chain.towers[k].state ≠ .ready) (ready : (s.chain.towers[k].setInput i (.qualified true)).state = .ready) :
    ∃ v, s.inputQualified k i true = v.wakeEvent k ∧ s.ranEvents (s.modTower k (Tower.setInput i (.qualified true))) b v := by
  obtain ⟨u, u_eq⟩ : ∃ u, u = s.modTower k (Tower.setInput i (.qualified true)) := ⟨_, rfl⟩
  obtain ⟨m, m_eq⟩ : ∃ m, m = if u.chain.towers[k].state ≠ s.chain.towers[k].state then u.towerNotice k (inputCause i true) else u := ⟨_, rfl⟩
  refine ⟨m.towerChanged k s, by rw [m_eq, u_eq]; rfl, ?_⟩
  have only : m = { u with report := m.report } := by
    rw [m_eq]
    split <;> rfl
  obtain ⟨frame, -⟩ := m.binsChanged_tells s (binsOf k)
  have now : (m.binsChanged s (binsOf k)).chain.towers[k].state = .ready := by
    rw [frame, only, u_eq]
    show (s.chain.towers.set k _)[k].state = _
    exact (congrArg Tower.state (Vector.getElem_set_self _)).trans ready
  have changed : m.towerChanged k s = (binsOf k).foldl State.binEvent (m.binsChanged s (binsOf k)) :=
    if_pos (Bool.and_eq_true_iff.mpr ⟨decide_eq_true was, decide_eq_true now⟩)
  rw [changed, ← u_eq]
  have binsNodup : (binsOf k).Nodup := (List.nodup_finRange 41).filter _
  refine ⟨_, binsOf k, binsNodup, (mem_binsOf k b).mpr at_, ?_, ?_, ?_, ?_, rfl, rfl, rfl⟩ <;> rw [frame, only]
  · rw [u_eq]; rfl
  · rw [u_eq]; rfl

/-- Settles O50: each of the four gives a run of bin events in which that of the bin stands, and the held sets are served by it in order. -/
theorem binEventsReevaluateTheHeldSets : Obligations.BinEventsReevaluateTheHeldSets := by
  unfold Obligations.BinEventsReevaluateTheHeldSets
  intro s b r x live occupied shelfSet used held unchosen carries unbroken whole reevaluates binNow clear sampled
  have holds : s.Holds r x := ⟨used, held, unchosen, carries, unbroken, whole⟩
  refine ⟨fun ready covered => ?_, fun ready covered full => ?_, fun tag rest y op body enabled => ⟨fun roomier => ?_, fun tight => ?_⟩,
    fun k i at_ present enum was ready => ?_⟩
  · obtain ⟨w, e, corrects⟩ := State.presentQualified_event covered
    have taken := exec_binEmpty live (State.sampled_ready ready) (by rw [covered]; nofun)
    rw [e] at taken
    exact State.reevaluates_of holds occupied shelfSet (State.reserved_set rfl) taken (State.ranEvents_wakeByBin (State.ranEvents_binEvent corrects))
  · have renews : s.bins[b].rereferences = true := (Bin.rereferences_iff _).mpr ⟨full, covered⟩
    obtain ⟨w, e, corrects⟩ := State.fullQualified_event renews
    have taken := exec_reReference live (State.sampled_ready ready) renews
    rw [e] at taken
    rw [Bin.fullQualified_rereferenced renews] at corrects
    exact State.reevaluates_of holds occupied shelfSet (State.reserved_set rfl) taken (State.ranEvents_wakeByBin (State.ranEvents_binEvent corrects))
  · obtain ⟨u, taken, sets, delivery, bins, chain⟩ := exec_binWrite live op body enabled
    have written : (s.bins.set b (s.bins[b].write y))[b] = s.bins[b].write y := Vector.getElem_set_self _
    refine State.reevaluates_of holds occupied shelfSet (State.reserved_set rfl) taken ?_
    have nodup : ((binsWritten b.val 1).filter fun k => s.bins[k].roomier (s.bins.set b (s.bins[b].write y))[k]).Nodup :=
      ((List.nodup_finRange 41).filter _).filter _
    refine ⟨u, _, nodup, List.mem_filter.mpr ⟨mem_binsWritten.mpr ⟨le_refl _, Nat.lt_succ_self _⟩, ?_⟩, sets, delivery, bins, chain,
      rfl, rfl, rfl⟩
    exact (congrArg (s.bins[b].roomier ·) written).trans ((Bin.roomier_iff _ _).mpr roomier)
  · obtain ⟨u, taken, sets, delivery, bins, chain⟩ := exec_binWrite live op body enabled
    have none_ : (binsWritten b.val 1).filter (fun k => s.bins[k].roomier (s.bins.set b (s.bins[b].write y))[k]) = [] := by
      refine List.filter_eq_nil_iff.mpr fun k among h => ?_
      obtain ⟨low, high⟩ := mem_binsWritten.mp among
      obtain rfl : k = b := Fin.ext (by omega)
      exact tight ((Bin.roomier_iff _ _).mp ((congrArg (s.bins[k].roomier ·) (Vector.getElem_set_self _)).symm.trans h))
    rw [none_] at taken
    exact ⟨_, taken, sets, delivery, bins⟩
  · have off := Tower.state_off present was
    obtain ⟨v, e, ran⟩ := State.inputQualified_event at_ off ready
    have taken := exec_towerInputChange live present enum was
    rw [e] at taken
    exact State.reevaluates_of holds occupied shelfSet (fun _ => rfl) taken (State.ranEvents_wakeEvent ran)

end Sys2Proof.Machine

/-! What a purge may change on its way through the sets of its slot (R5, R19, R106, R131). -/

namespace Sys2Proof.Machine

/-! ## A marked set -/

/-- A set that keeps its divert reason, or its lack of one, whatever is done for other sets: it is marked purged, or ON BELT (R5, R19). -/
def SetRec.fixed (x : SetRec) : Prop := x.divert = some .purged ∨ x.state = .onBelt

/-- The Delivery Controller holds the set no more (R131, R132). -/
def State.unholds (r : Fin 8) (t : State) : Prop :=
  t.delivery.compilerHold ≠ some r ∧ (t.delivery.shelf = .occupied → t.delivery.shelfSet = some r → t.delivery.holdTimer = none)

/-- The set is as it was but for its part bin, or it was held and has left for bin 0. -/
def State.lets (r : Fin 8) (x : SetRec) (t : State) : Prop :=
  ∃ y, t.getRec r = some y ∧ (y = { x with partBin := y.partBin } ∨
    (x.state = .held ∧ y = { x with partBin := y.partBin, state := .readyToEject, chosen := some 0, side := y.side } ∧ t.unholds r))

theorem State.lets_of_same {r : Fin 8} {x : SetRec} {t : State} (used : t.getRec r = some x) : t.lets r x := ⟨x, used, .inl rfl⟩

/-- `t` is `s` after a purge has acted, on sets none of which stands in `p`. -/
structure State.Clears (p : Fin 8 → Prop) (s t : State) : Prop where
  frame : t = { s with
    report := t.report, sets := ⟨t.sets.recs, s.sets.order⟩, binder := { s.binder with forming := t.binder.forming }
    compiler := { s.compiler with state := t.compiler.state }, routes := { s.routes with entries := t.routes.entries }, bins := t.bins
    delivery := { s.delivery with holdTimer := t.delivery.holdTimer, compilerHold := t.delivery.compilerHold } }
  slots : ∀ k x, s.getRec k = some x → ∃ y, t.getRec k = some y ∧ y.slot = x.slot
  bins : ∀ b : Fin 41, t.bins[b] = { s.bins[b] with reserved := t.bins[b].reserved, nextSide := t.bins[b].nextSide }
  forming : s.binder.forming = none → t.binder.forming = none
  ejecting : s.compiler.state = .ejecting → t.compiler.state = .ejecting
  staples : t.stands .staples → s.stands .staples
  timer : s.delivery.holdTimer = none → t.delivery.holdTimer = none
  hold : t.delivery.compilerHold = s.delivery.compilerHold ∨ t.delivery.compilerHold = none
  recs : ∀ r x, p r → s.getRec r = some x → x.fixed → t.lets r x

variable {p : Fin 8 → Prop} {s t u : State}

theorem State.Clears.unholds (h : s.Clears p t) {r : Fin 8} (free : s.unholds r) : t.unholds r := by
  refine ⟨fun holds => ?_, fun shelf set => h.timer (free.2 ?_ ?_)⟩
  · obtain same | none_ := h.hold
    · exact free.1 (same.symm.trans holds)
    · rw [none_] at holds
      cases holds
  · rw [h.frame] at shelf
    exact shelf
  · rw [h.frame] at set
    exact set

/-- What has been let be, or has left for bin 0, is let be from there on. -/
theorem State.Clears.lets (h : s.Clears p t) {r : Fin 8} {x : SetRec} (outside : p r) (fixed : x.fixed) (lets : s.lets r x) : t.lets r x := by
  obtain ⟨y, used, same | ⟨held, found, free⟩⟩ := lets
  · have fixed_y : y.fixed := by rw [same]; exact fixed
    obtain ⟨z, used_z, same_z | ⟨held, found, free⟩⟩ := h.recs r y outside used fixed_y
    · exact ⟨z, used_z, .inl (by rw [same_z, same])⟩
    · refine ⟨z, used_z, .inr ⟨?_, ?_, free⟩⟩
      · rw [same] at held
        exact held
      · rw [found, same]
  · have marked : x.divert = some .purged := fixed.resolve_right (by rw [held]; nofun)
    have fixed_y : y.fixed := .inl (by rw [found]; exact marked)
    obtain ⟨z, used_z, same_z | ⟨held_y, -⟩⟩ := h.recs r y outside used fixed_y
    · exact ⟨z, used_z, .inr ⟨held, by rw [same_z, found], h.unholds free⟩⟩
    · rw [found] at held_y
      cases held_y

theorem State.Clears.refl (p : Fin 8 → Prop) (s : State) : s.Clears p s where
  frame := rfl
  slots _ x used := ⟨x, used, rfl⟩
  bins _ := rfl
  forming := id
  ejecting := id
  staples := id
  timer := id
  hold := .inl rfl
  recs _ _ _ used _ := State.lets_of_same used

theorem State.Clears.trans (h : s.Clears p t) (k : t.Clears p u) : s.Clears p u where
  frame := by rw [k.frame, h.frame]
  slots r x used := by
    obtain ⟨y, used, one⟩ := h.slots r x used
    obtain ⟨z, used, two⟩ := k.slots r y used
    exact ⟨z, used, two.trans one⟩
  bins b := by rw [k.bins b, h.bins b]
  forming e := k.forming (h.forming e)
  ejecting e := k.ejecting (h.ejecting e)
  staples e := h.staples (k.staples e)
  timer e := k.timer (h.timer e)
  hold := k.hold.elim (fun e => e ▸ h.hold) .inr
  recs r x outside used fixed := k.lets outside fixed (h.recs r x outside used fixed)

theorem State.Clears.of_imp {q : Fin 8 → Prop} (h : s.Clears q t) (weaker : ∀ r, p r → q r) : s.Clears p t :=
  { h with recs := fun r x outside => h.recs r x (weaker r outside) }

theorem State.Clears.foldl {α : Type} (f : State → α → State) (clears : ∀ (s : State) (x : α), s.Clears p (f s x)) (l : List α) (s : State) :
    s.Clears p (l.foldl f s) := by
  induction l generalizing s with
  | nil => exact .refl p s
  | cons x l ih => exact (clears s x).trans (ih (f s x))

/-- Bins chosen for sets clear what they leave. -/
theorem State.Clears.of_rebins (h : s.Rebins t) (timer : s.delivery.holdTimer = none → t.delivery.holdTimer = none)
    (hold : t.delivery.compilerHold = s.delivery.compilerHold ∨ t.delivery.compilerHold = none)
    (recs : ∀ r x, p r → s.getRec r = some x → x.fixed → t.lets r x) : s.Clears p t where
  frame := by
    rw [h.frame]
  slots k x used := by
    obtain ⟨y, used, same⟩ := h.used k x used
    exact ⟨y, used, by rw [same]⟩
  bins := h.bins
  forming e := by rw [h.frame]; exact e
  ejecting e := by rw [h.frame]; exact e
  staples := (h.tells.reasons .staples (by decide)).mp
  timer := timer
  hold := hold
  recs := recs

/-! ## Bin choices for marked sets, and for others -/

theorem State.selectBin_clears (k : Fin 8) (s : State) : s.Clears (· ≠ k) (s.selectBin k) := by
  have same : (s.selectBin k).delivery = s.delivery := by simp
  exact .of_rebins (s.selectBin_rebins k) (by rw [same]; exact id) (.inl (by rw [same])) fun r x other used _ =>
    State.lets_of_same ((State.selectBin_getRec_ne other s).trans used)

theorem State.retarget_clears {k : Fin 8} {x : SetRec} (d : DivertReason) (used : s.getRec k = some x) : s.Clears (· ≠ k) (s.retarget k d) := by
  have same : (s.retarget k d).delivery = s.delivery := by simp
  refine .of_rebins (s.retarget_rebins k d) (by rw [same]; exact id) (.inl (by rw [same])) fun r y other used' _ => ?_
  obtain ⟨side, e⟩ := State.retarget_getRec k r d x s used
  exact State.lets_of_same (by rw [e, if_neg other, used'])

theorem State.foundBin_delivery (k : Fin 8) (s : State) : (s.foundBin k).delivery = s.delivery.found k := by
  simp [State.foundBin, Delivery.found]

theorem State.foundBin_clears (k : Fin 8) (s : State) : s.Clears (· ≠ k) (s.foundBin k) := by
  refine .of_rebins (s.foundBin_rebins k) (fun none_ => ?_) ?_ fun r x other used _ =>
    State.lets_of_same ((State.foundBin_getRec_ne other s).trans used)
  · rw [State.foundBin_delivery]
    exact (congrArg (fun o => if s.delivery.shelf = .occupied ∧ s.delivery.shelfSet = some k then none else o) none_).trans (ite_self _)
  · rw [State.foundBin_delivery]
    show (if s.delivery.compilerHold = some k then none else s.delivery.compilerHold) = _ ∨
      (if s.delivery.compilerHold = some k then none else s.delivery.compilerHold) = _
    split
    · exact .inr rfl
    · exact .inl rfl

theorem State.foundBin_unholds {k : Fin 8} (s : State) : (s.foundBin k).unholds k := by
  unfold State.unholds
  rw [State.foundBin_delivery]
  refine ⟨fun holds => ?_, fun shelf set => ?_⟩
  · have left : (if s.delivery.compilerHold = some k then none else s.delivery.compilerHold) = some k := holds
    split at left
    · cases left
    · contradiction
  · exact if_pos ⟨shelf, set⟩

/-- A marked set held is diverted to bin 0 (R5, R92). -/
theorem State.divert_lets {k : Fin 8} {x : SetRec} (used : s.getRec k = some x) (marked : x.divert = some .purged) (held : x.state = .held) :
    ((s.retarget k .purged).foundBin k).lets k x := by
  obtain ⟨side, e⟩ := State.retarget_getRec k k .purged x s used
  have kept : x.divert.getD .purged = .purged := by rw [marked]; rfl
  rw [if_pos rfl, kept, ← marked] at e
  have found := State.foundBin_getRec k k _ _ e
  rw [if_pos rfl] at found
  exact ⟨_, found, .inr ⟨held, rfl, State.foundBin_unholds _⟩⟩

/-- The divert of any set held lets every set be that is marked or ON BELT. -/
theorem State.reevaluate_lets {k : Fin 8} {x : SetRec} (used : s.getRec k = some x) (fixed : x.fixed) (held : x.state = .held) :
    (if (s.selectBin k).hasBin k then (s.selectBin k).foundBin k else s.selectBin k).lets k x := by
  have marked : x.divert = some .purged := fixed.resolve_right (by rw [held]; nofun)
  have retargeted : s.selectBin k = s.retarget k .purged := by
    unfold State.selectBin
    rw [used]
    exact if_pos (by rw [marked]; rfl)
  rw [retargeted]
  have has : (s.retarget k .purged).hasBin k = true := by
    obtain ⟨side, e⟩ := State.retarget_getRec k k .purged x s used
    rw [if_pos rfl] at e
    unfold State.hasBin
    rw [e]
    rfl
  rw [if_pos has]
  exact State.divert_lets used marked held

theorem State.reevaluatePart_clears (k : Fin 8) (s : State) : s.Clears (· ≠ k) (s.reevaluatePart k) := by
  unfold State.reevaluatePart
  dsimp only
  split
  · exact (s.selectBin_clears k).trans (State.foundBin_clears k _)
  · exact s.selectBin_clears k

theorem State.Clears.all {k : Fin 8} (h : s.Clears (· ≠ k) t) (own : ∀ x, s.getRec k = some x → x.fixed → t.lets k x) :
    s.Clears (fun _ => True) t := by
  refine { h with recs := fun r x _ used fixed => ?_ }
  by_cases here : r = k
  · subst here
    exact own x used fixed
  · exact h.recs r x here used fixed

theorem State.passTo_clears (b : Fin 41) (d : Option DivertReason) (s : State) (k : Fin 8) : s.Clears (fun _ => True) (s.passTo b d k) := by
  unfold State.passTo
  split
  · exact .refl _ s
  · rename_i x used
    dsimp only
    obtain ⟨y, y_eq⟩ : ∃ y, y = { x with
      partBin := some b, divert := x.divert.orElse fun _ => if x.state = SetState.onBelt then none else d } := ⟨_, rfl⟩
    have written : s.Clears (· ≠ k) (s.setRec k y) := by
      refine .of_rebins (State.setRec_rebins used (by rw [y_eq]; rfl)) id (.inl rfl) fun r z other used' _ => ?_
      exact State.lets_of_same ((State.setRec_getRec_ne k r other y s).trans used')
    have keeps (fixed : x.fixed) : y = { x with partBin := y.partBin } := by
      rw [y_eq]
      obtain marked | belt := fixed
      · rw [marked]
        dsimp only [Option.orElse]
      · rw [if_pos belt]
        cases x.divert <;> rfl
    have there : (s.setRec k y).getRec k = some y := State.setRec_getRec k y s
    rw [← y_eq]
    by_cases held : x.state = .held
    · rw [if_pos held]
      refine State.Clears.all (written.trans (State.reevaluatePart_clears k _)) fun z used' fixed => ?_
      rw [used] at used'
      cases used'
      have shape := keeps fixed
      have held_y : y.state = .held := by rw [shape]; exact held
      obtain ⟨w, used_w, same | ⟨-, found, free⟩⟩ := State.reevaluate_lets there (by rw [shape]; exact fixed) held_y
      · exact ⟨w, used_w, .inl (by rw [same, shape])⟩
      · exact ⟨w, used_w, .inr ⟨held, by rw [found, shape], free⟩⟩
    · rw [if_neg held]
      refine State.Clears.all written fun z used' fixed => ?_
      rw [used] at used'
      cases used'
      exact ⟨y, there, .inl (keeps fixed)⟩

theorem State.passPartBin_clears (k : Fin 8) (s : State) : s.Clears (fun _ => True) (s.passPartBin k) := by
  unfold State.passPartBin
  split
  · split
    · split
      · exact .foldl _ (fun t k => t.passTo_clears _ _ k) _ s
      · exact .refl _ s
    · exact .refl _ s
  · exact .refl _ s

theorem State.reevaluateFor_clears (b : Fin 41) (o : Option (Fin 8)) (s : State) : s.Clears (fun _ => True) (s.reevaluateFor b o) := by
  unfold State.reevaluateFor
  split
  · exact .refl _ s
  · rename_i k
    split
    · rename_i x used
      split
      · rename_i held
        have held : x.state = .held := of_decide_eq_true (Bool.and_eq_true_iff.mp held).1
        have part : s.Clears (fun _ => True) (s.reevaluatePart k) := State.Clears.all (s.reevaluatePart_clears k) fun y used' fixed => by
          rw [used] at used'
          cases used'
          exact State.reevaluate_lets used fixed held
        unfold State.reevaluate
        unfold State.reevaluatePart at part
        dsimp only at part ⊢
        split at part
        · rename_i has
          rw [if_pos has]
          exact part.trans (State.passPartBin_clears k _)
        · rename_i no
          rw [if_neg no]
          exact part
      · exact .refl _ s
    · exact .refl _ s

theorem State.binEvent_clears (s : State) (b : Fin 41) : s.Clears (fun _ => True) (s.binEvent b) :=
  (s.reevaluateFor_clears b _).trans (State.reevaluateFor_clears b _ _)

end Sys2Proof.Machine

/-! O15: the sets of a purged slot, each treated by its state (R5, R83). -/

namespace Sys2Proof.Machine

variable {p : Fin 8 → Prop} {s t u : State}

/-! ## One set leaves -/

/-- One record rewritten, its slot kept. -/
theorem State.modRec_clears (r : Fin 8) {f : SetRec → SetRec} (slot : ∀ y, (f y).slot = y.slot) (s : State) :
    s.Clears (· ≠ r) (s.modRec r f) := by
  have only := s.modRec_order r f
  have getRec (k : Fin 8) : ∀ x, s.getRec k = some x → (s.modRec r f).getRec k = some (if k = r then f x else x) := fun x used => by
    by_cases here : k = r
    · subst here
      rw [State.modRec_getRec k f x s used, if_pos rfl]
    · rw [if_neg here]
      unfold State.modRec
      split
      · exact (State.setRec_getRec_ne r k here _ s).trans used
      · exact used
  generalize s.modRec r f = v at *
  refine { frame := ?_, slots := fun k x used => ⟨_, getRec k x used, ?_⟩, bins := ?_, forming := ?_, ejecting := ?_, staples := ?_,
           timer := ?_, hold := ?_, recs := fun k x other used _ => State.lets_of_same ((getRec k x used).trans (by rw [if_neg other])) }
  · rw [only]
  · split
    · exact slot x
    · rfl
  all_goals rw [only]
  · exact fun _ => rfl
  · exact id
  · exact id
  · exact id
  · exact id
  · exact .inl rfl

theorem State.dropReservation_clears {r : Fin 8} {x : SetRec} (used : s.getRec r = some x) : s.Clears (· ≠ r) (s.dropReservation r) := by
  have same : (s.dropReservation r).delivery = s.delivery := by simp
  refine .of_rebins (s.dropReservation_rebins r) (by rw [same]; exact id) (.inl (by rw [same])) fun k y other used' _ => ?_
  exact State.lets_of_same (by rw [State.dropReservation_getRec r k x s used, if_neg other, used'])

/-- A set with a bin waits for its eject (R81). -/
theorem State.awaitEject_clears {r : Fin 8} {x : SetRec} (used : s.getRec r = some x) (bin : x.chosen.isSome = true) :
    s.Clears (· ≠ r) (s.awaitEject r .ejecting) := by
  have only := s.awaitEject_only r .ejecting
  have has : s.hasBin r = true := by
    unfold State.hasBin
    rw [used]
    exact bin
  rw [if_pos has] at only
  have getRec (k : Fin 8) := State.awaitEject_getRec r k .ejecting x s used
  have staples : (s.awaitEject r .ejecting).stands .staples → s.stands .staples := State.awaitEject_stands r _ .staples s
  generalize s.awaitEject r .ejecting = v at *
  refine { frame := ?_, slots := fun k y used' => ?_, bins := ?_, forming := ?_, ejecting := ?_, staples := staples, timer := ?_, hold := ?_,
           recs := fun k y other used' _ => State.lets_of_same (by rw [getRec k, if_neg other, used']) }
  · rw [only]
  · rw [getRec k]
    by_cases here : k = r
    · subst here
      rw [used] at used'
      cases used'
      exact ⟨_, if_pos rfl, rfl⟩
    · exact ⟨y, (if_neg here).trans used', rfl⟩
  all_goals rw [only]
  · exact fun _ => rfl
  · exact id
  · exact fun _ => rfl
  · exact id
  · exact .inl rfl

theorem State.purgedEject_clears {r : Fin 8} {x : SetRec} (used : s.getRec r = some x) : s.Clears (· ≠ r) (s.purgedEject r) := by
  have dropped := State.dropReservation_getRec r r x s used
  rw [if_pos rfl] at dropped
  obtain ⟨u, u_eq⟩ : ∃ u, u = (s.dropReservation r).modRec r fun x' =>
    { x' with result := x.purgedResult, height := some (x'.height.getD x'.thickness) } := ⟨_, rfl⟩
  have fixed := State.modRec_getRec r (fun x' => { x' with result := x.purgedResult, height := some (x'.height.getD x'.thickness) }) _ _ dropped
  rw [← u_eq] at fixed
  obtain ⟨side, diverted⟩ := State.retarget_getRec r r .purged _ u fixed
  rw [if_pos rfl] at diverted
  have ends : s.purgedEject r = match x.chosen with
      | some b => ((u.retarget r .purged).awaitEject r .ejecting).binEvent b
      | none => (u.retarget r .purged).awaitEject r .ejecting := by
    unfold State.purgedEject
    rw [used, u_eq]
    rfl
  have waits : s.Clears (· ≠ r) ((u.retarget r .purged).awaitEject r .ejecting) := by
    refine ((State.dropReservation_clears used).trans ?_).trans ((State.retarget_clears .purged fixed).trans (State.awaitEject_clears diverted rfl))
    rw [u_eq]
    exact State.modRec_clears r (f := fun x' => { x' with result := x.purgedResult, height := some (x'.height.getD x'.thickness) })
      (fun _ => rfl) _
  rw [ends]
  split
  · exact waits.trans ((State.binEvent_clears _ _).of_imp fun _ _ => trivial)
  · exact waits

/-! ## The treatment of a set -/

/-- A set as it leaves finishing purged (R83), before its part bin and side. -/
def SetRec.purgedOut (x : SetRec) (side : OffsetSide) (partBin : Option (Fin 41)) : SetRec :=
  { x with
    state := .readyToEject, chosen := some 0, side := side, partBin := partBin, height := some (x.height.getD x.thickness)
    result := if x.pattern = .none then .notRequested else .skipped }

/-- The set `x`, marked purged, has been treated by its state in `t` (R5's table), `y` being its record now. -/
def State.treats (r : Fin 8) (x y : SetRec) (t : State) : Prop :=
  match x.state with
  | .forming => t.binder.forming = none ∧ (x.compiled ≠ x.bound → y = { x with state := .gathering, partBin := y.partBin }) ∧
      (x.compiled = x.bound → y = x.purgedOut y.side y.partBin ∧ t.compiler.state = .ejecting)
  | .gathering | .compiling | .stapling => y = { x with partBin := y.partBin }
  | .stapleWait => y = x.purgedOut y.side y.partBin ∧ t.compiler.state = .ejecting ∧ ¬ t.stands .staples
  | .readyToEject => y = { x with chosen := some 0, side := y.side, partBin := y.partBin }
  | .held => y = { x with state := .readyToEject, chosen := some 0, side := y.side, partBin := y.partBin } ∧ t.unholds r
  | .onBelt => y = { x with partBin := y.partBin }

def State.treated (r : Fin 8) (x : SetRec) (t : State) : Prop := ∃ y, t.getRec r = some y ∧ State.treats r x y t

/-- A treated set is held no more, and keeps its mark. -/
theorem State.treats_out {r : Fin 8} {x y : SetRec} (h : State.treats r x y t) (marked : x.divert = some .purged) :
    y.divert = some .purged ∧ y.state ≠ .held := by
  unfold State.treats at h
  cases state : x.state <;> rw [state] at h <;> dsimp only at h
  case forming =>
    by_cases landed : x.compiled = x.bound
    · rw [(h.2.2 landed).1]
      exact ⟨marked, nofun⟩
    · rw [h.2.1 landed]
      exact ⟨marked, nofun⟩
  case stapleWait | held =>
    rw [h.1]
    exact ⟨marked, nofun⟩
  all_goals
    rw [h]
    exact ⟨marked, nofun⟩

/-- The treatment of a set stands through what a purge does for others. -/
theorem State.Clears.treated (h : s.Clears p t) {r : Fin 8} {x : SetRec} (outside : p r) (marked : x.divert = some .purged)
    (done : s.treated r x) : t.treated r x := by
  obtain ⟨y, used, y_eq⟩ := done
  obtain ⟨marked_y, out⟩ := State.treats_out y_eq marked
  obtain ⟨z, used_z, same | ⟨held, -⟩⟩ := h.recs r y outside used (.inl marked_y)
  swap
  · exact absurd held out
  refine ⟨z, used_z, ?_⟩
  unfold State.treats at y_eq ⊢
  cases state : x.state <;> rw [state] at y_eq <;> dsimp only at y_eq ⊢
  case forming =>
    refine ⟨h.forming y_eq.1, fun more => ?_, fun landed => ⟨?_, h.ejecting (y_eq.2.2 landed).2⟩⟩
    · rw [same, y_eq.2.1 more]
    · rw [same, (y_eq.2.2 landed).1]
      rfl
  case stapleWait =>
    refine ⟨?_, h.ejecting y_eq.2.1, fun stands => y_eq.2.2 (h.staples stands)⟩
    rw [same, y_eq.1]
    rfl
  case held =>
    refine ⟨?_, h.unholds y_eq.2⟩
    rw [same, y_eq.1]
  all_goals rw [same, y_eq]

/-- A marked set that has been let be, or has left for bin 0, is treated as its old self once it is treated as it stands. -/
theorem State.treated_of_lets {r : Fin 8} {x : SetRec} (h : s.Clears p t) (lets : s.lets r x)
    (marked : x.divert = some .purged) (own : ∀ y, s.getRec r = some y → y.divert = some .purged → t.treated r y) : t.treated r x := by
  obtain ⟨y, used, same | ⟨held, found, free⟩⟩ := lets
  · obtain ⟨z, used_z, treats⟩ := own y used (by rw [same]; exact marked)
    refine ⟨z, used_z, ?_⟩
    rw [same] at treats
    unfold State.treats at treats ⊢
    exact treats
  · obtain ⟨z, used_z, treats⟩ := own y used (by rw [found]; exact marked)
    refine ⟨z, used_z, ?_⟩
    rw [found] at treats
    unfold State.treats at treats ⊢
    rw [held]
    exact ⟨treats, h.unholds free⟩

/-! ## One set is treated -/

/-- A purged set leaves the compiler as R83 says. -/
theorem State.purgedEject_out {r : Fin 8} {x : SetRec} (used : s.getRec r = some x) (marked : x.divert = some .purged)
    (other : x.state ≠ .stapling) :
    ∃ y, (s.purgedEject r).getRec r = some y ∧ y = x.purgedOut y.side y.partBin ∧ (s.purgedEject r).compiler.state = .ejecting := by
  obtain ⟨y, used_y, same⟩ := State.purgedEject_getRec used marked
  refine ⟨y, used_y, ?_, State.purgedEject_compiler used⟩
  have result : x.purgedResult = if x.pattern = .none then .notRequested else .skipped := if_neg other
  rw [result] at same
  exact same

/-- The forming set of a purged slot closes, and leaves at once where all its sheets have landed (R5, R38). -/
theorem State.closeForming_treats {r : Fin 8} {x : SetRec} (used : s.getRec r = some x) (marked : x.divert = some .purged)
    (state : x.state = .forming) : s.Clears (· ≠ r) (s.closeForming r) ∧ (s.closeForming r).treated r x := by
  obtain ⟨u, u_eq⟩ : ∃ u, u = ({ s.setRec r { x with state := .gathering } with binder := { s.binder with forming := none } } : State) :=
    ⟨_, rfl⟩
  have there : u.getRec r = some { x with state := .gathering } := by rw [u_eq]; exact State.setRec_getRec r _ s
  have closes : s.closeForming r = if x.compiled = x.bound then u.purgedEject r else u := by
    rw [← State.partComplete_purged there marked, u_eq]
    unfold State.closeForming
    rw [used]
  have clears : s.Clears (· ≠ r) u := by
    have written := State.Clears.of_rebins (p := (· ≠ r)) (State.setRec_rebins used (y := { x with state := .gathering }) rfl) id (.inl rfl)
      fun k z other used' _ => State.lets_of_same ((State.setRec_getRec_ne r k other _ s).trans used')
    rw [u_eq]
    exact { written with frame := rfl, forming := fun _ => rfl }
  have none_ : u.binder.forming = none := by rw [u_eq]
  rw [closes]
  by_cases landed : x.compiled = x.bound
  · have leaves := State.purgedEject_clears there
    obtain ⟨y, used_y, same, ejecting⟩ := State.purgedEject_out there marked nofun
    rw [if_pos landed]
    refine ⟨clears.trans leaves, y, used_y, ?_⟩
    unfold State.treats
    rw [state]
    exact ⟨leaves.forming none_, fun more => absurd landed more, fun _ => ⟨same, ejecting⟩⟩
  · rw [if_neg landed]
    refine ⟨clears, _, there, ?_⟩
    unfold State.treats
    rw [state]
    exact ⟨none_, fun _ => rfl, fun e => absurd e landed⟩

/-- A waiting set of a purged slot leaves the compiler, and the hold reason STAPLES falls (R5, R73). -/
theorem State.stapleWait_treats {r : Fin 8} {x : SetRec} (used : s.getRec r = some x) (marked : x.divert = some .purged)
    (state : x.state = .stapleWait) : s.Clears (· ≠ r) ((s.drop .staples).purgedEject r) ∧ ((s.drop .staples).purgedEject r).treated r x := by
  have dropped : s.Clears (· ≠ r) (s.drop .staples) := { State.Clears.refl (· ≠ r) s with
    frame := rfl, staples := fun stands => ((State.drop_stands _ _ _).mp stands).2, recs := fun _ _ _ used _ => State.lets_of_same used }
  have leaves := State.purgedEject_clears (s := s.drop .staples) (x := x) used
  obtain ⟨y, used_y, same, ejecting⟩ := State.purgedEject_out (s := s.drop .staples) (x := x) used marked (by rw [state]; nofun)
  refine ⟨dropped.trans leaves, y, used_y, ?_⟩
  unfold State.treats
  rw [state]
  exact ⟨same, ejecting, fun stands => ((State.drop_stands .staples .staples s).mp (leaves.staples stands)).1 rfl⟩

/-- Each marked set is treated by its state, and the other sets are let be (R5, R83). -/
theorem State.purgeRec_treats {r : Fin 8} {x : SetRec} (used : s.getRec r = some x) (marked : x.divert = some .purged) :
    s.Clears (· ≠ r) (s.purgeRec r) ∧ (x.state ≠ .onBelt → (s.purgeRec r).treated r x) := by
  have acts : s.purgeRec r = match x.state with
      | .forming => s.closeForming r
      | .stapleWait => (s.drop .staples).purgedEject r
      | .readyToEject => s.retarget r .purged
      | .held => (s.retarget r .purged).foundBin r
      | _ => s := by
    unfold State.purgeRec
    rw [used] <;> rfl
  rw [acts]
  cases state : x.state <;> dsimp only
  case forming =>
    obtain ⟨clears, treated⟩ := State.closeForming_treats used marked state
    exact ⟨clears, fun _ => treated⟩
  case stapleWait =>
    obtain ⟨clears, treated⟩ := State.stapleWait_treats used marked state
    exact ⟨clears, fun _ => treated⟩
  case readyToEject =>
    refine ⟨State.retarget_clears .purged used, fun _ => ?_⟩
    obtain ⟨side, e⟩ := State.retarget_getRec r r .purged x s used
    have kept : x.divert.getD .purged = .purged := by rw [marked]; rfl
    rw [if_pos rfl, kept, ← marked] at e
    refine ⟨_, e, ?_⟩
    unfold State.treats
    rw [state]
  case held =>
    refine ⟨(State.retarget_clears .purged used).trans (State.foundBin_clears r _), fun _ => ?_⟩
    obtain ⟨y, used_y, same | ⟨-, found, free⟩⟩ := State.divert_lets used marked state
    · obtain ⟨side, e⟩ := State.retarget_getRec r r .purged x s used
      rw [if_pos rfl] at e
      have ready := State.foundBin_getRec r r _ _ e
      rw [if_pos rfl, used_y] at ready
      have held := congrArg SetRec.state same
      rw [Option.some.inj ready, state] at held
      cases held
    · refine ⟨y, used_y, ?_⟩
      unfold State.treats
      rw [state]
      exact ⟨found, free⟩
  case onBelt => exact ⟨.refl _ s, fun other => absurd rfl other⟩
  all_goals
    refine ⟨.refl _ s, fun _ => ⟨x, used, ?_⟩⟩
    cases x
    cases state
    rfl

end Sys2Proof.Machine

/-! O15: a purge as a whole (R4, R5, R7, R19). -/

namespace Sys2Proof.Machine

/-! ## The sets of the slot -/

/-- The records marked one after another (R5). -/
theorem State.marks_of (l : List (Fin 8)) (s : State) : ∃ recs,
    l.foldl (fun s r => s.modRec r SetRec.markPurged) s = { s with sets := { s.sets with recs := recs } } ∧
    ∀ k : Fin 8, recs[k] = (s.getRec k).map fun x => if k ∈ l then x.markPurged else x := by
  induction l generalizing s with
  | nil => exact ⟨s.sets.recs, rfl, fun k => by simp [State.getRec]⟩
  | cons r l ih =>
    obtain ⟨recs, e, each⟩ := ih (s.modRec r SetRec.markPurged)
    refine ⟨recs, ?_, fun k => (each k).trans ?_⟩
    · rw [List.foldl_cons, e, State.modRec_order]
    · cases used : s.getRec r with
      | none =>
        rw [State.modRec_free r _ s used]
        by_cases here : k = r
        · rw [here, used]
          rfl
        · simp [here]
      | some x =>
        by_cases here : k = r
        · subst here
          rw [State.modRec_getRec k _ x s used, used]
          show some (if k ∈ l then x.markPurged.markPurged else x.markPurged) = some (if k ∈ k :: l then x.markPurged else x)
          rw [if_pos List.mem_cons_self]
          exact congrArg some (ite_self _)
        · have other : (s.modRec r SetRec.markPurged).getRec k = s.getRec k := by
            unfold State.modRec
            rw [used]
            exact State.setRec_getRec_ne r k here _ s
          rw [other]
          simp [here]

/-- The marked records treated one after another: each by its state, the others let be (R5). -/
theorem State.purgeRecs_treat {l : List (Fin 8)} (nodup : l.Nodup) {s : State}
    (marked : ∀ q ∈ l, ∃ x, s.getRec q = some x ∧ x.divert = some .purged) :
    s.Clears (· ∉ l) (l.foldl State.purgeRec s) ∧
    ∀ q ∈ l, ∀ x, s.getRec q = some x → x.state ≠ .onBelt → (l.foldl State.purgeRec s).treated q x := by
  induction l generalizing s with
  | nil => exact ⟨.refl _ s, nofun⟩
  | cons r l ih =>
    obtain ⟨fresh, nodup⟩ := List.nodup_cons.mp nodup
    obtain ⟨x, used, mark⟩ := marked r List.mem_cons_self
    obtain ⟨clears, treats⟩ := State.purgeRec_treats used mark
    have away {q : Fin 8} (m : q ∈ l) : q ≠ r := fun e => fresh (e ▸ m)
    have lets (q : Fin 8) (m : q ∈ l) (y : SetRec) (used : s.getRec q = some y) (mark : y.divert = some .purged) : (s.purgeRec r).lets q y :=
      clears.recs q y (away m) used (.inl mark)
    obtain ⟨rest, each⟩ := ih nodup (s := s.purgeRec r) fun q m => by
      obtain ⟨y, used, mark⟩ := marked q (List.mem_cons_of_mem _ m)
      obtain ⟨z, used_z, same | ⟨-, found, -⟩⟩ := lets q m y used mark
      · exact ⟨z, used_z, by rw [same]; exact mark⟩
      · exact ⟨z, used_z, by rw [found]; exact mark⟩
    refine ⟨(clears.of_imp fun q out e => out (e ▸ List.mem_cons_self)).trans (rest.of_imp fun q out m => out (List.mem_cons_of_mem _ m)),
      fun q m y used_y off => ?_⟩
    obtain rfl | m := List.mem_cons.mp m
    · rw [used] at used_y
      cases used_y
      exact rest.treated fresh mark (treats off)
    · obtain ⟨z, used_z, mark_z⟩ := marked q (List.mem_cons_of_mem _ m)
      rw [used_y] at used_z
      cases used_z
      obtain ⟨w, used_w, same⟩ := lets q m y used_y mark_z
      refine State.treated_of_lets rest ⟨w, used_w, same⟩ mark_z fun v used_v _ => each q m v used_v ?_
      rw [used_w] at used_v
      cases used_v
      obtain same | ⟨-, found, -⟩ := same
      · rw [same]
        exact off
      · rw [found]
        nofun

/-- The sets of a slot entering PURGING (R5): those marked are treated by their state, those ON BELT let be. -/
theorem State.purgeSets_treat {s : State} (i : Fin 16) (sound : s.sets.sound) : ∃ m : State, ∃ recs,
    m = { s with sets := { s.sets with recs := recs } } ∧ m.Clears (fun _ => False) (s.purgeSets i) ∧
    (∀ r x, s.getRec r = some x → ∃ y, recs[r] = some y ∧ y.slot = x.slot) ∧
    (∀ r x, s.getRec r = some x → x.slot = i → x.state ≠ .onBelt → (s.purgeSets i).treated r x.markPurged) ∧
    ∀ r x, s.getRec r = some x → x.state = .onBelt → (s.purgeSets i).lets r x := by
  obtain ⟨rs, rs_eq⟩ : ∃ rs, rs = s.sets.order.filter (s.purges i) := ⟨_, rfl⟩
  have nodup : rs.Nodup := by rw [rs_eq]; exact sound.1.filter _
  have among (r : Fin 8) (x : SetRec) (used : s.getRec r = some x) : r ∈ rs ↔ x.slot = i ∧ x.state ≠ .onBelt := by
    have listed : r ∈ s.sets.order := (sound.2 r).mpr (Option.isSome_iff_exists.mpr ⟨x, used⟩)
    rw [rs_eq, List.mem_filter, State.purges, used]
    simp [listed]
  have unused (r : Fin 8) (h : r ∈ rs) : ∃ x, s.getRec r = some x := by
    rw [rs_eq, List.mem_filter] at h
    exact Option.isSome_iff_exists.mp ((sound.2 r).mp h.1)
  obtain ⟨recs, marks, each⟩ := State.marks_of rs s
  obtain ⟨m, m_eq⟩ : ∃ m, m = rs.foldl (fun s r => s.modRec r SetRec.markPurged) s := ⟨_, rfl⟩
  rw [← m_eq] at marks
  have getRec (r : Fin 8) : m.getRec r = (s.getRec r).map fun x => if r ∈ rs then x.markPurged else x := by
    rw [marks]
    exact each r
  obtain ⟨clears, treats⟩ := State.purgeRecs_treat nodup (s := m) fun q h => by
    obtain ⟨x, used⟩ := unused q h
    exact ⟨x.markPurged, by rw [getRec q, used]; simp [h], rfl⟩
  have ends : s.purgeSets i =
      (rs.filterMap s.leftBin).foldl State.binEvent (rs.foldl (fun s r => s.passPartBin r) (rs.foldl State.purgeRec m)) := by
    rw [m_eq, rs_eq]
    rfl
  have after : (rs.foldl State.purgeRec m).Clears (fun _ => True) (s.purgeSets i) := by
    rw [ends]
    exact (State.Clears.foldl _ (fun t r => t.passPartBin_clears r) rs _).trans (State.Clears.foldl _ State.binEvent_clears _ _)
  have whole := clears.trans (after.of_imp fun _ _ => trivial)
  refine ⟨m, recs, marks, whole.of_imp fun _ h => h.elim, fun r x used => ?_, fun r x used slot off => ?_, fun r x used belt => ?_⟩
  · refine ⟨_, (each r).trans (by rw [used]; rfl), ?_⟩
    split <;> rfl
  · have h : r ∈ rs := (among r x used).mpr ⟨slot, off⟩
    exact after.treated trivial rfl (treats r h x.markPurged (by rw [getRec r, used]; simp [h]) off)
  · have h : r ∉ rs := fun h => ((among r x used).mp h).2 belt
    exact whole.recs r x h (by rw [getRec r, used]; simp [h]) (.inr belt)

/-! ## The statement -/

/-- Settles O15: the sets are marked and treated one after another, and none of what follows takes a treatment back. -/
theorem jobPurgeTreatsEachSetByItsState : Obligations.JobPurgeTreatsEachSetByItsState := by
  unfold Obligations.JobPurgeTreatsEachSetByItsState
  refine ⟨fun s tag slot live room above => ?_, fun s tag slot i live slot_ => ?_⟩
  · refine State.refuses_of (f := State.jobPurgeRecord tag [slot]) rfl live room ?_
    simp [State.jobPurgeRecord, slotBody, index_none above]
  have read : slotBody [slot] = some (some i) := congrArg some (index_of_val slot_)
  have taken := exec_taken (c := .jobPurge tag [slot]) (f := State.jobPurgeRecord tag [slot]) rfl live
  refine ⟨fun room free => ?_, fun purging => ⟨_, taken, ?_⟩, fun sound op => ?_⟩
  · refine State.refuses_of (f := State.jobPurgeRecord tag [slot]) rfl live room ?_
    unfold State.jobPurgeRecord
    rw [read]
    dsimp only
    rw [show s.frameTaken.jobs[i].state = .free from free]
  · have same : s.frameTaken.jobPurgeRecord tag [slot] = s.frameTaken := by
      unfold State.jobPurgeRecord
      rw [read]
      dsimp only
      rw [show s.frameTaken.jobs[i].state = .purging from purging]
    rw [same]
    rfl
  obtain ⟨j, record, j_state, opened, closed⟩ : ∃ j : JobSlot,
      s.frameTaken.jobPurgeRecord tag [slot] = ((s.frameTaken.setJob i j).purgeSets i).completionTest i ∧ j.state = .purging ∧
      (s.jobs[i].state = .opened → j = { s.jobs[i] with state := .purging, closeSeen := false }) ∧
      (s.jobs[i].state = .closed → j = { s.jobs[i] with state := .purging, closeSeen := true }) := by
    unfold State.jobPurgeRecord
    rw [read]
    dsimp only
    obtain opened | closed := op
    · rw [show s.frameTaken.jobs[i].state = .opened from opened]
      exact ⟨_, rfl, rfl, fun _ => rfl, fun h => (by rw [opened] at h; cases h)⟩
    · rw [show s.frameTaken.jobs[i].state = .closed from closed]
      exact ⟨_, rfl, rfl, fun h => (by rw [closed] at h; cases h), fun _ => rfl⟩
  rw [record] at taken
  obtain ⟨v, v_eq⟩ : ∃ v, v = s.frameTaken.setJob i j := ⟨_, rfl⟩
  have getRec (r : Fin 8) : v.getRec r = s.getRec r := by rw [v_eq]; rfl
  obtain ⟨m, recs, marks, clears, slots, treats, belts⟩ := State.purgeSets_treat (s := v) i (by rw [v_eq]; exact sound)
  rw [← v_eq] at taken
  obtain ⟨u, u_eq⟩ : ∃ u, u = v.purgeSets i := ⟨_, rfl⟩
  rw [← u_eq] at taken clears treats belts
  have names (named : s.sets.names i = true) : u.sets.names i = true := by
    obtain ⟨r, x, used, slot⟩ := (SetTable.names_iff i s.sets).mp named
    obtain ⟨y, used_y, slot_y⟩ := slots r x ((getRec r).trans used)
    obtain ⟨z, used_z, slot_z⟩ := clears.slots r y (by rw [marks]; exact used_y)
    exact (SetTable.names_iff i u.sets).mpr ⟨r, z, used_z, slot_z.trans (slot_y.trans slot)⟩
  have frame : u = { v with
      report := u.report, sets := u.sets, binder := { s.binder with forming := u.binder.forming }
      compiler := { s.compiler with state := u.compiler.state }, routes := u.routes, bins := u.bins
      delivery := { s.delivery with holdTimer := u.delivery.holdTimer, compilerHold := u.delivery.compilerHold } } := by
    have frame := clears.frame
    generalize u = w at *
    rw [frame, marks, v_eq]
    rfl
  have job : u.jobs[i] = j := by
    rw [frame, v_eq]
    exact Vector.getElem_set_self _
  have rest (k : Fin 16) (other : k ≠ i) : u.jobs[k] = s.jobs[k] := by
    rw [frame, v_eq]
    exact Vector.getElem_set_ne i.isLt k.isLt fun e => other (Fin.ext e.symm)
  have bins (b : Fin 41) : u.bins[b] = { s.bins[b] with reserved := u.bins[b].reserved, nextSide := u.bins[b].nextSide } := by
    have bin := clears.bins b
    rw [marks, v_eq] at bin
    exact bin
  have queue : u.queue = s.queue := by rw [frame, v_eq]; rfl
  obtain ⟨t, t_eq⟩ : ∃ t, t = u.completionTest i := ⟨_, rfl⟩
  have only : t = { u with report := t.report, jobs := t.jobs } := by
    rw [t_eq]
    by_cases passes : u.completes i = true
    · obtain ⟨_, e, -⟩ := State.completionTest_passes passes
      rw [e]
    · rw [State.completionTest_fails passes]
  have staples : t.stands .staples → u.stands .staples := by
    rw [t_eq]
    exact ((State.completionTest_tells i u).reasons .staples (by decide)).mp
  have stays (fails : ¬ u.completes i = true) : t.jobs[i] = j := by
    rw [t_eq, State.completionTest_fails fails, job]
  have jobs (k : Fin 16) (other : k ≠ i) : t.jobs[k] = s.jobs[k] := by
    rw [t_eq, ← rest k other]
    exact (State.completionTest_jobs i k u).resolve_right fun h => other h.1
  rw [← t_eq] at taken
  refine ⟨_, taken, jobs, fun op => ?_, fun op remains => ?_, fun r x used slot => ?_, fun b => ?_, ?_⟩
  · refine (stays fun completes => ?_).trans (opened op)
    obtain ⟨state | ⟨-, seen⟩, -⟩ := (State.completes_iff i u).mp completes
    · rw [job, j_state] at state
      cases state
    · rw [job, opened op] at seen
      cases seen
  · refine (stays fun completes => ?_).trans (closed op)
    obtain ⟨-, noEntry, noSet⟩ := (State.completes_iff i u).mp completes
    obtain named | waiting := remains
    · rw [names named] at noSet
      cases noSet
    · rw [queue, waiting] at noEntry
      cases noEntry
  · have recT : t.syncIdle.getRec r = u.getRec r := by
      show t.getRec r = _
      rw [only]
      rfl
    have used_v := (getRec r).trans used
    by_cases belt : x.state = .onBelt
    · obtain ⟨y, used_y, same | ⟨held, -⟩⟩ := belts r x used_v belt
      · refine ⟨y, recT.trans used_y, ?_⟩
        cases x
        cases belt
        exact same
      · rw [belt] at held
        cases held
    · obtain ⟨y, used_y, shape⟩ := treats r x used_v slot belt
      refine ⟨y, recT.trans used_y, ?_⟩
      have binder : t.syncIdle.binder = u.binder := (congrArg State.binder only :)
      have compiler : t.syncIdle.compiler = u.compiler := (congrArg State.compiler only :)
      have delivery : t.syncIdle.delivery = u.delivery := (congrArg State.delivery only :)
      have stands : t.syncIdle.stands .staples → u.stands .staples := staples
      have shelf : u.delivery.shelf = s.delivery.shelf ∧ u.delivery.shelfSet = s.delivery.shelfSet := by
        rw [frame]
        exact ⟨rfl, rfl⟩
      rw [binder, compiler, delivery]
      unfold State.treats at shape
      have state : x.markPurged.state = x.state := rfl
      rw [state] at shape
      generalize t.syncIdle = w at stands
      cases state : x.state <;> rw [state] at shape <;> dsimp only at shape ⊢
      case stapleWait => exact ⟨shape.1, shape.2.1, fun h => shape.2.2 (stands h)⟩
      case held =>
        obtain ⟨same, holds, timer⟩ := shape
        rw [shelf.1, shelf.2] at timer
        exact ⟨same, holds, timer⟩
      case onBelt => exact absurd state belt
      all_goals exact shape
  · show t.bins[b] = _
    rw [only]
    exact bins b
  · show ({ t with run := _ } : State) = _
    rw [only]
    generalize t.report = report
    generalize t.jobs = jobs
    rw [frame, v_eq]
    rfl

end Sys2Proof.Machine

/-! What a poll's parts leave of the towers, and what stays latched (R117 to R121, R157). -/

namespace Sys2Proof.Machine

/-! ## Samples -/

/-- An input after one sample (R109), in the statement's words. -/
theorem Qual.sample_fst (n : Nat) (v : Bool) (q : Qual) : (q.sample n v).1 =
    if q.state = some v then (⟨some v, some v, 0⟩ : Qual)
    else
      let run := if q.last = some v then min 127 (q.run + 1) else 1
      if n ≤ run then ⟨some v, some v, 0⟩ else ⟨q.state, some v, run⟩ := by
  unfold Qual.sample
  dsimp only
  by_cases same : q.state = some v
  · rw [if_pos same, if_pos same, same]
  · rw [if_neg same, if_neg same]
    by_cases enough : n ≤ if q.last = some v then min 127 (q.run + 1) else 1
    · rw [if_pos enough, if_pos enough]
    · rw [if_neg enough, if_neg enough]

/-- A sample that qualifies an input changes its state to what it says, and every other sample keeps it (R109). -/
theorem Qual.sample_change (n : Nat) (v : Bool) (q : Qual) :
    ((q.sample n v).2 = true → (q.sample n v).1 = .qualified v ∧ q.state ≠ some v) ∧
    ((q.sample n v).2 = false → (q.sample n v).1.state = q.state) := by
  unfold Qual.sample
  dsimp only
  by_cases same : q.state = some v
  · rw [if_pos same]
    exact ⟨nofun, fun _ => rfl⟩
  · rw [if_neg same]
    by_cases enough : (if q.last = some v then min 127 (q.run + 1) else 1) ≥ n
    · rw [if_pos enough]
      exact ⟨fun _ => ⟨rfl, same⟩, nofun⟩
    · rw [if_neg enough]
      exact ⟨nofun, fun _ => rfl⟩

theorem Qual.sample_snd_iff (n : Nat) (v : Bool) (q : Qual) : (q.sample n v).2 = true ↔ (q.sample n v).1.state ≠ q.state := by
  obtain ⟨changes, keeps⟩ := Qual.sample_change n v q
  constructor
  · intro h
    obtain ⟨now, before⟩ := changes h
    rw [now]
    exact before.symm
  · intro differs
    by_contra no
    exact differs (keeps (by simpa using no))

/-! ## What stays -/

/-- `t` has the towers and the sample count of `s`, what was latched, and its jam where it stands. -/
structure State.Passes (s t : State) : Prop where
  chain : t.chain = s.chain
  count : t.qualCount = s.qualCount
  latched : ∀ c, s.latched c → t.latched c
  jammed : s.run.op = .jam → t.run.op = .jam
  reason : s.stands .jam → t.stands .jam

variable {s t u : State}

theorem State.Passes.refl (s : State) : s.Passes s := ⟨rfl, rfl, fun _ => id, id, id⟩

theorem State.Passes.trans (h : s.Passes t) (k : t.Passes u) : s.Passes u :=
  ⟨k.chain.trans h.chain, k.count.trans h.count, fun c l => k.latched c (h.latched c l), fun op => k.jammed (h.jammed op),
    fun stands => k.reason (h.reason stands)⟩

theorem State.Passes.foldl {α : Type} {f : State → α → State} (h : ∀ (s : State) (a : α), s.Passes (f s a)) (l : List α) (s : State) :
    s.Passes (l.foldl f s) := by
  induction l generalizing s with
  | nil => exact .refl s
  | cons a l ih => exact (h s a).trans (ih _)

theorem State.Passes.ite {c : Prop} [Decidable c] (h : s.Passes t) (k : s.Passes u) : s.Passes (if c then t else u) := by
  split
  · exact h
  · exact k

theorem State.Rebins.passes (h : s.Rebins t) : s.Passes t where
  chain := by rw [h.frame]
  count := by rw [h.frame]
  latched := h.tells.flags
  jammed op := by rw [h.frame]; exact op
  reason := (h.tells.reasons .jam (by decide)).mpr

/-- A jam that stands stands on. -/
theorem State.Passes.jams (h : s.Passes t) {k : JamKind} (jams : s.jams k) : t.jams k :=
  ⟨h.jammed jams.1, h.latched _ jams.2.1, h.reason jams.2.2⟩

theorem State.notify_passes (n : Notice) (origin : Option (Fin 4)) (s : State) : s.Passes (s.notify n origin) :=
  ⟨rfl, rfl, (s.notify_attention n origin).1, id, (State.notify_stands n origin .jam s (by decide)).mpr⟩

/-- Changed bins touch BACKLOG, OVERFLOW FULL and GOVERNOR alone among the reasons (R150, R153). -/
theorem State.binsChanged_stands (was : State) (bs : List (Fin 41)) (s : State) (x : Reason) (backlog : x ≠ .backlog)
    (governor : x ≠ .governor) (overflow : x ≠ .overflowFull) : (s.binsChanged was bs).stands x ↔ s.stands x := by
  have told := (State.binsTold_tells was bs s).reasons x backlog
  show ((s.binsTold was bs).setReason .overflowFull ((s.binsTold was bs).binState 0 = .full)).recombine.stands x ↔ _
  rw [State.recombine_stands x _ governor, State.setReason_stands, if_neg overflow]
  exact told

theorem State.binsChanged_passes (was : State) (bs : List (Fin 41)) (s : State) : s.Passes (s.binsChanged was bs) := by
  have only := (s.binsChanged_tells was bs).1
  refine ⟨?_, ?_, (s.binsChanged_attention was bs).1, ?_,
    (State.binsChanged_stands was bs s .jam (by decide) (by decide) (by decide)).mpr⟩ <;> rw [only]
  exact id

theorem State.modBin_passes (b : Fin 41) (f : Bin → Bin) (s : State) : s.Passes (s.modBin b f) := ⟨rfl, rfl, fun _ => id, id, id⟩

theorem State.updateBin_passes (b : Fin 41) (f : Bin → Bin) (s : State) : s.Passes (s.updateBin b f) :=
  (s.modBin_passes b f).trans (State.binsChanged_passes s [b] _)

theorem State.wakeEvent_passes (k : Fin 4) (s : State) : s.Passes (s.wakeEvent k) := by
  have only := (s.wakeEvent_only k).1
  have latched (c : Cause) : s.latched c → (s.wakeEvent k).latched c := by
    unfold State.latched
    rw [only]
    exact id
  refine ⟨(congrArg State.chain only :), (congrArg State.qualCount only :), latched, fun op => ?_,
    ((s.wakeEvent_only k).2 .jam (by decide)).mpr⟩
  rw [State.wakeEvent_not fun wakes => by rw [wakes.1] at op; cases op]
  exact op

theorem State.wakeByBin_passes (b : Fin 41) (s : State) : s.Passes (s.wakeByBin b) := by
  unfold State.wakeByBin
  split
  · exact s.wakeEvent_passes _
  · exact .refl s

/-! ## Sensors of the bins -/

theorem State.event_passes (b : Fin 41) (s : State) : s.Passes ((s.cursorReturn b).binEvent b) :=
  (s.cursorReturn_rebins b).passes.trans (State.binEvent_rebins _ b).passes

theorem State.presentQualified_passes (b : Fin 41) (v : Bool) (s : State) : s.Passes (s.presentQualified b v) := by
  have set : s.Passes (s.presentSet b v) := ⟨rfl, rfl, fun _ => id, id, id⟩
  rw [State.presentQualified_of]
  exact .ite (set.trans (((State.notify_passes _ _ _).trans (State.updateBin_passes _ _ _)).trans (State.event_passes _ _))) set

theorem State.fullQualified_passes (b : Fin 41) (v : Bool) (s : State) : s.Passes (s.fullQualified b v) := by
  have updated := s.updateBin_passes b (Bin.fullQualified v)
  have set : s.Passes (s.fullSet b v) := ⟨updated.chain, updated.count, updated.latched, updated.jammed, updated.reason⟩
  rw [State.fullQualified_of]
  exact .ite (set.trans (State.event_passes b _)) set

theorem State.samplePresent_passes (b : Fin 41) (v : Bool) (s : State) : s.Passes (s.samplePresent b v) :=
  .ite ((s.presentQualified_passes b v).trans (State.wakeByBin_passes b _)) (s.modBin_passes b _)

theorem State.sampleFull_passes (b : Fin 41) (v : Bool) (s : State) : s.Passes (s.sampleFull b v) :=
  .ite ((s.fullQualified_passes b v).trans (State.wakeByBin_passes b _)) (s.modBin_passes b _)

theorem State.sampleBin_passes (k : Fin 4) (reply : PollReply) (s : State) (i : Fin 10) : s.Passes (s.sampleBin k reply i) :=
  .ite ((s.sampleFull_passes _ _).trans (State.samplePresent_passes _ _ _)) ((s.samplePresent_passes _ _).trans (State.sampleFull_passes _ _ _))

/-! ## Jams and arrivals -/

theorem State.jam_passes (kind : JamKind) (x : Sensor) (s : State) : s.Passes (s.jam kind x) := by
  by_cases op : s.run.op = .jam
  · have same : s.jam kind x = { s with report := s.report.latchOnly (.jam kind) } := if_pos op
    rw [same]
    exact ⟨rfl, rfl, fun c latched => (NoticeUnit.latch_mem _ _ _ _).mpr (.inr latched), id, id⟩
  · exact ⟨by simp, by simp, (State.jam_latched op).2, fun _ => (State.jam_jams op).1, fun _ => (State.jam_jams op).2.2⟩

theorem State.produce_passes (r : Fin 8) (x : SetRec) (o : SetOutcome) (d : Option (Fin 41)) (n : Nat) (f : Bool) (s : State) :
    s.Passes (s.produce r x o d n f) where
  chain := by simp
  count := by simp
  latched := (State.produce_spreads r x o d n f s).flags
  jammed := by simp
  reason := (State.produce_stands r x o d n f s .jam (by decide) (by decide)).mpr

theorem State.confirm_passes (r : Fin 8) (s : State) : s.Passes (s.confirm r) := by
  have left (d : Delivery) : s.Passes { s with delivery := d } := ⟨rfl, rfl, fun _ => id, id, id⟩
  unfold State.confirm
  dsimp only
  split
  · exact left _
  · split
    · exact left _
    · refine State.Passes.trans ?_ (State.produce_passes _ _ _ _ _ _ _)
      refine State.Passes.trans ?_ (State.cursorReturn_rebins _ _).passes
      exact (left _).trans (State.updateBin_passes _ _ _)

theorem State.arrive_passes (x : Target) (s : State) : s.Passes (s.arrive x) := by
  unfold State.arrive
  split
  · split
    · exact s.confirm_passes _
    · exact s.jam_passes _ _
  · exact .refl s

/-! ## Inputs of the tower -/

theorem State.towerChanged_passes (k : Fin 4) (s was : State) : s.Passes (s.towerChanged k was) :=
  .ite ((State.binsChanged_passes was _ s).trans (.foldl (fun t b => (t.binEvent_rebins b).passes) _ _)) (State.binsChanged_passes was _ s)

theorem State.towerJam_passes (k : Fin 4) (kind : JamKind) (s : State) : s.Passes (s.towerJam k kind) :=
  .ite (s.jam_passes _ _) (.refl s)

/-- The part with an input of a tower qualified, and its tower's notice given where the state has changed (R119). -/
def State.inputSet (k : Fin 4) (i : TowerInput) (v : Bool) (s : State) : State :=
  if (s.modTower k (Tower.setInput i (.qualified v))).chain.towers[k].state ≠ s.chain.towers[k].state then
    (s.modTower k (Tower.setInput i (.qualified v))).towerNotice k (inputCause i v)
  else s.modTower k (Tower.setInput i (.qualified v))

theorem State.inputQualified_of (k : Fin 4) (i : TowerInput) (v : Bool) (s : State) : s.inputQualified k i v =
    (if v then (s.inputSet k i v).towerChanged k s else ((s.inputSet k i v).towerChanged k s).towerJam k .towerDoor).wakeEvent k := rfl

theorem State.inputSet_only (k : Fin 4) (i : TowerInput) (v : Bool) (s : State) :
    s.inputSet k i v = { s.modTower k (Tower.setInput i (.qualified v)) with report := (s.inputSet k i v).report } := by
  unfold State.inputSet
  split <;> rfl

theorem State.inputSet_passes (k : Fin 4) (i : TowerInput) (v : Bool) (s : State) :
    (s.modTower k (Tower.setInput i (.qualified v))).Passes (s.inputSet k i v) := .ite (State.notify_passes _ _ _) (.refl _)

/-- A qualified change of an input leaves the towers with that input set, and what was latched (R119). -/
theorem State.inputQualified_passes (k : Fin 4) (i : TowerInput) (v : Bool) (s : State) :
    (s.modTower k (Tower.setInput i (.qualified v))).Passes (s.inputQualified k i v) ∧ (s.inputSet k i v).Passes (s.inputQualified k i v) := by
  have changed := State.towerChanged_passes k (s.inputSet k i v) s
  have rest : (s.inputSet k i v).Passes (s.inputQualified k i v) := by
    rw [State.inputQualified_of]
    exact (State.Passes.ite changed (changed.trans (State.towerJam_passes _ _ _))).trans (State.wakeEvent_passes _ _)
  exact ⟨(s.inputSet_passes k i v).trans rest, rest⟩

/-- The state of a tower follows its presence and the states of its inputs alone (R119). -/
theorem Tower.state_of {x y : Tower} (present : y.present = x.present) (power : y.power.state = x.power.state)
    (door : y.door.state = x.door.state) : y.state = x.state := by
  unfold Tower.state
  simp only [present, power, door]

theorem Tower.setInput_state {x : Tower} {i : TowerInput} {q : Qual} (same : q.state = (x.input i).state) :
    (x.setInput i q).state = x.state := by
  cases i with
  | power => exact Tower.state_of rfl same rfl
  | door => exact Tower.state_of rfl rfl same

/-- A tower with one of its inputs sampled (R109). -/
def Tower.sampleOf (n : Nat) (i : TowerInput) (v : Bool) (x : Tower) : Tower := x.setInput i ((x.input i).sample n v).1

theorem State.sampleInput_passes (k : Fin 4) (i : TowerInput) (v : Bool) (s : State) :
    (s.modTower k (Tower.sampleOf s.qualCount i v)).Passes (s.sampleInput k i v) := by
  unfold State.sampleInput
  dsimp only
  cases h : ((s.chain.towers[k].input i).sample s.qualCount v).2 with
  | false => exact .refl _
  | true =>
    have sampled : s.modTower k (Tower.sampleOf s.qualCount i v) = s.modTower k (Tower.setInput i (.qualified v)) := by
      show ({ s with chain := { s.chain with towers := s.chain.towers.set k _ } } : State) = _
      rw [Tower.sampleOf, ((Qual.sample_change _ _ _).1 h).1]
      rfl
    rw [sampled]
    exact (s.inputQualified_passes k i v).1

/-- A sample that changes the tower's state latches its cause (R119). -/
theorem State.sampleInput_latched {k : Fin 4} {i : TowerInput} {v : Bool} {s : State}
    (changes : (s.chain.towers[k].sampleOf s.qualCount i v).state ≠ s.chain.towers[k].state) : (s.sampleInput k i v).latched (inputCause i v) := by
  unfold State.sampleInput
  dsimp only
  cases h : ((s.chain.towers[k].input i).sample s.qualCount v).2 with
  | false =>
    have same := (Qual.sample_change s.qualCount v (s.chain.towers[k].input i)).2 h
    refine absurd ?_ changes
    exact Tower.setInput_state same
  | true =>
    refine (s.inputQualified_passes k i v).2.latched _ ?_
    have now : (s.modTower k (Tower.setInput i (.qualified v))).chain.towers[k].state ≠ s.chain.towers[k].state := by
      have set : (s.modTower k (Tower.setInput i (.qualified v))).chain.towers[k] = s.chain.towers[k].setInput i (.qualified v) :=
        Vector.getElem_set_self _
      rw [set]
      unfold Tower.sampleOf at changes
      rw [((Qual.sample_change _ _ _).1 h).1] at changes
      exact changes
    unfold State.inputSet
    rw [if_pos now]
    exact (State.notify_latched ..).mpr (.inl rfl)

end Sys2Proof.Machine

/-! What the samples of a poll leave, with no set held or with nothing changed (R109 to R112, R118, R122). -/

namespace Sys2Proof.Machine

/-! ## The relation -/

/-- `t` is `s` after samples of tower `k`, `changed` saying whether one of them was a qualified change. -/
structure State.Sampled (k : Fin 4) (changed : Prop) (s t : State) : Prop where
  frame : t = { s with report := t.report, chain := t.chain, routes := t.routes, bins := t.bins, run := t.run }
  enabled : t.chain.towers[k].wakeEnable = s.chain.towers[k].wakeEnable
  attention : s.keepsAttention t
  quiet : ¬ changed → t.report = s.report ∧ t.routes = s.routes
  wakes : s.wakesBy k → changed → t.run = { s.run with op := .waking, wake := some s.now, standby := none } ∧ t.stands .wake
  sleeps : ¬ (s.wakesBy k ∧ changed) → t.run = s.run
  awake : s.stands .wake → t.stands .wake
  seen : ∀ b : Fin 41, s.bins[b].present.state ≠ none → t.bins[b].present.state ≠ none
  emptied : ∀ b : Fin 41, towerOf b = some k → s.bins[b].present.state = some true → t.bins[b].present.state = some false →
    t.latched .binEmptied ∧ t.report.notice.towerFlags[k] = true

variable {k : Fin 4} {c d : Prop} {s t u : State}

theorem State.Sampled.of_iff (h : s.Sampled k c t) (same : c ↔ d) : s.Sampled k d t := by rwa [← propext same]

theorem State.Sampled.refl (k : Fin 4) (s : State) : s.Sampled k False s where
  frame := rfl
  enabled := rfl
  attention := .refl s
  quiet _ := ⟨rfl, rfl⟩
  wakes _ h := h.elim
  sleeps _ := rfl
  awake := id
  seen _ := id
  emptied b _ covered clear := by rw [covered] at clear; cases clear

theorem State.Sampled.wakesBy_iff (h : s.Sampled k c t) : t.wakesBy k ↔ s.wakesBy k ∧ ¬ c := by
  unfold State.wakesBy
  rw [h.enabled]
  by_cases wakes : s.wakesBy k ∧ c
  · rw [(h.wakes wakes.1 wakes.2).1]
    exact iff_of_false (fun e => by cases e.1) fun e => e.2 wakes.2
  · rw [h.sleeps wakes]
    exact ⟨fun e => ⟨e, fun change => wakes ⟨e, change⟩⟩, fun e => e.1⟩

theorem State.Sampled.trans (h : s.Sampled k c t) (g : t.Sampled k d u) : s.Sampled k (c ∨ d) u where
  frame := by rw [g.frame, h.frame]
  enabled := g.enabled.trans h.enabled
  attention := h.attention.trans g.attention
  quiet none_ := by
    obtain ⟨report, routes⟩ := h.quiet fun e => none_ (.inl e)
    obtain ⟨report', routes'⟩ := g.quiet fun e => none_ (.inr e)
    exact ⟨report'.trans report, routes'.trans routes⟩
  wakes wakes change := by
    by_cases first : c
    · obtain ⟨run, stands⟩ := h.wakes wakes first
      refine ⟨(g.sleeps fun e => ?_).trans run, g.awake stands⟩
      exact (h.wakesBy_iff.mp e.1).2 first
    · have same := h.sleeps fun e => first e.2
      have now : t.now = s.now := by rw [h.frame]
      have woken := g.wakes (h.wakesBy_iff.mpr ⟨wakes, first⟩) (change.resolve_left first)
      rw [same, now] at woken
      exact woken
  sleeps none_ := by
    refine (g.sleeps fun e => ?_).trans (h.sleeps fun e => none_ ⟨e.1, .inl e.2⟩)
    exact none_ ⟨(h.wakesBy_iff.mp e.1).1, .inr e.2⟩
  awake stands := g.awake (h.awake stands)
  seen b some_ := g.seen b (h.seen b some_)
  emptied b at_ covered clear := by
    cases mid : t.bins[b].present.state with
    | none => exact absurd mid (h.seen b (by rw [covered]; nofun))
    | some v =>
      cases v with
      | true => exact g.emptied b at_ mid clear
      | false =>
        obtain ⟨latched, flag⟩ := h.emptied b at_ covered mid
        exact ⟨g.attention.1 _ latched, g.attention.2 k flag⟩

/-- With no set held none is held after the samples. -/
theorem State.Sampled.noneHeld (h : s.Sampled k c t) (none_ : s.noneHeld) : t.noneHeld := by
  rw [h.frame]
  exact none_

/-! ## One sensor of a bin -/

/-- A bin with its present sensor sampled (R109, R110). -/
def Bin.presentSampled (n : Nat) (v : Bool) (x : Bin) : Bin :=
  if (x.present.sample n v).2 then x.presentQualified v else { x with present := (x.present.sample n v).1 }

/-- A bin with its full sensor sampled (R109, R111, R112). -/
def Bin.fullSampled (n : Nat) (v : Bool) (x : Bin) : Bin :=
  if (x.full.sample n v).2 then x.fullQualified v else { x with full := (x.full.sample n v).1 }

theorem Bin.presentQualified_present (v : Bool) (x : Bin) : (x.presentQualified v).present = .qualified v := by
  unfold Bin.presentQualified
  split <;> rfl

theorem Bin.presentSampled_present (n : Nat) (v : Bool) (x : Bin) : (x.presentSampled n v).present = (x.present.sample n v).1 := by
  unfold Bin.presentSampled
  cases h : (x.present.sample n v).2 with
  | false => rw [if_neg nofun]
  | true => rw [if_pos rfl, Bin.presentQualified_present, ((Qual.sample_change _ _ _).1 h).1]

theorem Bin.presentSampled_full (n : Nat) (v : Bool) (x : Bin) : (x.presentSampled n v).full = x.full := by
  unfold Bin.presentSampled Bin.presentQualified
  split
  · split <;> rfl
  · rfl

theorem Bin.fullSampled_full (n : Nat) (v : Bool) (x : Bin) : (x.fullSampled n v).full = (x.full.sample n v).1 := by
  unfold Bin.fullSampled
  cases h : (x.full.sample n v).2 with
  | false => rw [if_neg nofun]
  | true =>
    rw [if_pos rfl, ((Qual.sample_change _ _ _).1 h).1]
    rfl

theorem Bin.fullSampled_present (n : Nat) (v : Bool) (x : Bin) : (x.fullSampled n v).present = x.present := by
  unfold Bin.fullSampled
  split <;> rfl

/-- A corrected bin of tower `k`, and the wake event of its change, sample it (R110 to R112, R122). -/
theorem State.Corrects.sampled {b : Fin 41} {x : Bin} (at_ : towerOf b = some k) (corrects : s.Corrects b x u) (pins : u.pins = s.pins)
    (awake : s.stands .wake → u.stands .wake) (seen : s.bins[b].present.state ≠ none → x.present.state ≠ none)
    (emptied : s.bins[b].present.state = some true → x.present.state = some false →
      u.latched .binEmptied ∧ u.report.notice.towerFlags[k] = true) :
    s.Sampled k True (u.wakeByBin b) ∧ (u.wakeByBin b).bins = s.bins.set b x ∧ (u.wakeByBin b).chain = s.chain := by
  have frame := corrects.frame
  rw [pins] at frame
  have wakesBy : u.wakesBy k ↔ s.wakesBy k := by
    unfold State.wakesBy
    rw [frame]
  have run : u.run = s.run := by rw [frame]
  have now : u.now = s.now := by rw [frame]
  rw [State.wakeByBin_of at_]
  obtain ⟨only, stands⟩ := u.wakeEvent_only k
  have attention : s.keepsAttention (u.wakeEvent k) := corrects.attention.trans (.of_notice (by rw [only]))
  have bins : (u.wakeEvent k).bins = s.bins.set b x := by rw [only, frame]
  have chain : (u.wakeEvent k).chain = s.chain := by rw [only, frame]
  refine ⟨{ frame := ?_, enabled := by rw [chain], attention := attention, quiet := fun h => absurd trivial h, wakes := fun wakes _ => ?_,
            sleeps := fun none_ => ?_, awake := fun stood => ?_, seen := fun j some_ => ?_, emptied := fun j lies covered clear => ?_ },
    bins, chain⟩
  · rw [only, frame]
  · rw [State.wakeEvent_of (wakesBy.mpr wakes)]
    refine ⟨?_, (State.raise_stands _ _ _).mpr (.inl rfl)⟩
    show ({ u.run with op := .waking, wake := some u.now, standby := none } : RunController) = _
    rw [run, now]
  · rw [State.wakeEvent_not fun wakes => none_ ⟨wakesBy.mp wakes, trivial⟩, run]
  · by_cases wakes : u.wakesBy k
    · rw [State.wakeEvent_of wakes]
      exact (State.raise_stands _ _ _).mpr (.inl rfl)
    · rw [State.wakeEvent_not wakes]
      exact awake stood
  · rw [bins]
    by_cases here : j = b
    · subst here
      rw [show (s.bins.set j x)[j] = x from Vector.getElem_set_self _]
      exact seen some_
    · rw [show (s.bins.set b x)[j] = s.bins[j] from Vector.getElem_set_ne b.isLt j.isLt fun e => here (Fin.ext e.symm)]
      exact some_
  · rw [bins] at clear
    by_cases here : j = b
    · subst here
      rw [show (s.bins.set j x)[j] = x from Vector.getElem_set_self _] at clear
      obtain ⟨latched, flag⟩ := emptied covered clear
      rw [only]
      exact ⟨latched, flag⟩
    · rw [show (s.bins.set b x)[j] = s.bins[j] from Vector.getElem_set_ne b.isLt j.isLt fun e => here (Fin.ext e.symm), covered] at clear
      cases clear

/-- A sample that is no qualified change (R109). -/
theorem State.modBin_sampled {b : Fin 41} {f : Bin → Bin} (present : (f s.bins[b]).present.state = s.bins[b].present.state) :
    s.Sampled k False (s.modBin b f) := by
  have bin (j : Fin 41) : (s.modBin b f).bins[j].present.state = s.bins[j].present.state := by
    rw [State.modBin_bins]
    split
    · rename_i here
      rw [here]
      exact present
    · rfl
  exact { State.Sampled.refl k s with
    frame := rfl
    seen := fun j some_ => by rw [bin]; exact some_
    emptied := fun j _ covered clear => by rw [bin, covered] at clear; cases clear }

/-- What the sensors of a bin leave of a WAKE that stands (R150). -/
theorem State.updateBin_wakes (b : Fin 41) (f : Bin → Bin) (s : State) : s.stands .wake → (s.updateBin b f).stands .wake :=
  (State.binsChanged_stands s [b] (s.modBin b f) .wake (by decide) (by decide) (by decide)).mpr

theorem State.event_wakes (b : Fin 41) (s : State) : s.stands .wake → ((s.cursorReturn b).binEvent b).stands .wake :=
  (((s.cursorReturn_rebins b).trans (State.binEvent_rebins _ b)).tells.reasons .wake (by decide)).mpr

theorem State.presentQualified_wakes (b : Fin 41) (v : Bool) (s : State) (stood : s.stands .wake) : (s.presentQualified b v).stands .wake := by
  rw [State.presentQualified_of]
  split
  · exact State.event_wakes _ _ (State.updateBin_wakes _ _ _ ((State.notify_stands _ _ .wake _ (by decide)).mpr stood))
  · exact stood

theorem State.fullQualified_wakes (b : Fin 41) (v : Bool) (s : State) (stood : s.stands .wake) : (s.fullQualified b v).stands .wake := by
  have set : (s.fullSet b v).stands .wake := State.updateBin_wakes b (Bin.fullQualified v) s stood
  rw [State.fullQualified_of]
  split
  · exact State.event_wakes b _ set
  · exact set

theorem towerOf_zero {b : Fin 41} (at_ : towerOf b = some k) : b ≠ 0 := by
  rintro rfl
  cases at_

theorem State.samplePresent_sampled {b : Fin 41} (at_ : towerOf b = some k) (v : Bool)
    (plain : s.noneHeld ∨ (s.bins[b].present.sample s.qualCount v).2 = false) :
    s.Sampled k ((s.bins[b].present.sample s.qualCount v).2 = true) (s.samplePresent b v) ∧
    (s.samplePresent b v).bins = s.bins.set b (s.bins[b].presentSampled s.qualCount v) ∧ (s.samplePresent b v).chain = s.chain := by
  unfold State.samplePresent Bin.presentSampled
  dsimp only
  cases change : (s.bins[b].present.sample s.qualCount v).2 with
  | false =>
    rw [if_neg nofun, if_neg nofun]
    exact ⟨(State.modBin_sampled ((Qual.sample_change _ _ _).2 change)).of_iff (iff_of_false id nofun), rfl, rfl⟩
  | true =>
    rw [if_pos rfl, if_pos rfl]
    obtain ⟨corrects, pins, empties, -⟩ := State.presentQualified_corrects (b := b) (v := v) (plain.resolve_right (by rw [change]; nofun))
    rw [if_neg (towerOf_zero at_)] at pins
    have present := Bin.presentQualified_present v s.bins[b]
    obtain ⟨sampled, rest⟩ := corrects.sampled at_ pins (s.presentQualified_wakes b v) (by rw [present]; nofun) fun covered clear => by
      rw [present] at clear
      obtain ⟨-, latched, flags⟩ := empties ((Bin.empties_iff _ _).mpr ⟨Option.some.inj clear, .inl covered⟩)
      exact ⟨latched, flags k at_⟩
    exact ⟨sampled.of_iff (iff_of_true trivial rfl), rest⟩

theorem State.sampleFull_sampled {b : Fin 41} (at_ : towerOf b = some k) (v : Bool)
    (plain : s.noneHeld ∨ (s.bins[b].full.sample s.qualCount v).2 = false) :
    s.Sampled k ((s.bins[b].full.sample s.qualCount v).2 = true) (s.sampleFull b v) ∧
    (s.sampleFull b v).bins = s.bins.set b (s.bins[b].fullSampled s.qualCount v) ∧ (s.sampleFull b v).chain = s.chain := by
  unfold State.sampleFull Bin.fullSampled
  dsimp only
  cases change : (s.bins[b].full.sample s.qualCount v).2 with
  | false =>
    rw [if_neg nofun, if_neg nofun]
    exact ⟨(State.modBin_sampled rfl).of_iff (iff_of_false id nofun), rfl, rfl⟩
  | true =>
    rw [if_pos rfl, if_pos rfl]
    obtain ⟨corrects, pins, -⟩ := State.fullQualified_corrects (b := b) (v := v) (plain.resolve_right (by rw [change]; nofun))
    rw [if_neg (towerOf_zero at_)] at pins
    have present : (s.bins[b].fullQualified v).present = s.bins[b].present := rfl
    obtain ⟨sampled, rest⟩ := corrects.sampled at_ pins (s.fullQualified_wakes b v) (by rw [present]; exact id) fun covered clear => by
      rw [present, covered] at clear
      cases clear
    exact ⟨sampled.of_iff (iff_of_true trivial rfl), rest⟩

/-! ## The bins of the tower -/

/-- A bin with its two sensors sampled, in the order the reply says (R118). -/
def Bin.sampledBy (n : Nat) (reply : PollReply) (i : Fin 10) (x : Bin) : Bin :=
  if reply.fullFirst then (x.fullSampled n (reply.fullCovered.getLsbD i.val)).presentSampled n (reply.presentCovered.getLsbD i.val)
  else (x.presentSampled n (reply.presentCovered.getLsbD i.val)).fullSampled n (reply.fullCovered.getLsbD i.val)

theorem Bin.sampledBy_sensors (n : Nat) (reply : PollReply) (i : Fin 10) (x : Bin) :
    (x.sampledBy n reply i).present = (x.present.sample n (reply.presentCovered.getLsbD i.val)).1 ∧
    (x.sampledBy n reply i).full = (x.full.sample n (reply.fullCovered.getLsbD i.val)).1 := by
  unfold Bin.sampledBy
  split
  · rw [Bin.presentSampled_present, Bin.presentSampled_full, Bin.fullSampled_present, Bin.fullSampled_full]
    exact ⟨rfl, rfl⟩
  · rw [Bin.fullSampled_present, Bin.fullSampled_full, Bin.presentSampled_present, Bin.presentSampled_full]
    exact ⟨rfl, rfl⟩

/-- Whether one of the two samples of a bin is a qualified change (R109). -/
def Bin.changedBy (n : Nat) (reply : PollReply) (i : Fin 10) (x : Bin) : Prop :=
  (x.sampledBy n reply i).present.state ≠ x.present.state ∨ (x.sampledBy n reply i).full.state ≠ x.full.state

theorem Bin.changedBy_iff (n : Nat) (reply : PollReply) (i : Fin 10) (x : Bin) : x.changedBy n reply i ↔
    (x.present.sample n (reply.presentCovered.getLsbD i.val)).2 = true ∨ (x.full.sample n (reply.fullCovered.getLsbD i.val)).2 = true := by
  unfold Bin.changedBy
  rw [(Bin.sampledBy_sensors n reply i x).1, (Bin.sampledBy_sensors n reply i x).2, Qual.sample_snd_iff, Qual.sample_snd_iff]

/-- The full sensor of a bin and then its present sensor sampled. -/
theorem State.sampleFullPresent_sampled {b : Fin 41} (at_ : towerOf b = some k) (p f : Bool)
    (plain : s.noneHeld ∨ ((s.bins[b].present.sample s.qualCount p).2 = false ∧ (s.bins[b].full.sample s.qualCount f).2 = false)) :
    let t := (s.sampleFull b f).samplePresent b p
    s.Sampled k ((s.bins[b].present.sample s.qualCount p).2 = true ∨ (s.bins[b].full.sample s.qualCount f).2 = true) t ∧
    t.bins = s.bins.set b ((s.bins[b].fullSampled s.qualCount f).presentSampled s.qualCount p) ∧ t.chain = s.chain := by
  intro t
  obtain ⟨first, bins, chain⟩ := State.sampleFull_sampled at_ f (plain.imp_right And.right)
  have count : (s.sampleFull b f).qualCount = s.qualCount := by rw [first.frame]
  have bin : (s.sampleFull b f).bins[b] = s.bins[b].fullSampled s.qualCount f := by
    rw [bins]
    exact Vector.getElem_set_self _
  have same : (s.sampleFull b f).bins[b].present.sample (s.sampleFull b f).qualCount p = s.bins[b].present.sample s.qualCount p := by
    rw [bin, count, Bin.fullSampled_present]
  obtain ⟨second, bins', chain'⟩ := State.samplePresent_sampled at_ p (s := s.sampleFull b f)
    (plain.imp first.noneHeld fun still => by rw [same]; exact still.1)
  rw [same] at second
  rw [bin, count] at bins'
  refine ⟨(first.trans second).of_iff Or.comm, ?_, chain'.trans chain⟩
  rw [bins', bins]
  exact Vector.set_set ..

/-- The present sensor of a bin and then its full sensor sampled. -/
theorem State.samplePresentFull_sampled {b : Fin 41} (at_ : towerOf b = some k) (p f : Bool)
    (plain : s.noneHeld ∨ ((s.bins[b].present.sample s.qualCount p).2 = false ∧ (s.bins[b].full.sample s.qualCount f).2 = false)) :
    let t := (s.samplePresent b p).sampleFull b f
    s.Sampled k ((s.bins[b].present.sample s.qualCount p).2 = true ∨ (s.bins[b].full.sample s.qualCount f).2 = true) t ∧
    t.bins = s.bins.set b ((s.bins[b].presentSampled s.qualCount p).fullSampled s.qualCount f) ∧ t.chain = s.chain := by
  intro t
  obtain ⟨first, bins, chain⟩ := State.samplePresent_sampled at_ p (plain.imp_right And.left)
  have count : (s.samplePresent b p).qualCount = s.qualCount := by rw [first.frame]
  have bin : (s.samplePresent b p).bins[b] = s.bins[b].presentSampled s.qualCount p := by
    rw [bins]
    exact Vector.getElem_set_self _
  have same : (s.samplePresent b p).bins[b].full.sample (s.samplePresent b p).qualCount f = s.bins[b].full.sample s.qualCount f := by
    rw [bin, count, Bin.presentSampled_full]
  obtain ⟨second, bins', chain'⟩ := State.sampleFull_sampled at_ f (s := s.samplePresent b p)
    (plain.imp first.noneHeld fun still => by rw [same]; exact still.2)
  rw [same] at second
  rw [bin, count] at bins'
  refine ⟨first.trans second, ?_, chain'.trans chain⟩
  rw [bins', bins]
  exact Vector.set_set ..

theorem State.sampleBin_sampled (reply : PollReply) (i : Fin 10) (s : State)
    (plain : s.noneHeld ∨ ¬ s.bins[binAt k i].changedBy s.qualCount reply i) :
    s.Sampled k (s.bins[binAt k i].changedBy s.qualCount reply i) (s.sampleBin k reply i) ∧
    (s.sampleBin k reply i).bins = s.bins.set (binAt k i) (s.bins[binAt k i].sampledBy s.qualCount reply i) ∧
    (s.sampleBin k reply i).chain = s.chain := by
  have at_ := towerOf_binAt k i
  have each : s.noneHeld ∨ ((s.bins[binAt k i].present.sample s.qualCount (reply.presentCovered.getLsbD i.val)).2 = false ∧
      (s.bins[binAt k i].full.sample s.qualCount (reply.fullCovered.getLsbD i.val)).2 = false) := by
    refine plain.imp_right fun still => ?_
    rw [Bin.changedBy_iff] at still
    exact ⟨by simpa using fun h => still (.inl h), by simpa using fun h => still (.inr h)⟩
  rw [Bin.changedBy_iff]
  unfold State.sampleBin Bin.sampledBy
  dsimp only
  cases reply.fullFirst with
  | true =>
    rw [if_pos rfl, if_pos rfl]
    exact State.sampleFullPresent_sampled at_ _ _ each
  | false =>
    rw [if_neg nofun, if_neg nofun]
    exact State.samplePresentFull_sampled at_ _ _ each

theorem binAt_injective {i j : Fin 10} (h : binAt k i = binAt k j) : i = j := by
  have val := congrArg Fin.val h
  simp only [binAt] at val
  exact Fin.ext (by omega)

/-- The bins of the tower, sampled in a reply's order, each once (R118). -/
theorem State.sampleBins_sampled (reply : PollReply) {l : List (Fin 10)} (nodup : l.Nodup) (s : State)
    (plain : s.noneHeld ∨ ∀ i ∈ l, ¬ s.bins[binAt k i].changedBy s.qualCount reply i) :
    let t := l.foldl (State.sampleBin k reply) s
    s.Sampled k (∃ i ∈ l, s.bins[binAt k i].changedBy s.qualCount reply i) t ∧ t.chain = s.chain ∧
    (∀ i ∈ l, t.bins[binAt k i] = s.bins[binAt k i].sampledBy s.qualCount reply i) ∧
    ∀ b : Fin 41, (∀ i ∈ l, b ≠ binAt k i) → t.bins[b] = s.bins[b] := by
  induction l generalizing s with
  | nil => exact ⟨(State.Sampled.refl k s).of_iff (by simp), rfl, nofun, fun _ _ => rfl⟩
  | cons i l ih =>
    obtain ⟨fresh, nodup⟩ := List.nodup_cons.mp nodup
    obtain ⟨first, bins, chain⟩ := State.sampleBin_sampled (k := k) reply i s (plain.imp_right fun still => still i List.mem_cons_self)
    have count : (s.sampleBin k reply i).qualCount = s.qualCount := by rw [first.frame]
    have other (b : Fin 41) (away : b ≠ binAt k i) : (s.sampleBin k reply i).bins[b] = s.bins[b] := by
      rw [bins]
      exact Vector.getElem_set_ne (binAt k i).isLt b.isLt fun e => away (Fin.ext e.symm)
    have here : (s.sampleBin k reply i).bins[binAt k i] = s.bins[binAt k i].sampledBy s.qualCount reply i := by
      rw [bins]
      exact Vector.getElem_set_self _
    have apart {j : Fin 10} (m : j ∈ l) : binAt k j ≠ binAt k i := fun e => fresh (binAt_injective e ▸ m)
    have later (j : Fin 10) (m : j ∈ l) : (s.sampleBin k reply i).bins[binAt k j].changedBy (s.sampleBin k reply i).qualCount reply j ↔
        s.bins[binAt k j].changedBy s.qualCount reply j := by
      rw [other _ (apart m), count]
    obtain ⟨rest, chain', inside, outside⟩ := ih nodup (s.sampleBin k reply i)
      (plain.imp first.noneHeld fun still j m => fun h => still j (List.mem_cons_of_mem _ m) ((later j m).mp h))
    refine ⟨(first.trans rest).of_iff ?_, chain'.trans chain, fun j m => ?_, fun b away => ?_⟩
    · constructor
      · rintro (h | ⟨j, m, h⟩)
        · exact ⟨i, List.mem_cons_self, h⟩
        · exact ⟨j, List.mem_cons_of_mem _ m, (later j m).mp h⟩
      · rintro ⟨j, m, h⟩
        obtain rfl | m := List.mem_cons.mp m
        · exact .inl h
        · exact .inr ⟨j, m, (later j m).mpr h⟩
    · obtain rfl | m := List.mem_cons.mp m
      · exact (outside _ fun a m' e => apart m' e.symm).trans here
      · rw [List.foldl_cons, inside j m, other _ (apart m), count]
    · exact (outside b fun j m => away j (List.mem_cons_of_mem _ m)).trans (other b (away i List.mem_cons_self))

end Sys2Proof.Machine

/-! A poll's samples as a whole (R117 to R120, R122). -/

namespace Sys2Proof

/-! ## The order of a reply -/

/-- The input a reply samples first, with its level (R118). -/
def PollReply.first (reply : PollReply) : TowerInput × Bool :=
  if reply.doorFirst then (.door, reply.doorClosed) else (.power, reply.powerOn)

/-- The input a reply samples second, with its level (R118). -/
def PollReply.second (reply : PollReply) : TowerInput × Bool :=
  if reply.doorFirst then (.power, reply.powerOn) else (.door, reply.doorClosed)

end Sys2Proof

namespace Sys2Proof.Machine

variable {k : Fin 4} {s t u : State}

/-! ## The parts of a poll's samples -/

/-- The part with the bin sensors of a tower sampled, unless it is UNPOWERED (R118). -/
def State.binsPolled (k : Fin 4) (reply : PollReply) (s : State) : State :=
  if s.chain.towers[k].state = .unpowered then s else (List.finRange 10).foldl (State.sampleBin k reply) s

theorem State.takeSamples_of (k : Fin 4) (reply : PollReply) (s : State) : s.takeSamples k reply =
    ((s.binsPolled k reply).sampleInput k reply.first.1 reply.first.2).sampleInput k reply.second.1 reply.second.2 := by
  unfold State.takeSamples PollReply.first PollReply.second State.binsPolled
  dsimp only
  cases reply.doorFirst <;> rfl

/-- A tower with its first input sampled, as a reply orders them. -/
def Tower.firstSampled (n : Nat) (reply : PollReply) (x : Tower) : Tower := x.sampleOf n reply.first.1 reply.first.2

/-- A tower with both its inputs sampled (R109, R118). -/
def Tower.sampledBy (n : Nat) (reply : PollReply) (x : Tower) : Tower :=
  { x with power := (x.power.sample n reply.powerOn).1, door := (x.door.sample n reply.doorClosed).1 }

theorem Tower.sampledBy_of (n : Nat) (reply : PollReply) (x : Tower) :
    (x.firstSampled n reply).sampleOf n reply.second.1 reply.second.2 = x.sampledBy n reply := by
  unfold Tower.firstSampled Tower.sampledBy PollReply.first PollReply.second
  cases reply.doorFirst <;> rfl

/-! ## The towers -/

theorem State.modTower_modTower (k : Fin 4) (f g : Tower → Tower) (s : State) : (s.modTower k f).modTower k g = s.modTower k fun x => g (f x) := by
  have read : (s.modTower k f).chain.towers[k] = f s.chain.towers[k] := Vector.getElem_set_self _
  show ({ s with chain := { s.chain with towers := (s.chain.towers.set k _).set k (g (s.modTower k f).chain.towers[k]) } } : State) = _
  rw [read, Vector.set_set]
  rfl

theorem State.Passes.modTower (h : s.Passes t) (k : Fin 4) (f : Tower → Tower) : (s.modTower k f).Passes (t.modTower k f) where
  chain := by
    show ({ t.chain with towers := t.chain.towers.set k (f t.chain.towers[k]) } : TowerChain) = _
    rw [h.chain]
    rfl
  count := h.count
  latched := h.latched
  jammed := h.jammed
  reason := h.reason

theorem State.binsPolled_passes (k : Fin 4) (reply : PollReply) (s : State) : s.Passes (s.binsPolled k reply) :=
  .ite (.refl s) (.foldl (State.sampleBin_passes k reply) _ s)

/-- The samples of a reply leave the towers with the inputs sampled, and what was latched. -/
theorem State.takeSamples_passes (k : Fin 4) (reply : PollReply) (s : State) :
    (s.modTower k (Tower.sampledBy s.qualCount reply)).Passes (s.takeSamples k reply) := by
  rw [State.takeSamples_of]
  have bins := s.binsPolled_passes k reply
  generalize s.binsPolled k reply = u at *
  have first := u.sampleInput_passes k reply.first.1 reply.first.2
  generalize u.sampleInput k reply.first.1 reply.first.2 = v at *
  have second := v.sampleInput_passes k reply.second.1 reply.second.2
  have count : v.qualCount = s.qualCount := first.count.trans bins.count
  rw [bins.count] at first
  rw [count] at second
  have both := (bins.modTower k (Tower.firstSampled s.qualCount reply)).trans first
  have whole := (both.modTower k (Tower.sampleOf s.qualCount reply.second.1 reply.second.2)).trans second
  rw [State.modTower_modTower] at whole
  have same : (fun x => Tower.sampleOf s.qualCount reply.second.1 reply.second.2 (Tower.firstSampled s.qualCount reply x)) =
      Tower.sampledBy s.qualCount reply := funext (Tower.sampledBy_of s.qualCount reply)
  rw [same] at whole
  exact whole

/-- Each sample that changes the tower's state latches its cause (R119). -/
theorem State.takeSamples_latched (k : Fin 4) (reply : PollReply) (s : State) :
    let x := s.chain.towers[k]
    let first := x.firstSampled s.qualCount reply
    (first.state ≠ x.state → (s.takeSamples k reply).latched (inputCause reply.first.1 reply.first.2)) ∧
    ((x.sampledBy s.qualCount reply).state ≠ first.state → (s.takeSamples k reply).latched (inputCause reply.second.1 reply.second.2)) := by
  intro x first
  rw [State.takeSamples_of]
  have bins := s.binsPolled_passes k reply
  generalize s.binsPolled k reply = u at *
  have one := u.sampleInput_passes k reply.first.1 reply.first.2
  have read : u.chain.towers[k] = x := by rw [bins.chain]
  have tower : (u.sampleInput k reply.first.1 reply.first.2).chain.towers[k] = first := by
    rw [one.chain]
    refine (Vector.getElem_set_self _).trans ?_
    rw [read, bins.count]
    rfl
  refine ⟨fun differs => ?_, fun differs => State.sampleInput_latched ?_⟩
  · refine (State.sampleInput_passes k _ _ _).latched _ (State.sampleInput_latched ?_)
    rw [read, bins.count]
    exact differs
  · rw [tower, one.count]
    show (first.sampleOf u.qualCount _ _).state ≠ _
    rw [bins.count, Tower.sampledBy_of]
    exact differs

/-! ## One input, without a jam -/

/-- A set on its way to the tower, seen from the sets and the delivery list alone (R120). -/
theorem State.listHolds_congr (sets : t.sets = s.sets) (delivery : t.delivery = s.delivery) (k : Fin 4) : t.listHolds k = s.listHolds k := by
  unfold State.listHolds State.getRec
  rw [sets, delivery]

/-- The sample of an input is a change that cuts a set on its way off from the tower (R120). -/
def State.cutBy (k : Fin 4) (i : TowerInput) (v : Bool) (s : State) : Prop :=
  s.listHolds k = true ∧ v = false ∧ ((s.chain.towers[k].input i).sample s.qualCount v).2 = true

/-- A tower with an input qualified off is not READY (R119). -/
theorem Tower.setInput_off (i : TowerInput) (x : Tower) : (x.setInput i (.qualified false)).state ≠ .ready := by
  unfold Tower.state
  cases i with
  | power =>
    split
    · nofun
    · rw [if_pos (show (x.setInput .power (.qualified false)).power.state ≠ some true by nofun)]
      nofun
  | door =>
    split
    · nofun
    · split
      · nofun
      · rw [if_pos (show (x.setInput .door (.qualified false)).door.state ≠ some true by nofun)]
        nofun

/-- A qualified change of an input before its wake event, with no set held or no bin event given (R113, R119). -/
theorem State.towerChanged_only {i : TowerInput} {v : Bool}
    (plain : s.noneHeld ∨ (s.chain.towers[k].setInput i (.qualified v)).state ≠ .ready) :
    let t := (s.inputSet k i v).towerChanged k s
    t = { s.modTower k (Tower.setInput i (.qualified v)) with report := t.report } ∧ s.keepsAttention t ∧ (s.stands .wake → t.stands .wake) := by
  intro t
  have only := s.inputSet_only k i v
  have attention : s.keepsAttention (s.inputSet k i v) := by
    unfold State.inputSet
    split
    · exact State.keepsAttention.trans (.of_notice rfl) (State.notify_attention _ _ _)
    · exact .of_notice rfl
  have awake : s.stands .wake → (s.inputSet k i v).stands .wake := by
    unfold State.inputSet
    split
    · exact (State.notify_stands _ _ .wake _ (by decide)).mpr
    · exact id
  obtain ⟨m, m_eq⟩ : ∃ m, m = s.inputSet k i v := ⟨_, rfl⟩
  have frame := (m.binsChanged_tells s (binsOf k)).1
  have told := m.binsChanged_attention s (binsOf k)
  have stands := (State.binsChanged_stands s (binsOf k) m .wake (by decide) (by decide) (by decide)).mpr
  have alone : t = m.binsChanged s (binsOf k) := by
    show (s.inputSet k i v).towerChanged k s = _
    rw [← m_eq]
    obtain none_ | off := plain
    · have unheld : (m.binsChanged s (binsOf k)).noneHeld := by
        rw [frame, m_eq, only]
        exact none_
      unfold State.towerChanged
      dsimp only
      rw [State.foldl_binEvent_noneHeld unheld]
      exact ite_self _
    · have now : (m.binsChanged s (binsOf k)).chain.towers[k] = s.chain.towers[k].setInput i (.qualified v) := by
        rw [frame, m_eq, only]
        exact Vector.getElem_set_self _
      refine if_neg fun h => off ?_
      rw [← now]
      exact of_decide_eq_true (Bool.and_eq_true_iff.mp h).2
  rw [alone]
  rw [← m_eq] at attention awake only
  refine ⟨?_, attention.trans told, fun stood => stands (awake stood)⟩
  generalize m.binsChanged s (binsOf k) = w at *
  rw [frame, only]

theorem State.sampleInput_sampled {i : TowerInput} {v : Bool}
    (plain : s.noneHeld ∨ ((s.chain.towers[k].input i).sample s.qualCount v).2 = false) (whole : ¬ s.cutBy k i v) :
    s.Sampled k (((s.chain.towers[k].input i).sample s.qualCount v).2 = true) (s.sampleInput k i v) ∧
    (s.sampleInput k i v).bins = s.bins := by
  have set (q : Qual) : (s.modTower k (Tower.setInput i q)).chain.towers[k].wakeEnable = s.chain.towers[k].wakeEnable := by
    have read : (s.modTower k (Tower.setInput i q)).chain.towers[k] = s.chain.towers[k].setInput i q := Vector.getElem_set_self _
    rw [read]
    cases i <;> rfl
  cases change : ((s.chain.towers[k].input i).sample s.qualCount v).2 with
  | false =>
    have same : s.sampleInput k i v = s.modTower k (Tower.setInput i ((s.chain.towers[k].input i).sample s.qualCount v).1) :=
      if_neg (by rw [change]; nofun)
    rw [same]
    have quiet : s.Sampled k False (s.modTower k (Tower.setInput i ((s.chain.towers[k].input i).sample s.qualCount v).1)) :=
      { State.Sampled.refl k s with frame := rfl, enabled := set _ }
    exact ⟨quiet.of_iff (iff_of_false id nofun), rfl⟩
  | true =>
    have same : s.sampleInput k i v = s.inputQualified k i v := if_pos change
    obtain ⟨only, attention, awake⟩ := State.towerChanged_only (k := k) (i := i) (v := v) (.inl (plain.resolve_right (by rw [change]; nofun)))
    obtain ⟨m, m_eq⟩ : ∃ m, m = (s.inputSet k i v).towerChanged k s := ⟨_, rfl⟩
    rw [← m_eq] at only attention awake
    have free : (if v then m else m.towerJam k .towerDoor) = m := by
      cases v with
      | true => rfl
      | false =>
        show m.towerJam k .towerDoor = m
        refine if_neg fun holds => whole ⟨?_, rfl, change⟩
        rw [← State.listHolds_congr (t := m) (by rw [only]; rfl) (by rw [only]; rfl) k]
        exact holds
    have ends : s.sampleInput k i v = m.wakeEvent k := by
      rw [same, State.inputQualified_of, ← m_eq, free]
    rw [ends]
    have run : m.run = s.run := by rw [only]; rfl
    have now : m.now = s.now := by rw [only]; rfl
    have enabled : m.chain.towers[k].wakeEnable = s.chain.towers[k].wakeEnable := by
      rw [only]
      exact set _
    have wakesBy : m.wakesBy k ↔ s.wakesBy k := by
      unfold State.wakesBy
      rw [run, enabled]
    obtain ⟨frame, -⟩ := m.wakeEvent_only k
    have bins : (m.wakeEvent k).bins = s.bins := by rw [frame, only]; rfl
    refine ⟨{ frame := ?_, enabled := ?_, attention := attention.trans (.of_notice (by rw [frame])), quiet := fun h => absurd rfl h,
              wakes := fun wakes _ => ?_, sleeps := fun none_ => ?_, awake := fun stood => ?_,
              seen := fun b some_ => by rw [bins]; exact some_,
              emptied := fun b _ covered clear => by rw [bins, covered] at clear; cases clear }, bins⟩
    · generalize m.wakeEvent k = w at *
      rw [frame, only]
      rfl
    · have chain : (m.wakeEvent k).chain = m.chain := (congrArg State.chain frame :)
      rw [chain]
      exact enabled
    · rw [State.wakeEvent_of (wakesBy.mpr wakes)]
      refine ⟨?_, (State.raise_stands _ _ _).mpr (.inl rfl)⟩
      show ({ m.run with op := .waking, wake := some m.now, standby := none } : RunController) = _
      rw [run, now]
    · rw [State.wakeEvent_not fun wakes => none_ ⟨wakesBy.mp wakes, rfl⟩, run]
    · by_cases wakes : m.wakesBy k
      · rw [State.wakeEvent_of wakes]
        exact (State.raise_stands _ _ _).mpr (.inl rfl)
      · rw [State.wakeEvent_not wakes]
        exact awake stood

end Sys2Proof.Machine

/-! A poll's samples where nothing is lost, and the jam where a set is cut off (R118 to R120). -/

namespace Sys2Proof.Machine

variable {k : Fin 4} {s t u : State}

/-! ## The samples -/

/-- A bin of the tower as a reply's samples leave it (R118). -/
def State.polledBin (k : Fin 4) (reply : PollReply) (s : State) (i : Fin 10) : Bin :=
  if s.chain.towers[k].state = .unpowered then s.bins[binAt k i] else s.bins[binAt k i].sampledBy s.qualCount reply i

/-- Whether a reply's samples change a sensor of a bin of the tower. -/
def State.binPolls (k : Fin 4) (reply : PollReply) (s : State) (i : Fin 10) : Prop :=
  (s.polledBin k reply i).present.state ≠ s.bins[binAt k i].present.state ∨ (s.polledBin k reply i).full.state ≠ s.bins[binAt k i].full.state

/-- Whether the first, or the second, input sample of a reply is a qualified change. -/
def Tower.firstChanges (n : Nat) (reply : PollReply) (x : Tower) : Prop := ((x.input reply.first.1).sample n reply.first.2).2 = true

def Tower.secondChanges (n : Nat) (reply : PollReply) (x : Tower) : Prop := ((x.input reply.second.1).sample n reply.second.2).2 = true

/-- Whether a reply's samples change anything (R109, R118). -/
def State.pollChanges (k : Fin 4) (reply : PollReply) (s : State) : Prop :=
  let x := s.chain.towers[k]
  (x.sampledBy s.qualCount reply).power.state ≠ x.power.state ∨ (x.sampledBy s.qualCount reply).door.state ≠ x.door.state ∨
    ∃ i, s.binPolls k reply i

theorem Tower.changes_iff (n : Nat) (reply : PollReply) (x : Tower) : x.firstChanges n reply ∨ x.secondChanges n reply ↔
    (x.sampledBy n reply).power.state ≠ x.power.state ∨ (x.sampledBy n reply).door.state ≠ x.door.state := by
  have power := Qual.sample_snd_iff n reply.powerOn x.power
  have door := Qual.sample_snd_iff n reply.doorClosed x.door
  unfold Tower.firstChanges Tower.secondChanges PollReply.first PollReply.second
  cases reply.doorFirst with
  | true => exact (or_congr door power).trans Or.comm
  | false => exact or_congr power door

theorem Tower.firstSampled_second (n : Nat) (reply : PollReply) (x : Tower) :
    (x.firstSampled n reply).input reply.second.1 = x.input reply.second.1 := by
  unfold Tower.firstSampled PollReply.first PollReply.second
  cases reply.doorFirst <;> rfl

/-- The bins of the tower sampled, or not at all while it is UNPOWERED (R118). -/
theorem State.binsPolled_sampled (reply : PollReply) (plain : s.noneHeld ∨ ∀ i, ¬ s.binPolls k reply i) :
    s.Sampled k (∃ i, s.binPolls k reply i) (s.binsPolled k reply) ∧ (s.binsPolled k reply).chain = s.chain ∧
    (∀ i, (s.binsPolled k reply).bins[binAt k i] = s.polledBin k reply i) ∧
    ∀ b : Fin 41, (∀ i, b ≠ binAt k i) → (s.binsPolled k reply).bins[b] = s.bins[b] := by
  unfold State.binsPolled
  by_cases off : s.chain.towers[k].state = .unpowered
  · rw [if_pos off]
    have same (i : Fin 10) : s.polledBin k reply i = s.bins[binAt k i] := if_pos off
    refine ⟨(State.Sampled.refl k s).of_iff (iff_of_false id ?_), rfl, fun i => (same i).symm, fun _ _ => rfl⟩
    rintro ⟨i, h⟩
    unfold State.binPolls at h
    rw [same] at h
    exact h.elim (absurd rfl) (absurd rfl)
  · rw [if_neg off]
    have polled (i : Fin 10) : s.polledBin k reply i = s.bins[binAt k i].sampledBy s.qualCount reply i := if_neg off
    have changed (i : Fin 10) : s.bins[binAt k i].changedBy s.qualCount reply i ↔ s.binPolls k reply i := by
      unfold State.binPolls
      rw [polled]
      rfl
    obtain ⟨sampled, chain, inside, outside⟩ := State.sampleBins_sampled (k := k) reply (List.nodup_finRange 10) s
      (plain.imp_right fun still i _ h => still i ((changed i).mp h))
    refine ⟨sampled.of_iff ?_, chain, fun i => (inside i (List.mem_finRange i)).trans (polled i).symm, fun b away => outside b fun i _ => away i⟩
    simp only [List.mem_finRange, true_and, changed]

/-- The tower's inputs sampled, none of them cutting a set off (R118, R120). -/
theorem State.takeSamples_sampled (reply : PollReply) (plain : s.noneHeld ∨ ¬ s.pollChanges k reply)
    (whole : ∀ i v, (i, v) = reply.first ∨ (i, v) = reply.second → ¬ s.cutBy k i v) :
    s.Sampled k (s.pollChanges k reply) (s.takeSamples k reply) ∧
    (∀ i, (s.takeSamples k reply).bins[binAt k i] = s.polledBin k reply i) ∧
    ∀ b : Fin 41, (∀ i, b ≠ binAt k i) → (s.takeSamples k reply).bins[b] = s.bins[b] := by
  have iff := Tower.changes_iff s.qualCount reply s.chain.towers[k]
  have still : s.noneHeld ∨ (¬ s.chain.towers[k].firstChanges s.qualCount reply ∧ ¬ s.chain.towers[k].secondChanges s.qualCount reply ∧
      ∀ i, ¬ s.binPolls k reply i) := by
    refine plain.imp_right fun none_ => ⟨fun h => none_ ?_, fun h => none_ ?_, fun i h => none_ (.inr (.inr ⟨i, h⟩))⟩
    · exact (iff.mp (.inl h)).imp_right .inl
    · exact (iff.mp (.inr h)).imp_right .inl
  rw [State.takeSamples_of]
  obtain ⟨bins, chain, inside, outside⟩ := State.binsPolled_sampled (k := k) reply (still.imp_right fun h => h.2.2)
  generalize s.binsPolled k reply = u at *
  have count : u.qualCount = s.qualCount := by rw [bins.frame]
  have holds {c : Prop} {v : State} (h : s.Sampled k c v) : v.listHolds k = s.listHolds k := by
    refine State.listHolds_congr ?_ ?_ k <;> rw [h.frame]
  obtain ⟨first, firstBins⟩ := State.sampleInput_sampled (k := k) (s := u) (i := reply.first.1) (v := reply.first.2)
    (still.imp bins.noneHeld fun h => by rw [chain, count]; simpa [Tower.firstChanges] using h.1)
    (fun cut => whole _ _ (.inl rfl) (by
      unfold State.cutBy at cut ⊢
      rw [holds bins, chain, count] at cut
      exact cut))
  rw [chain, count] at first
  have tower : (u.sampleInput k reply.first.1 reply.first.2).chain.towers[k] = s.chain.towers[k].firstSampled s.qualCount reply := by
    rw [(u.sampleInput_passes k reply.first.1 reply.first.2).chain]
    refine (Vector.getElem_set_self _).trans ?_
    rw [chain, count]
    rfl
  generalize u.sampleInput k reply.first.1 reply.first.2 = v at *
  have both := bins.trans first
  have count' : v.qualCount = s.qualCount := by rw [both.frame]
  have input : v.chain.towers[k].input reply.second.1 = s.chain.towers[k].input reply.second.1 := by
    rw [tower]
    exact Tower.firstSampled_second _ _ _
  obtain ⟨second, secondBins⟩ := State.sampleInput_sampled (k := k) (s := v) (i := reply.second.1) (v := reply.second.2)
    (still.imp both.noneHeld fun h => by rw [input, count']; simpa [Tower.secondChanges] using h.2.1)
    (fun cut => whole _ _ (.inr rfl) (by
      unfold State.cutBy at cut ⊢
      rw [holds both, input, count'] at cut
      exact cut))
  rw [input, count'] at second
  refine ⟨(both.trans second).of_iff ?_, fun i => ?_, fun b away => ?_⟩
  · unfold State.pollChanges
    dsimp only
    rw [← or_assoc, ← iff]
    unfold Tower.firstChanges Tower.secondChanges
    tauto
  · rw [secondBins, firstBins]
    exact inside i
  · rw [secondBins, firstBins]
    exact outside b away

/-! ## The jam -/

/-- A set cut off from its tower is a jam (R120). -/
theorem State.inputQualified_jams {i : TowerInput} (holds : s.listHolds k = true) (op : s.run.op ≠ .jam) :
    (s.inputQualified k i false).jams .towerDoor := by
  obtain ⟨only, -⟩ := State.towerChanged_only (k := k) (s := s) (i := i) (v := false) (.inr (Tower.setInput_off i _))
  rw [State.inputQualified_of]
  generalize (s.inputSet k i false).towerChanged k s = m at *
  have jam : m.towerJam k .towerDoor = m.jam .towerDoor (.te k) := by
    refine if_pos ?_
    rw [State.listHolds_congr (t := m) (s := s) (by rw [only]; rfl) (by rw [only]; rfl) k]
    exact holds
  have run : m.run.op ≠ .jam := by rw [only]; exact op
  show ((m.towerJam k .towerDoor).wakeEvent k).jams .towerDoor
  rw [jam]
  exact (State.wakeEvent_passes k _).jams (State.jam_jams run)

theorem State.sampleInput_jams {i : TowerInput} {v : Bool} (cut : s.cutBy k i v) (op : s.run.op ≠ .jam) :
    (s.sampleInput k i v).jams .towerDoor := by
  obtain ⟨holds, rfl, change⟩ := cut
  have same : s.sampleInput k i false = s.inputQualified k i false := if_pos change
  rw [same]
  exact State.inputQualified_jams holds op

theorem State.Sampled.op {c : Prop} (h : s.Sampled k c t) (op : s.run.op ≠ .jam) : t.run.op ≠ .jam := by
  by_cases wakes : s.wakesBy k ∧ c
  · rw [(h.wakes wakes.1 wakes.2).1]
    nofun
  · rw [h.sleeps wakes]
    exact op

/-- Samples that cut a set off are a jam, which later samples leave (R120). -/
theorem State.takeSamples_jams (reply : PollReply) (none_ : s.noneHeld) (op : s.run.op ≠ .jam) {i : TowerInput} {v : Bool}
    (among : (i, v) = reply.first ∨ (i, v) = reply.second) (cut : s.cutBy k i v) : (s.takeSamples k reply).jams .towerDoor := by
  rw [State.takeSamples_of]
  obtain ⟨bins, chain, -⟩ := State.binsPolled_sampled (k := k) (s := s) reply (.inl none_)
  generalize s.binsPolled k reply = u at *
  have count : u.qualCount = s.qualCount := by rw [bins.frame]
  have holds {c : Prop} {v : State} (h : s.Sampled k c v) : v.listHolds k = s.listHolds k := by
    refine State.listHolds_congr ?_ ?_ k <;> rw [h.frame]
  by_cases first : u.cutBy k reply.first.1 reply.first.2
  · have jams := State.sampleInput_jams first (bins.op op)
    generalize u.sampleInput k reply.first.1 reply.first.2 = w at *
    exact (State.sampleInput_passes k reply.second.1 reply.second.2 w).jams jams
  · obtain ⟨sampled, -⟩ := State.sampleInput_sampled (.inl (bins.noneHeld none_)) first
    have tower : (u.sampleInput k reply.first.1 reply.first.2).chain.towers[k] = s.chain.towers[k].firstSampled s.qualCount reply := by
      rw [(u.sampleInput_passes k reply.first.1 reply.first.2).chain]
      refine (Vector.getElem_set_self _).trans ?_
      rw [chain, count]
      rfl
    generalize u.sampleInput k reply.first.1 reply.first.2 = w at *
    have both := bins.trans sampled
    have count' : w.qualCount = s.qualCount := by rw [both.frame]
    refine State.sampleInput_jams ?_ (both.op op)
    obtain here | there := among
    · refine absurd ?_ first
      unfold State.cutBy at cut ⊢
      rw [← here, holds bins, chain, count]
      exact cut
    · unfold State.cutBy at cut ⊢
      rw [holds both, tower, count', Tower.firstSampled_second, ← there]
      exact cut

end Sys2Proof.Machine

/-! A good reply: its samples where it brings no arrival, and its arrival where its samples change nothing (R118, R121, R135). -/

namespace Sys2Proof.Machine

variable {k : Fin 4} {s t u : State}

/-! ## What a poll may do unseen -/

/-- `y` is the tower `x` as far as its state and its samples go. -/
def Tower.likes (x y : Tower) : Prop := y.present = x.present ∧ y.power = x.power ∧ y.door = x.door ∧ y.wakeEnable = x.wakeEnable

theorem Tower.likes.state {x y : Tower} (h : x.likes y) : y.state = x.state := by
  obtain ⟨present, power, door, -⟩ := h
  exact Tower.state_of present (by rw [power]) (by rw [door])

theorem State.modTower_read (k : Fin 4) (f : Tower → Tower) (s : State) : (s.modTower k f).chain.towers[k] = f s.chain.towers[k] :=
  Vector.getElem_set_self _

theorem State.modTower_sampled {f : Tower → Tower} (alike : ∀ x, Tower.likes x (f x)) (s : State) : s.Sampled k False (s.modTower k f) :=
  { State.Sampled.refl k s with
    frame := rfl
    enabled := by rw [State.modTower_read]; exact (alike _).2.2.2 }

/-- A poll changes a sensor of a bin by what the bin's sensors were. -/
theorem State.binPolls_congr {reply : PollReply} (state : t.chain.towers[k].state = s.chain.towers[k].state) (count : t.qualCount = s.qualCount)
    {i : Fin 10} (present : t.bins[binAt k i].present = s.bins[binAt k i].present) (full : t.bins[binAt k i].full = s.bins[binAt k i].full) :
    t.binPolls k reply i ↔ s.binPolls k reply i := by
  unfold State.binPolls State.polledBin
  rw [state]
  by_cases off : s.chain.towers[k].state = .unpowered
  · rw [if_pos off, if_pos off]
    exact iff_of_false (fun h => h.elim (absurd rfl) (absurd rfl)) fun h => h.elim (absurd rfl) (absurd rfl)
  · rw [if_neg off, if_neg off]
    simp only [Bin.sampledBy_sensors, present, full, count]

theorem State.pollChanges_congr {reply : PollReply} (tower : s.chain.towers[k].likes t.chain.towers[k]) (count : t.qualCount = s.qualCount)
    (sensors : ∀ i, t.bins[binAt k i].present = s.bins[binAt k i].present ∧ t.bins[binAt k i].full = s.bins[binAt k i].full) :
    t.pollChanges k reply ↔ s.pollChanges k reply := by
  have bins (i : Fin 10) := State.binPolls_congr (reply := reply) tower.state count (sensors i).1 (sensors i).2
  obtain ⟨-, power, door, -⟩ := tower
  unfold State.pollChanges Tower.sampledBy
  dsimp only
  rw [power, door, count]
  exact or_congr Iff.rfl (or_congr Iff.rfl (exists_congr bins))

/-! ## A reply without an arrival -/

/-- The tower as an answered poll marks it (R118). -/
def Tower.answers (x : Tower) : Tower := { x with missed := 0, lastGood := true, answered := true }

/-- The tower with the TEt level a reply gives (R121). -/
def Tower.levels (reply : PollReply) (x : Tower) : Tower := { x with teCovered := reply.teCovered }

theorem State.takeArrivals_none {reply : PollReply} (arrivals : reply.arrivals = 0) (s : State) :
    s.takeArrivals k reply = s.modTower k (Tower.levels reply) := by
  unfold State.takeArrivals
  rw [arrivals]
  rfl

/-- The samples of a reply without an arrival (R118). -/
theorem State.goodReply_sampled {reply : PollReply} (arrivals : reply.arrivals = 0) (none_ : s.noneHeld)
    (whole : ∀ i v, (i, v) = reply.first ∨ (i, v) = reply.second → ¬ s.cutBy k i v) :
    s.Sampled k (s.pollChanges k reply) (s.goodReply k reply) ∧
    (∀ i, (s.goodReply k reply).bins[binAt k i] = s.polledBin k reply i) ∧
    ∀ b : Fin 41, (∀ i, b ≠ binAt k i) → (s.goodReply k reply).bins[b] = s.bins[b] := by
  have samples (w : State) (quiet : s.Sampled k False w) (bins : w.bins = s.bins) (tower : s.chain.towers[k].likes w.chain.towers[k]) :
      s.Sampled k (s.pollChanges k reply) (w.takeSamples k reply) ∧
      (∀ i, (w.takeSamples k reply).bins[binAt k i] = s.polledBin k reply i) ∧
      ∀ b : Fin 41, (∀ i, b ≠ binAt k i) → (w.takeSamples k reply).bins[b] = s.bins[b] := by
    have count : w.qualCount = s.qualCount := by rw [quiet.frame]
    have changes := State.pollChanges_congr (reply := reply) tower count fun i => by rw [bins]; exact ⟨rfl, rfl⟩
    obtain ⟨sampled, inside, outside⟩ := State.takeSamples_sampled (k := k) (s := w) reply (.inl (quiet.noneHeld none_)) fun i v among cut => by
      refine whole i v among ?_
      unfold State.cutBy at cut ⊢
      have holds : w.listHolds k = s.listHolds k := by
        refine State.listHolds_congr ?_ ?_ k <;> rw [quiet.frame]
      have input : w.chain.towers[k].input i = s.chain.towers[k].input i := by
        cases i
        · exact tower.2.1
        · exact tower.2.2.1
      rw [holds, count, input] at cut
      exact cut
    refine ⟨(quiet.trans sampled).of_iff (by rw [changes, false_or]), fun i => (inside i).trans ?_, fun b away => (outside b away).trans (by rw [bins])⟩
    unfold State.polledBin
    rw [tower.state, bins, count]
  have answered : s.Sampled k False (s.modTower k Tower.answers) :=
    State.modTower_sampled (f := Tower.answers) (fun _ => ⟨rfl, rfl, rfl, rfl⟩) s
  have levels (w : State) : w.Sampled k False (w.modTower k (Tower.levels reply)) :=
    State.modTower_sampled (f := Tower.levels reply) (fun _ => ⟨rfl, rfl, rfl, rfl⟩) w
  unfold State.goodReply
  dsimp only
  rw [show (fun x : Tower => { x with missed := 0, lastGood := true, answered := true }) = Tower.answers from rfl]
  split
  · rw [State.takeArrivals_none arrivals]
    refine samples _ ((answered.trans (levels _)).of_iff (or_self _ ▸ Iff.rfl)) rfl ?_
    rw [State.modTower_read, State.modTower_read]
    exact ⟨rfl, rfl, rfl, rfl⟩
  · rw [State.takeArrivals_none arrivals]
    obtain ⟨sampled, inside, outside⟩ := samples _ answered rfl (by rw [State.modTower_read]; exact ⟨rfl, rfl, rfl, rfl⟩)
    exact ⟨(sampled.trans (levels _)).of_iff (or_false _ ▸ Iff.rfl), inside, outside⟩

/-! ## The towers after a reply -/

/-- The tower as a good reply leaves it (R118, R121). -/
def Tower.replied (n : Nat) (reply : PollReply) (x : Tower) : Tower :=
  { x.sampledBy n reply with missed := 0, lastGood := true, answered := true, teCovered := reply.teCovered }

theorem State.takeArrivals_passes (k : Fin 4) (reply : PollReply) (s : State) :
    (s.modTower k (Tower.levels reply)).Passes (s.takeArrivals k reply) :=
  .foldl (f := fun s _ => s.arrive (.te k)) (fun s _ => s.arrive_passes (.te k)) _ _

/-- A good reply leaves the towers with what it says of its own, and what was latched. -/
theorem State.goodReply_passes (k : Fin 4) (reply : PollReply) (s : State) :
    (s.modTower k (Tower.replied s.qualCount reply)).Passes (s.goodReply k reply) := by
  obtain ⟨w, w_eq⟩ : ∃ w, w = s.modTower k Tower.answers := ⟨_, rfl⟩
  have count : w.qualCount = s.qualCount := by rw [w_eq]; rfl
  have ends : s.goodReply k reply =
      if reply.arrivalsFirst then (w.takeArrivals k reply).takeSamples k reply else (w.takeSamples k reply).takeArrivals k reply := by
    rw [w_eq]
    rfl
  rw [ends]
  cases reply.arrivalsFirst with
  | true =>
    rw [if_pos rfl]
    have arrivals := w.takeArrivals_passes k reply
    have samples := (w.takeArrivals k reply).takeSamples_passes k reply
    have both := (arrivals.modTower k (Tower.sampledBy (w.takeArrivals k reply).qualCount reply)).trans samples
    have count' : (w.takeArrivals k reply).qualCount = s.qualCount := arrivals.count.trans count
    rw [count', w_eq, State.modTower_modTower, State.modTower_modTower] at both
    rw [w_eq]
    exact both
  | false =>
    rw [if_neg nofun]
    have samples := w.takeSamples_passes k reply
    have arrivals := (w.takeSamples k reply).takeArrivals_passes k reply
    have both := (samples.modTower k (Tower.levels reply)).trans arrivals
    rw [count, w_eq, State.modTower_modTower, State.modTower_modTower] at both
    rw [w_eq]
    exact both

theorem Tower.likes.firstSampled {x y : Tower} (h : x.likes y) (n : Nat) (reply : PollReply) :
    (x.firstSampled n reply).likes (y.firstSampled n reply) := by
  obtain ⟨present, power, door, enable⟩ := h
  unfold Tower.firstSampled PollReply.first Tower.sampleOf
  cases reply.doorFirst with
  | true => exact ⟨present, power, congrArg (fun q : Qual => (q.sample n reply.doorClosed).1) door, enable⟩
  | false => exact ⟨present, congrArg (fun q : Qual => (q.sample n reply.powerOn).1) power, door, enable⟩

/-- Each sample of a good reply that changes the tower's state latches its cause (R119). -/
theorem State.goodReply_latched (k : Fin 4) (reply : PollReply) (s : State) :
    let x := s.chain.towers[k]
    let first := x.firstSampled s.qualCount reply
    (first.state ≠ x.state → (s.goodReply k reply).latched (inputCause reply.first.1 reply.first.2)) ∧
    ((x.sampledBy s.qualCount reply).state ≠ first.state → (s.goodReply k reply).latched (inputCause reply.second.1 reply.second.2)) := by
  intro x first
  have samples (w : State) (count : w.qualCount = s.qualCount) (tower : x.likes w.chain.towers[k]) :
      (first.state ≠ x.state → (w.takeSamples k reply).latched (inputCause reply.first.1 reply.first.2)) ∧
      ((x.sampledBy s.qualCount reply).state ≠ first.state → (w.takeSamples k reply).latched (inputCause reply.second.1 reply.second.2)) := by
    have each := w.takeSamples_latched k reply
    have one : (w.chain.towers[k].firstSampled w.qualCount reply).state = first.state := by
      rw [count]
      exact (tower.firstSampled s.qualCount reply).state
    have both : (w.chain.towers[k].sampledBy w.qualCount reply).state = (x.sampledBy s.qualCount reply).state := by
      obtain ⟨present, power, door, -⟩ := tower
      refine Tower.state_of present ?_ ?_ <;> unfold Tower.sampledBy <;> dsimp only
      · rw [power, count]
      · rw [door, count]
    dsimp only at each
    rw [one, both, tower.state] at each
    exact each
  obtain ⟨w, w_eq⟩ : ∃ w, w = s.modTower k Tower.answers := ⟨_, rfl⟩
  have count : w.qualCount = s.qualCount := by rw [w_eq]; rfl
  have tower : x.likes w.chain.towers[k] := by
    rw [w_eq, State.modTower_read]
    exact ⟨rfl, rfl, rfl, rfl⟩
  have ends : s.goodReply k reply =
      if reply.arrivalsFirst then (w.takeArrivals k reply).takeSamples k reply else (w.takeSamples k reply).takeArrivals k reply := by
    rw [w_eq]
    rfl
  rw [ends]
  cases reply.arrivalsFirst with
  | true =>
    rw [if_pos rfl]
    have arrivals := w.takeArrivals_passes k reply
    refine samples _ (arrivals.count.trans count) ?_
    rw [arrivals.chain, State.modTower_read]
    exact tower
  | false =>
    rw [if_neg nofun]
    have arrivals := (w.takeSamples k reply).takeArrivals_passes k reply
    obtain ⟨one, two⟩ := samples w count tower
    exact ⟨fun differs => arrivals.latched _ (one differs), fun differs => arrivals.latched _ (two differs)⟩

end Sys2Proof.Machine

/-! An arrival among samples that change nothing (R107, R118, R121, R135). -/

namespace Sys2Proof.Machine

variable {k : Fin 4} {s t u : State}

/-! ## Samples that change nothing -/

/-- `t` is `s` with samples taken that change nothing: the towers and bins are as they were but for the samples counted (R109). -/
structure State.Sees (k : Fin 4) (s t : State) : Prop where
  frame : t = { s with chain := t.chain, bins := t.bins }
  towers : ∀ j : Fin 4, t.chain.towers[j].state = s.chain.towers[j].state
  bins : ∀ b : Fin 41, t.bins[b] = { s.bins[b] with present := t.bins[b].present, full := t.bins[b].full } ∧
    t.bins[b].full.state = s.bins[b].full.state

theorem State.Sees.refl (k : Fin 4) (s : State) : s.Sees k s := ⟨rfl, fun _ => rfl, fun _ => ⟨rfl, rfl⟩⟩

theorem State.Sees.trans (h : s.Sees k t) (g : t.Sees k u) : s.Sees k u where
  frame := by rw [g.frame, h.frame]
  towers j := (g.towers j).trans (h.towers j)
  bins b := by
    obtain ⟨one, full⟩ := h.bins b
    obtain ⟨two, full'⟩ := g.bins b
    exact ⟨by rw [two, one], full'.trans full⟩

theorem State.Sees.binState (h : s.Sees k t) (b : Fin 41) : t.binState b = s.binState b := by
  refine State.binState_congr b ?_ ?_
  · unfold State.reachable
    cases towerOf b with
    | none => rfl
    | some j => exact congrArg (fun o : TowerState => Decidable.decide (o = .ready)) (h.towers j)
  · obtain ⟨bin, full⟩ := h.bins b
    generalize t.bins[b] = x at *
    refine ⟨?_, ?_, ?_, ?_, full⟩ <;> rw [bin]

theorem State.Sees.combines (h : s.Sees k t) : t.combines ↔ s.combines := by
  have gov : t.report.gov = s.report.gov := by rw [h.frame]
  have full : t.fullCount = s.fullCount := State.fullCount_congr h.binState
  have condition (i : Fin 6) : t.condition i ↔ s.condition i := by
    match i with
    | 0 => show t.stapler.count < t.stapler.low ↔ _; rw [h.frame]; exact Iff.rfl
    | 1 => show t.rejectNear.state = _ ↔ _; rw [h.frame]; exact Iff.rfl
    | 2 => show (t.binState 0 = _ ∨ t.binState 0 = _) ↔ _; rw [h.binState]; exact Iff.rfl
    | 3 => show t.delivery.shelf = _ ↔ _; rw [h.frame]; exact Iff.rfl
    | 4 => show t.report.gov.threshold ≤ t.fullCount ↔ _; rw [gov, full]; exact Iff.rfl
    | 5 => exact exists_congr fun j => by rw [h.towers]
  unfold State.combines
  simp only [condition, gov]

theorem State.modTower_sees {f : Tower → Tower} (state : (f s.chain.towers[k]).state = s.chain.towers[k].state) : s.Sees k (s.modTower k f) where
  frame := rfl
  towers j := by
    by_cases here : j = k
    · subst here
      rw [State.modTower_read]
      exact state
    · have other : (s.modTower k f).chain.towers[j] = s.chain.towers[j] :=
        Vector.getElem_set_ne k.isLt j.isLt fun e => here (Fin.ext e.symm)
      rw [other]
  bins _ := ⟨rfl, rfl⟩

theorem Bin.sampledBy_still {n : Nat} {reply : PollReply} {i : Fin 10} {x : Bin} (still : ¬ x.changedBy n reply i) :
    x.sampledBy n reply i = { x with present := (x.sampledBy n reply i).present, full := (x.sampledBy n reply i).full } := by
  rw [Bin.changedBy_iff, not_or] at still
  obtain ⟨present, full⟩ := still
  have sampleFull (y : Bin) (same : y.full = x.full) : y.fullSampled n (reply.fullCovered.getLsbD i.val) =
      { y with full := (x.full.sample n (reply.fullCovered.getLsbD i.val)).1 } := by
    unfold Bin.fullSampled
    rw [same]
    exact if_neg full
  have samplePresent (y : Bin) (same : y.present = x.present) : y.presentSampled n (reply.presentCovered.getLsbD i.val) =
      { y with present := (x.present.sample n (reply.presentCovered.getLsbD i.val)).1 } := by
    unfold Bin.presentSampled
    rw [same]
    exact if_neg present
  unfold Bin.sampledBy
  cases reply.fullFirst with
  | true =>
    rw [if_pos rfl, sampleFull x rfl, samplePresent _ (by rfl)]
  | false =>
    rw [if_neg nofun, samplePresent x rfl, sampleFull _ (by rfl)]

/-- Samples that change nothing (R109). -/
theorem State.takeSamples_sees {reply : PollReply} (still : ¬ s.pollChanges k reply) : s.Sees k (s.takeSamples k reply) := by
  have iff := Tower.changes_iff s.qualCount reply s.chain.towers[k]
  have inputs : ¬ s.chain.towers[k].firstChanges s.qualCount reply ∧ ¬ s.chain.towers[k].secondChanges s.qualCount reply :=
    not_or.mp fun h => still ((iff.mp h).imp_right .inl)
  obtain ⟨sampled, inside, outside⟩ := State.takeSamples_sampled (k := k) (s := s) reply (.inr still) fun i v among cut => by
    obtain ⟨-, -, change⟩ := cut
    obtain here | there := among
    · exact inputs.1 (by unfold Tower.firstChanges; rw [← here]; exact change)
    · exact inputs.2 (by unfold Tower.secondChanges; rw [← there]; exact change)
  have passes := s.takeSamples_passes k reply
  obtain ⟨report, routes⟩ := sampled.quiet still
  have run := sampled.sleeps fun h => still h.2
  have frame := sampled.frame
  rw [report, routes, run] at frame
  refine ⟨frame, fun j => ?_, fun b => ?_⟩
  · rw [passes.chain]
    refine (State.modTower_sees ?_).towers j
    refine Tower.state_of rfl ?_ ?_
    · exact not_not.mp fun h => still (.inl h)
    · exact not_not.mp fun h => still (.inr (.inl h))
  · by_cases at_ : ∃ i, b = binAt k i
    · obtain ⟨i, rfl⟩ := at_
      have quiet : ¬ s.binPolls k reply i := fun h => still (.inr (.inr ⟨i, h⟩))
      rw [inside i]
      refine ⟨?_, not_not.mp fun h => quiet (.inr h)⟩
      unfold State.binPolls at quiet
      unfold State.polledBin at quiet ⊢
      by_cases off : s.chain.towers[k].state = .unpowered
      · rw [if_pos off]
      · rw [if_neg off] at quiet ⊢
        exact Bin.sampledBy_still quiet
    · rw [outside b fun i e => at_ ⟨i, e⟩]
      exact ⟨rfl, rfl⟩

/-! ## The arrival -/

/-- `t` is what an arrival at TEt in `s` leaves, samples that change nothing standing around it. -/
def State.arrivesAt (k : Fin 4) (s t : State) : Prop := ∃ w, s.Sees k w ∧ (w.arrive (.te k)).Sees k t

/-- An arrival leaves the sensors of the bins (R107, R135). -/
theorem State.jam_bins {kind : JamKind} {x : Sensor} (op : s.run.op ≠ .jam) (b : Fin 41) :
    (s.jam kind x).bins[b] = { s.bins[b] with reserved := (s.jam kind x).bins[b].reserved } := by
  rw [State.jam_fields op]
  obtain ⟨d, -, bin⟩ := (s.jamLost_loses kind x).reserved b
  show (s.jamLost kind x).bins[b] = { s.bins[b] with reserved := (s.jamLost kind x).bins[b].reserved }
  rw [bin]

theorem State.arrive_none {x : Target} (working : s.working = true) (none_ : s.delivery.expecting x = none) :
    s.arrive x = s.jam .unexpectedSet (targetSensor x) := by
  unfold State.arrive
  rw [if_pos working, none_]

theorem State.arrive_some {x : Target} {e : ListEntry} (working : s.working = true) (expects : s.delivery.expecting x = some e) :
    s.arrive x = s.confirm e.set := by
  unfold State.arrive
  rw [if_pos working, expects]

/-- With samples that change nothing, a reply is its arrival, among them (R118, R121). -/
theorem State.goodReply_arrives {reply : PollReply} (arrivals : reply.arrivals = 1) (still : ¬ s.pollChanges k reply)
    (sensors : ∀ w, s.Sees k w → w.bins = s.bins → w.chain.towers[k].likes s.chain.towers[k] → ∀ b : Fin 41,
      (w.arrive (.te k)).bins[b].present = s.bins[b].present ∧ (w.arrive (.te k)).bins[b].full = s.bins[b].full) :
    s.arrivesAt k (s.goodReply k reply) := by
  have ends : s.goodReply k reply = if reply.arrivalsFirst
      then ((s.modTower k Tower.answers).takeArrivals k reply).takeSamples k reply
      else ((s.modTower k Tower.answers).takeSamples k reply).takeArrivals k reply := rfl
  have one (w : State) : w.takeArrivals k reply = (w.modTower k (Tower.levels reply)).arrive (.te k) := by
    unfold State.takeArrivals
    rw [arrivals]
    rfl
  have answered : s.Sees k (s.modTower k Tower.answers) := State.modTower_sees rfl
  have levels (w : State) : w.Sees k (w.modTower k (Tower.levels reply)) := State.modTower_sees rfl
  have read : (s.modTower k Tower.answers).chain.towers[k] = s.chain.towers[k].answers := State.modTower_read ..
  rw [ends]
  cases reply.arrivalsFirst with
  | true =>
    rw [if_pos rfl, one]
    refine ⟨_, answered.trans (levels _), State.takeSamples_sees fun changes => still ?_⟩
    obtain ⟨w, w_eq⟩ : ∃ w, w = (s.modTower k Tower.answers).modTower k (Tower.levels reply) := ⟨_, rfl⟩
    rw [← w_eq] at changes
    have tower : w.chain.towers[k] = (s.chain.towers[k].answers).levels reply := by
      rw [w_eq, State.modTower_read, read]
    have sees : s.Sees k w := by rw [w_eq]; exact answered.trans (levels _)
    have count : w.qualCount = s.qualCount := by rw [w_eq]; rfl
    have passes := w.arrive_passes (.te k)
    refine (State.pollChanges_congr ?_ (passes.count.trans count) fun i => ?_).mp changes
    · rw [passes.chain, tower]
      exact ⟨rfl, rfl, rfl, rfl⟩
    · refine sensors w sees (by rw [w_eq]; rfl) ?_ (binAt k i)
      rw [tower]
      exact ⟨rfl, rfl, rfl, rfl⟩
  | false =>
    rw [if_neg nofun, one]
    refine ⟨_, (answered.trans (State.takeSamples_sees fun changes => still ?_)).trans (levels _), .refl k _⟩
    refine (State.pollChanges_congr ?_ ?_ ?_).mp changes
    · rw [read]
      exact ⟨rfl, rfl, rfl, rfl⟩
    · rfl
    · exact fun _ => ⟨rfl, rfl⟩

theorem State.Sees.working (h : s.Sees k t) : t.working = s.working := by
  unfold State.working
  rw [h.frame]

/-- An arrival that nothing matches is a jam (R135). -/
theorem State.goodReply_unexpected {reply : PollReply} (arrivals : reply.arrivals = 1) (still : ¬ s.pollChanges k reply)
    (working : s.working = true) (none_ : s.delivery.expecting (.te k) = none) : (s.goodReply k reply).jams .unexpectedSet := by
  have op (w : State) (sees : s.Sees k w) : w.run.op ≠ .jam := by
    have op : s.run.op ≠ .jam := by
      obtain op | op := State.working_op working <;> rw [op] <;> nofun
    rw [sees.frame]
    exact op
  have arrival (w : State) (sees : s.Sees k w) : w.arrive (.te k) = w.jam .unexpectedSet (.te k) :=
    State.arrive_none (sees.working.trans working) (by rw [sees.frame]; exact none_)
  obtain ⟨w, sees, seen⟩ := State.goodReply_arrives (k := k) (s := s) arrivals still fun w sees bins _ b => by
    rw [arrival w sees, State.jam_bins (op w sees), bins]
    exact ⟨rfl, rfl⟩
  rw [arrival w sees] at seen
  have jams := State.jam_jams (k := .unexpectedSet) (x := .te k) (op w sees)
  unfold State.jams State.latched State.stands at jams ⊢
  rw [seen.frame]
  exact jams

/-- An arrival confirms the set that travels there (R107, R135). -/
theorem State.goodReply_confirms {reply : PollReply} (arrivals : reply.arrivals = 1) (still : ¬ s.pollChanges k reply)
    (working : s.working = true) {e : ListEntry} {x : SetRec} {b : Fin 41} (expects : s.delivery.expecting (.te k) = some e)
    (used : s.getRec e.set = some x) (chosen : x.chosen = some b) :
    ∃ w v, s.Sees k w ∧ w.Confirms e.set x b v ∧ v.Sees k (s.goodReply k reply) := by
  have confirms (w : State) (sees : s.Sees k w) : w.Confirms e.set x b (w.arrive (.te k)) := by
    rw [State.arrive_some (e := e) (sees.working.trans working) (by rw [sees.frame]; exact expects)]
    exact State.confirm_confirms (by rw [sees.frame]; exact used) chosen
  obtain ⟨w, sees, seen⟩ := State.goodReply_arrives (k := k) (s := s) arrivals still fun w sees bins _ j => by
    have confirms := confirms w sees
    by_cases here : j = b
    · rw [here, confirms.bin, bins]
      exact ⟨rfl, rfl⟩
    · rw [confirms.bins j here, bins]
      exact ⟨rfl, rfl⟩
  exact ⟨w, _, sees, confirms w sees, seen⟩

end Sys2Proof.Machine

/-! Qualified changes of a tower's inputs, and missed polls (R118 to R120, R122). -/

namespace Sys2Proof.Machine

variable {k : Fin 4} {s t u : State}

/-! ## What the bins keep -/

/-- The fill and the sensors of the bins stay. -/
def State.keepsBins (s t : State) : Prop :=
  ∀ b : Fin 41, t.bins[b].fill = s.bins[b].fill ∧ t.bins[b].full = s.bins[b].full ∧ t.bins[b].present = s.bins[b].present

theorem State.keepsBins.of_same (h : t.bins = s.bins) : s.keepsBins t := fun b => by rw [h]; exact ⟨rfl, rfl, rfl⟩

theorem State.keepsBins.trans (h : s.keepsBins t) (g : t.keepsBins u) : s.keepsBins u := fun b => by
  obtain ⟨fill, full, present⟩ := h b
  obtain ⟨fill', full', present'⟩ := g b
  exact ⟨fill'.trans fill, full'.trans full, present'.trans present⟩

theorem State.Rebins.keepsBins (h : s.Rebins t) : s.keepsBins t := fun b => by
  have bin := h.bins b
  generalize t.bins[b] = x at *
  rw [bin]
  exact ⟨rfl, rfl, rfl⟩

theorem State.towerJam_keepsBins (kind : JamKind) (s : State) : s.keepsBins (s.towerJam k kind) := by
  unfold State.towerJam
  split
  · by_cases op : s.run.op = .jam
    · have same : s.jam kind (.te k) = { s with report := s.report.latchOnly (.jam kind) } := if_pos op
      rw [same]
      exact .of_same rfl
    · intro b
      have bin := State.jam_bins (kind := kind) (x := .te k) op b
      generalize (s.jam kind (.te k)).bins[b] = x at *
      rw [bin]
      exact ⟨rfl, rfl, rfl⟩
  · exact .of_same rfl

/-! ## The tower's change -/

/-- A tower's change, before its jam: the part as it was but for the reports, and for what a tower that has become READY gives the held
sets (R113, R119). -/
theorem State.towerChanged_rebins (s was : State) : ∃ w : State, w = { s with report := w.report } ∧ s.governed w ∧
    s.keepsAttention w ∧ w.Rebins (s.towerChanged k was) := by
  obtain ⟨frame, governed, -⟩ := s.binsChanged_tells was (binsOf k)
  refine ⟨s.binsChanged was (binsOf k), frame, governed, s.binsChanged_attention was (binsOf k), ?_⟩
  exact .ite (.foldl _ State.binEvent_rebins _ _) (.refl _)

theorem State.towerChanged_governed (s was : State) : s.governed (s.towerChanged k was) := by
  obtain ⟨w, only, governed, -, rebins⟩ := s.towerChanged_rebins (k := k) was
  have now : (s.towerChanged k was).now = w.now := by rw [rebins.frame]
  exact governed.then rebins.tells.gov now rebins.combines (rebins.tells.reasons .governor (by decide))

theorem State.towerChanged_keepsBins (s was : State) : s.keepsBins (s.towerChanged k was) := by
  obtain ⟨w, only, -, -, rebins⟩ := s.towerChanged_rebins (k := k) was
  exact (State.keepsBins.of_same (by rw [only])).trans rebins.keepsBins

/-- The bins of a tower that is not READY give no notice and no event (R103, R104). -/
theorem State.towerChanged_off (s was : State) (off : s.chain.towers[k].state ≠ .ready) :
    (s.towerChanged k was).report.notice = s.report.notice ∧ (s.towerChanged k was).report.link.queue = s.report.link.queue ∧
    s.towerChanged k was = { s with report := (s.towerChanged k was).report } := by
  have offline (b : Fin 41) (at_ : towerOf b = some k) : s.binState b = .offline := by
    unfold State.binState State.reachable
    rw [at_]
    refine if_pos ?_
    show (!Decidable.decide (s.chain.towers[k].state = .ready)) = true
    rw [decide_eq_false off]
    rfl
  have quiet (l : List (Fin 41)) (inside : ∀ b ∈ l, towerOf b = some k) : s.binsTold was l = s := by
    induction l with
    | nil => rfl
    | cons b l ih =>
      have one : s.binNotice (was.binState b) b = s := by
        unfold State.binNotice
        rw [offline b (inside b List.mem_cons_self)]
        dsimp only
        split
        · rfl
        · rfl
      show (s.binNotice (was.binState b) b).binsTold was l = s
      rw [one]
      exact ih fun c m => inside c (List.mem_cons_of_mem _ m)
  have told := quiet (binsOf k) fun b m => (mem_binsOf k b).mp m
  have frame := (s.binsChanged_tells was (binsOf k)).1
  have plain : s.towerChanged k was = s.binsChanged was (binsOf k) := by
    refine if_neg fun h => off ?_
    have ready := of_decide_eq_true (Bool.and_eq_true_iff.mp h).2
    rw [frame] at ready
    exact ready
  have changed : s.binsChanged was (binsOf k) = (s.setReason .overflowFull (s.binState 0 = .full)).recombine := by
    show ((s.binsTold was (binsOf k)).setReason .overflowFull ((s.binsTold was (binsOf k)).binState 0 = .full)).recombine = _
    rw [told]
  rw [plain]
  refine ⟨?_, ?_, frame⟩ <;> rw [changed]
  · rw [State.recombine_notice]
    rfl
  · rw [State.recombine_link]
    rfl

/-! ## The wake event after it -/

/-- A wake event leaves the governor as it followed (R122, R153). -/
theorem State.governed.wake (h : s.governed u) (k : Fin 4) : s.governed (u.wakeEvent k) := by
  obtain ⟨only, stands⟩ := u.wakeEvent_only k
  have governor := stands .governor (by decide)
  generalize u.wakeEvent k = t at *
  have gov : t.report.gov = u.report.gov := by rw [only]
  exact h.then gov (by rw [only]) (State.combines_congr gov (by rw [only]) (by rw [only]) (by rw [only]) (by rw [only]) (by rw [only])) governor

/-! ## The input -/

theorem State.inputSet_governor (i : TowerInput) (v : Bool) (s : State) :
    (s.inputSet k i v).report.gov = s.report.gov ∧ ((s.inputSet k i v).stands .governor ↔ s.stands .governor) := by
  unfold State.inputSet
  split
  · exact ⟨(State.notify_tells _ _ _).gov, State.notify_stands _ _ .governor _ (by decide)⟩
  · exact ⟨rfl, Iff.rfl⟩

/-- A qualified change that cuts no set off (R119, R122). -/
theorem State.inputQualified_plain {i : TowerInput} {v : Bool} (whole : ¬ (v = false ∧ s.listHolds k = true)) :
    s.inputQualified k i v = ((s.inputSet k i v).towerChanged k s).wakeEvent k := by
  rw [State.inputQualified_of]
  cases v with
  | true => rfl
  | false =>
    obtain ⟨only, -⟩ := State.towerChanged_only (k := k) (s := s) (i := i) (v := false) (.inr (Tower.setInput_off i _))
    generalize (s.inputSet k i false).towerChanged k s = m at *
    show (m.towerJam k .towerDoor).wakeEvent k = _
    have free : m.towerJam k .towerDoor = m := if_neg fun holds => whole ⟨rfl, by
      rw [← State.listHolds_congr (t := m) (s := s) (by rw [only]; rfl) (by rw [only]; rfl) k]
      exact holds⟩
    rw [free]

theorem State.inputQualified_governed {i : TowerInput} {v : Bool} (whole : ¬ (v = false ∧ s.listHolds k = true)) :
    s.governed (s.inputQualified k i v) := by
  rw [State.inputQualified_plain whole]
  obtain ⟨gov, governor⟩ := s.inputSet_governor (k := k) i v
  exact ((State.towerChanged_governed (s.inputSet k i v) s).of_same gov governor).wake k

theorem State.inputQualified_keepsBins (i : TowerInput) (v : Bool) (s : State) : s.keepsBins (s.inputQualified k i v) := by
  have set : s.keepsBins (s.inputSet k i v) := .of_same (by rw [State.inputSet_only]; rfl)
  have changed := set.trans (State.towerChanged_keepsBins (k := k) _ s)
  have woken (m : State) (h : s.keepsBins m) : s.keepsBins (m.wakeEvent k) :=
    h.trans (.of_same ((congrArg State.bins (m.wakeEvent_only k).1 :)))
  rw [State.inputQualified_of]
  refine woken _ ?_
  cases v with
  | true => exact changed
  | false => exact changed.trans (State.towerJam_keepsBins _ _)

/-- The wake event of a qualified change (R122). -/
theorem State.inputQualified_run {i : TowerInput} {v : Bool} (whole : ¬ (v = false ∧ s.listHolds k = true)) :
    (s.wakesBy k → (s.inputQualified k i v).run = { s.run with op := .waking, wake := some s.now, standby := none } ∧
      (s.inputQualified k i v).stands .wake) ∧
    (¬ s.wakesBy k → (s.inputQualified k i v).run = s.run) := by
  rw [State.inputQualified_plain whole]
  obtain ⟨w, only, -, -, rebins⟩ := (s.inputSet k i v).towerChanged_rebins (k := k) s
  generalize (s.inputSet k i v).towerChanged k s = m at *
  have frame : m.run = s.run ∧ m.now = s.now ∧ m.chain = (s.modTower k (Tower.setInput i (.qualified v))).chain := by
    rw [rebins.frame, only, State.inputSet_only]
    exact ⟨rfl, rfl, rfl⟩
  obtain ⟨run, now, chain⟩ := frame
  have wakesBy : m.wakesBy k ↔ s.wakesBy k := by
    unfold State.wakesBy
    rw [run, chain, State.modTower_read]
    cases i <;> rfl
  constructor
  · intro wakes
    rw [State.wakeEvent_of (wakesBy.mpr wakes)]
    refine ⟨?_, (State.raise_stands _ _ _).mpr (.inl rfl)⟩
    show ({ m.run with op := .waking, wake := some m.now, standby := none } : RunController) = _
    rw [run, now]
  · intro stays
    rw [State.wakeEvent_not fun wakes => stays (wakesBy.mp wakes)]
    exact run

/-- A change of the tower's state to one that is not READY is handed over, and nothing else is (R119, R157). -/
theorem State.inputQualified_handed {i : TowerInput} {v : Bool} (whole : ¬ (v = false ∧ s.listHolds k = true))
    (differs : (s.chain.towers[k].setInput i (.qualified v)).state ≠ s.chain.towers[k].state)
    (off : (s.chain.towers[k].setInput i (.qualified v)).state ≠ .ready) :
    s.handed ⟨inputCause i v, some (k.val + 1), some (s.chain.towers[k].setInput i (.qualified v)).state.code, none, none⟩ (some k)
      (s.inputQualified k i v) := by
  rw [State.inputQualified_plain whole]
  have read : (s.modTower k (Tower.setInput i (.qualified v))).chain.towers[k] = s.chain.towers[k].setInput i (.qualified v) :=
    State.modTower_read ..
  have noticed : s.inputSet k i v = (s.modTower k (Tower.setInput i (.qualified v))).notify
      ⟨inputCause i v, some (k.val + 1), some (s.chain.towers[k].setInput i (.qualified v)).state.code, none, none⟩ (some k) := by
    unfold State.inputSet
    rw [if_pos (by rw [read]; exact differs)]
    unfold State.towerNotice
    rw [read]
  have handed := State.notify_handed
    ⟨inputCause i v, some (k.val + 1), some (s.chain.towers[k].setInput i (.qualified v)).state.code, none, none⟩ (some k)
    (s.modTower k (Tower.setInput i (.qualified v)))
  rw [← noticed] at handed
  obtain ⟨notice, queue, -⟩ := State.towerChanged_off (k := k) (s.inputSet k i v) s (by
    rw [State.inputSet_only]
    show (s.modTower k (Tower.setInput i (.qualified v))).chain.towers[k].state ≠ _
    rw [read]
    exact off)
  have woken := (((s.inputSet k i v).towerChanged k s).wakeEvent_only k).1
  generalize (s.inputSet k i v).towerChanged k s = m at *
  exact State.handed_of handed rfl rfl (((congrArg (fun t => t.report.notice) woken :)).trans notice)
    (((congrArg (fun t => t.report.link.queue) woken :)).trans queue)

end Sys2Proof.Machine

/-! Missed polls, and a poll in the statement's words (R109 to R112, R118). -/

namespace Sys2Proof.Machine

variable {k : Fin 4} {s t u : State}

/-! ## Missed polls -/

/-- The part with a missed poll of a tower counted (R118). -/
def State.missedPoll (k : Fin 4) (s : State) : State := s.modTower k (Tower.missPoll s.now (sampleInterval s.run.op))

theorem exec_towerPollMissed (live : s.live) (present : s.chain.towers[k].present = true) (enum : s.chain.enum = none) :
    exec (.towerPollMissed k) s = .next (if 3 ≤ min 3 (s.chain.towers[k].missed + 1) then (s.missedPoll k).loseTower k
      else s.missedPoll k).syncIdle := by
  have read : (s.missedPoll k).chain.towers[k].missed = min 3 (s.chain.towers[k].missed + 1) := by
    unfold State.missedPoll
    rw [State.modTower_read]
    rfl
  show execTowerPollMissed k s = _
  rw [execTowerPollMissed, State.does_live live, ← read]
  exact congrArg (fun t : State => Host.Outcome.next t.syncIdle) (if_pos (State.polled_of present enum))

/-- The part with a tower not present any more and its bins' sensors unqualified (R116 to R118). -/
def State.towerGone (k : Fin 4) (s : State) : State :=
  { s with
    chain := { s.chain with towers := s.chain.towers.set k s.chain.towers[k].unqualify }
    bins := Vector.ofFn fun b : Fin 41 => if towerOf b = some k then s.bins[b].unqualify else s.bins[b] }

theorem State.loseTower_of (k : Fin 4) (s : State) :
    s.loseTower k = (((s.towerGone k).towerNotice k .towerLost).towerChanged k s).towerJam k .towerLost := rfl

theorem State.towerGone_read (k : Fin 4) (s : State) : (s.towerGone k).chain.towers[k] = s.chain.towers[k].unqualify :=
  Vector.getElem_set_self _

theorem State.towerGone_bins (k : Fin 4) (s : State) (b : Fin 41) :
    (s.towerGone k).bins[b] = if towerOf b = some k then s.bins[b].unqualify else s.bins[b] :=
  Vector.getElem_ofFn _

theorem State.towerGone_run (s : State) : (s.towerGone k).run = s.run := by simp only [State.towerGone]

theorem State.towerGone_sets (s : State) : (s.towerGone k).sets = s.sets := by simp only [State.towerGone]

theorem State.towerGone_delivery (s : State) : (s.towerGone k).delivery = s.delivery := by simp only [State.towerGone]

theorem State.towerGone_holds (s : State) : (s.towerGone k).listHolds k = s.listHolds k :=
  State.listHolds_congr s.towerGone_sets s.towerGone_delivery k

/-- A lost tower, before its jam (R118). -/
theorem State.towerGone_told (s : State) :
    let m := ((s.towerGone k).towerNotice k .towerLost).towerChanged k s
    m = { s.towerGone k with report := m.report } ∧ s.governed m ∧
    s.handed ⟨.towerLost, some (k.val + 1), some TowerState.absent.code, none, none⟩ (some k) m := by
  intro m
  have state : (s.towerGone k).chain.towers[k].state = .absent := by
    rw [State.towerGone_read]
    rfl
  obtain ⟨n, n_eq⟩ : ∃ n : Notice, n = ⟨.towerLost, some (k.val + 1), some TowerState.absent.code, none, none⟩ := ⟨_, rfl⟩
  have noticed : (s.towerGone k).towerNotice k .towerLost = (s.towerGone k).notify n (some k) := by
    unfold State.towerNotice
    rw [state, n_eq]
  have handed := State.notify_handed n (some k) (s.towerGone k)
  have tells := State.notify_tells n (some k) (s.towerGone k)
  have only : (s.towerGone k).notify n (some k) = { s.towerGone k with report := ((s.towerGone k).notify n (some k)).report } := rfl
  rw [← n_eq]
  show m = _ ∧ _
  obtain ⟨v, v_eq⟩ : ∃ v, v = (s.towerGone k).notify n (some k) := ⟨_, rfl⟩
  have told : m = v.towerChanged k s := by rw [v_eq, ← noticed]
  rw [← v_eq] at only handed tells
  have off : v.chain.towers[k].state ≠ .ready := by
    rw [only]
    show (s.towerGone k).chain.towers[k].state ≠ _
    rw [state]
    nofun
  obtain ⟨notice, queue, frame⟩ := State.towerChanged_off v s off
  have governed := State.towerChanged_governed (k := k) v s
  rw [told]
  refine ⟨?_, governed.of_same tells.gov (tells.reasons .governor (by decide)), State.handed_of handed rfl rfl notice queue⟩
  generalize v.towerChanged k s = w at *
  rw [frame, only]

/-- A tower's jam, or none where no set is on its way there (R118, R120). -/
theorem State.towerJam_of {g m : State} {kind : JamKind} (only : m = { g with report := m.report }) :
    (m.towerJam k kind).chain = g.chain ∧ g.keepsBins (m.towerJam k kind) ∧
    (g.run.op ≠ .jam → g.listHolds k = true → (m.towerJam k kind).jams kind) ∧ (g.listHolds k = false → m.towerJam k kind = m) := by
  have sets : m.sets = g.sets := (congrArg State.sets only :)
  have delivery : m.delivery = g.delivery := (congrArg State.delivery only :)
  have run : m.run = g.run := (congrArg State.run only :)
  have chain : m.chain = g.chain := (congrArg State.chain only :)
  have bins : m.bins = g.bins := (congrArg State.bins only :)
  have holds := State.listHolds_congr sets delivery k
  have keeps : g.keepsBins m := .of_same bins
  refine ⟨(m.towerJam_passes k kind).chain.trans chain, keeps.trans (State.towerJam_keepsBins kind m), fun op held => ?_, fun free => ?_⟩
  · have jam : m.towerJam k kind = m.jam kind (.te k) := if_pos (holds.trans held)
    rw [jam]
    exact State.jam_jams (by rw [run]; exact op)
  · exact if_neg (by rw [holds, free]; nofun)

/-- What the third missed poll leaves (R118). -/
theorem State.loseTower_loses (s : State) :
    (s.loseTower k).chain = (s.towerGone k).chain ∧ (s.loseTower k).latched .towerLost ∧ (s.towerGone k).keepsBins (s.loseTower k) ∧
    (s.run.op ≠ .jam → s.listHolds k = true → (s.loseTower k).jams .towerLost) ∧
    (s.listHolds k = false → s.loseTower k = { s.towerGone k with report := (s.loseTower k).report } ∧ s.governed (s.loseTower k) ∧
      s.handed ⟨.towerLost, some (k.val + 1), some TowerState.absent.code, none, none⟩ (some k) (s.loseTower k)) := by
  obtain ⟨only, governed, handed⟩ := s.towerGone_told (k := k)
  obtain ⟨m, m_eq⟩ : ∃ m, m = ((s.towerGone k).towerNotice k .towerLost).towerChanged k s := ⟨_, rfl⟩
  rw [← m_eq] at only governed handed
  obtain ⟨chain, bins, jams, plain⟩ := State.towerJam_of (k := k) (kind := .towerLost) only
  have latched : m.latched .towerLost := (handed.1 .towerLost).mpr (.inl rfl)
  have holds := s.towerGone_holds (k := k)
  have run := s.towerGone_run (k := k)
  rw [holds] at jams plain
  rw [run] at jams
  have ends : s.loseTower k = m.towerJam k .towerLost := by rw [m_eq]; rfl
  rw [ends]
  refine ⟨chain, (m.towerJam_passes k .towerLost).latched _ latched, bins, jams, fun free => ?_⟩
  rw [plain free]
  exact ⟨only, governed, handed⟩

/-! ## The statement's words -/

/-- A sampled present sensor, in the statement's words (R109, R110). -/
theorem Bin.presentSampled_eq (n : Nat) (v : Bool) (x : Bin) : x.presentSampled n v =
    if (x.present.sample n v).1.state = some false ∧ (x.present.state = some true ∨ (x.present.state = none ∧ 0 < x.fill)) then
      { x with present := (x.present.sample n v).1, fill := 0, count := 0, nextSide := .left }
    else { x with present := (x.present.sample n v).1 } := by
  obtain ⟨changes, keeps⟩ := Qual.sample_change n v x.present
  unfold Bin.presentSampled
  cases h : (x.present.sample n v).2 with
  | false =>
    have same := keeps h
    rw [if_neg nofun, if_neg]
    rintro ⟨clear, covered | ⟨none_, -⟩⟩
    · rw [same, covered] at clear
      cases clear
    · rw [same, none_] at clear
      cases clear
  | true =>
    obtain ⟨now, -⟩ := changes h
    rw [if_pos rfl, now]
    unfold Bin.presentQualified
    refine if_congr ?_ rfl rfl
    rw [Bin.empties_iff]
    exact and_congr_left fun _ => ⟨fun e => by rw [e]; rfl, fun e => Option.some.inj e⟩

/-- A sampled full sensor, in the statement's words (R109, R111, R112). -/
theorem Bin.fullSampled_eq (n : Nat) (v : Bool) (x : Bin) : x.fullSampled n v = { x with
    full := (x.full.sample n v).1
    fill :=
      if (x.full.sample n v).1.state = x.full.state then x.fill
      else if v then max x.fill x.capacity
      else if x.full.state = some true ∧ x.present.state = some true then x.capacity - x.margin - 1
      else x.fill } := by
  obtain ⟨changes, keeps⟩ := Qual.sample_change n v x.full
  unfold Bin.fullSampled
  cases h : (x.full.sample n v).2 with
  | false => rw [if_neg nofun, if_pos (keeps h)]
  | true =>
    obtain ⟨now, before⟩ := changes h
    rw [if_pos rfl, now, if_neg (show (Qual.qualified v).state ≠ x.full.state from before.symm)]
    cases v with
    | true => rfl
    | false =>
      have iff := Bin.rereferences_iff x
      rw [if_neg (show ¬ false = true by nofun)]
      by_cases renews : x.rereferences = true
      · rw [Bin.fullQualified_rereferenced renews, if_pos (iff.mp renews)]
        rfl
      · have plain := fun h => renews (iff.mpr h)
        rw [Bin.fullQualified_clear plain, if_neg plain]
        rfl

/-- A sample takes an input off by a qualified change that says so (R109). -/
theorem Qual.sample_off_iff (n : Nat) (v : Bool) (q : Qual) :
    ((q.sample n v).1.state = some false ∧ q.state ≠ some false) ↔ v = false ∧ (q.sample n v).2 = true := by
  obtain ⟨changes, keeps⟩ := Qual.sample_change n v q
  cases h : (q.sample n v).2 with
  | false =>
    refine iff_of_false (fun e => e.2 ?_) fun e => nomatch e.2
    rw [← keeps h]
    exact e.1
  | true =>
    obtain ⟨now, before⟩ := changes h
    rw [now]
    constructor
    · rintro ⟨off, -⟩
      exact ⟨Option.some.inj off, rfl⟩
    · rintro ⟨rfl, -⟩
      exact ⟨rfl, before⟩

/-- The inputs a reply samples, in whichever order (R118). -/
theorem PollReply.among_iff (reply : PollReply) (i : TowerInput) (v : Bool) : ((i, v) = reply.first ∨ (i, v) = reply.second) ↔
    (i = .power ∧ v = reply.powerOn) ∨ (i = .door ∧ v = reply.doorClosed) := by
  unfold PollReply.first PollReply.second
  cases reply.doorFirst with
  | true =>
    rw [if_pos rfl, if_pos rfl, Prod.mk.injEq, Prod.mk.injEq]
    exact Or.comm
  | false => rw [if_neg nofun, if_neg nofun, Prod.mk.injEq, Prod.mk.injEq]

/-- The samples of a reply cut the tower off (R119, R120). -/
theorem State.cut_iff (reply : PollReply) (s : State) :
    let x := s.chain.towers[k]
    let y := x.sampledBy s.qualCount reply
    ((y.power.state = some false ∧ x.power.state ≠ some false) ∨ (y.door.state = some false ∧ x.door.state ≠ some false)) ∧
      s.listHolds k = true ↔ ∃ i v, ((i, v) = reply.first ∨ (i, v) = reply.second) ∧ s.cutBy k i v := by
  intro x y
  have power := Qual.sample_off_iff s.qualCount reply.powerOn x.power
  have door := Qual.sample_off_iff s.qualCount reply.doorClosed x.door
  constructor
  · rintro ⟨off | off, holds⟩
    · exact ⟨.power, reply.powerOn, (PollReply.among_iff reply _ _).mpr (.inl ⟨rfl, rfl⟩), holds, power.mp off⟩
    · exact ⟨.door, reply.doorClosed, (PollReply.among_iff reply _ _).mpr (.inr ⟨rfl, rfl⟩), holds, door.mp off⟩
  · rintro ⟨i, v, among, holds, off⟩
    obtain ⟨rfl, rfl⟩ | ⟨rfl, rfl⟩ := (PollReply.among_iff reply _ _).mp among
    · exact ⟨.inl (power.mpr off), holds⟩
    · exact ⟨.inr (door.mpr off), holds⟩

/-- A reply without an arrival that cuts a set off is a jam (R120). -/
theorem State.goodReply_jams {reply : PollReply} (arrivals : reply.arrivals = 0) (none_ : s.noneHeld) (op : s.run.op ≠ .jam)
    {i : TowerInput} {v : Bool} (among : (i, v) = reply.first ∨ (i, v) = reply.second) (cut : s.cutBy k i v) :
    (s.goodReply k reply).jams .towerDoor := by
  have input (f : Tower → Tower) (same : (f s.chain.towers[k]).input i = s.chain.towers[k].input i) :
      ((s.modTower k f).takeSamples k reply).jams .towerDoor := by
    refine State.takeSamples_jams (s := s.modTower k f) reply none_ op among ?_
    unfold State.cutBy at cut ⊢
    rw [State.modTower_read, same]
    exact cut
  have ends : s.goodReply k reply = if reply.arrivalsFirst
      then ((s.modTower k Tower.answers).takeArrivals k reply).takeSamples k reply
      else ((s.modTower k Tower.answers).takeSamples k reply).takeArrivals k reply := rfl
  rw [ends]
  cases reply.arrivalsFirst with
  | true =>
    rw [if_pos rfl, State.takeArrivals_none arrivals, State.modTower_modTower]
    exact input _ (by cases i <;> rfl)
  | false =>
    rw [if_neg nofun, State.takeArrivals_none arrivals]
    exact input Tower.answers (by cases i <;> rfl)

end Sys2Proof.Machine

/-! Missed polls and qualified changes of a tower's inputs, as commands (R117 to R122). -/

namespace Sys2Proof.Machine

variable {k : Fin 4} {s t u : State}

/-! ## The idle timer after a command -/

theorem State.syncIdle_passes (s : State) : s.Passes s.syncIdle := ⟨rfl, rfl, fun _ => id, id, id⟩

theorem State.governed.syncIdle (h : s.governed u) : s.governed u.syncIdle :=
  h.then rfl rfl (State.combines_congr (s := u) (t := u.syncIdle) rfl rfl rfl rfl rfl rfl) Iff.rfl

theorem State.handed.syncIdle {n : Notice} {origin : Option (Fin 4)} (h : s.handed n origin u) : s.handed n origin u.syncIdle :=
  State.handed_of h rfl rfl rfl rfl

/-- The part is WAKING, WAKE standing (R122, R147). -/
def State.wokenFrom (s t : State) : Prop :=
  t.run = { s.run with op := .waking, wake := some s.now, standby := none, idle := none } ∧ t.stands .wake

theorem State.syncIdle_woken (run : u.run = { s.run with op := .waking, wake := some s.now, standby := none }) (stands : u.stands .wake) :
    s.wokenFrom u.syncIdle := by
  have still : u.run.op ≠ .running := by
    rw [run]
    nofun
  rw [State.syncIdle_of_not_running still]
  refine ⟨?_, stands⟩
  show ({ u.run with idle := none } : RunController) = _
  rw [run]

theorem State.syncIdle_run (run : u.run = s.run) : u.syncIdle.run = { s.run with idle := u.syncIdle.run.idle } := by
  rw [← run]
  rfl

/-! ## Nothing while an enumeration runs -/

/-- No poll and no input does anything while an enumeration runs (R117). -/
theorem exec_towers_of_enumerating (live : s.live) (enum : s.chain.enum ≠ none) :
    (∀ reply, exec (.towerPollReply k reply) s = .next s.syncIdle) ∧ exec (.towerPollMissed k) s = .next s.syncIdle ∧
      ∀ i v, exec (.towerInputChange k i v) s = .next s.syncIdle := by
  have off : s.polled k = false := by
    unfold State.polled
    cases h : s.chain.enum with
    | none => exact absurd h enum
    | some e => exact Bool.and_false _
  refine ⟨fun reply => ?_, ?_, fun i v => ?_⟩
  · show execTowerPollReply k reply s = _
    rw [execTowerPollReply, State.does_live live, off]
    rfl
  · show execTowerPollMissed k s = _
    rw [execTowerPollMissed, State.does_live live, off]
    rfl
  · show execTowerInputChange k i v s = _
    rw [execTowerInputChange, State.does_live live, off]
    rfl

/-! ## Missed polls -/

theorem State.missedPoll_read (s : State) :
    (s.missedPoll k).chain.towers[k] = s.chain.towers[k].missPoll s.now (sampleInterval s.run.op) :=
  State.modTower_read ..

theorem State.missedPoll_other (s : State) {j : Fin 4} (other : j ≠ k) : (s.missedPoll k).chain.towers[j] = s.chain.towers[j] :=
  Vector.getElem_set_ne k.isLt j.isLt fun e => other (Fin.ext e.symm)

theorem State.towerGone_other (s : State) {j : Fin 4} (other : j ≠ k) : (s.towerGone k).chain.towers[j] = s.chain.towers[j] :=
  Vector.getElem_set_ne k.isLt j.isLt fun e => other (Fin.ext e.symm)

/-- A missed poll that is not the third only counts (R118). -/
theorem exec_towerPollMissed_counts (live : s.live) (present : s.chain.towers[k].present = true) (enum : s.chain.enum = none)
    (few : s.chain.towers[k].missed < 2) : exec (.towerPollMissed k) s = .next (s.missedPoll k).syncIdle := by
  rw [exec_towerPollMissed live present enum, if_neg (by omega)]

/-- The third missed poll in a row loses the tower (R118). -/
theorem exec_towerPollMissed_loses (live : s.live) (present : s.chain.towers[k].present = true) (enum : s.chain.enum = none)
    (many : 2 ≤ s.chain.towers[k].missed) : exec (.towerPollMissed k) s = .next ((s.missedPoll k).loseTower k).syncIdle := by
  rw [exec_towerPollMissed live present enum, if_pos (by omega)]

/-- What the loss of the tower after its third missed poll leaves, before the idle timer (R118). -/
theorem State.missedPoll_loses (s : State) : ∃ u, u = (s.missedPoll k).loseTower k ∧
    u.chain.towers[k] = (s.chain.towers[k].missPoll s.now (sampleInterval s.run.op)).unqualify ∧
    (∀ j : Fin 4, j ≠ k → u.chain.towers[j] = s.chain.towers[j]) ∧ u.latched .towerLost ∧
    (∀ b : Fin 41, u.bins[b].fill = s.bins[b].fill ∧
      (towerOf b = some k → u.bins[b].present.state = none ∧ u.bins[b].full.state = none)) ∧
    (s.run.op ≠ .jam → s.listHolds k = true → u.jams .towerLost) ∧
    (s.listHolds k = false → u.run = s.run ∧ u.sets = s.sets ∧ u.delivery = s.delivery ∧ s.governed u ∧
      s.handed ⟨.towerLost, some (k.val + 1), some TowerState.absent.code, none, none⟩ (some k) u) := by
  obtain ⟨chain, latched, keeps, jams, free⟩ := (s.missedPoll k).loseTower_loses (k := k)
  have holds : (s.missedPoll k).listHolds k = s.listHolds k := State.listHolds_congr rfl rfl k
  obtain ⟨g, g_eq⟩ : ∃ g, g = (s.missedPoll k).towerGone k := ⟨_, rfl⟩
  have read : g.chain.towers[k] = (s.chain.towers[k].missPoll s.now (sampleInterval s.run.op)).unqualify := by
    rw [g_eq, State.towerGone_read, State.missedPoll_read]
  have others (j : Fin 4) (other : j ≠ k) : g.chain.towers[j] = s.chain.towers[j] := by
    rw [g_eq, State.towerGone_other _ other, State.missedPoll_other _ other]
  have bins (b : Fin 41) : g.bins[b] = if towerOf b = some k then s.bins[b].unqualify else s.bins[b] := by
    rw [g_eq, State.towerGone_bins]
    rfl
  have run : g.run = s.run := by
    rw [g_eq, State.towerGone_run]
    rfl
  have sets : g.sets = s.sets := by
    rw [g_eq, State.towerGone_sets]
    rfl
  have delivery : g.delivery = s.delivery := by
    rw [g_eq, State.towerGone_delivery]
    rfl
  rw [← g_eq] at chain keeps free
  rw [holds] at jams free
  refine ⟨_, rfl, ?_⟩
  generalize (s.missedPoll k).loseTower k = u at *
  refine ⟨by rw [chain, read], fun j other => by rw [chain, others j other], latched, fun b => ?_, jams, fun none_ => ?_⟩
  · obtain ⟨fill, full, sensor⟩ := keeps b
    rw [fill, full, sensor, bins b]
    refine ⟨by split <;> rfl, fun at_ => ?_⟩
    rw [if_pos at_]
    exact ⟨rfl, rfl⟩
  · obtain ⟨only, governed, handed⟩ := free none_
    exact ⟨((congrArg State.run only :)).trans run, ((congrArg State.sets only :)).trans sets,
      ((congrArg State.delivery only :)).trans delivery, governed.of_same rfl Iff.rfl, State.handed_of handed rfl rfl rfl rfl⟩

/-- A missed poll counts, and the third loses the tower (R118). -/
theorem exec_towerPollMissed_acts (live : s.live) (present : s.chain.towers[k].present = true) (enum : s.chain.enum = none) :
    ∃ t, exec (.towerPollMissed k) s = .next t ∧
      t.chain.towers[k].missed = min 3 (s.chain.towers[k].missed + 1) ∧ t.chain.towers[k].lastGood = false ∧
      (∀ j : Fin 4, j ≠ k → t.chain.towers[j] = s.chain.towers[j]) ∧
      (s.chain.towers[k].missed < 2 → t = { s with chain := t.chain, run := { s.run with idle := t.run.idle } } ∧
        t.chain.towers[k].present = true) ∧
      (2 ≤ s.chain.towers[k].missed → t.chain.towers[k].state = .absent ∧ t.latched .towerLost ∧
        (∀ b : Fin 41, t.bins[b].fill = s.bins[b].fill ∧ (towerOf b = some k → t.bins[b].present.state = none ∧
          t.bins[b].full.state = none)) ∧
        (s.run.op ≠ .jam → s.listHolds k = true → t.jams .towerLost) ∧
        (s.listHolds k = false → t.run.op = s.run.op ∧ t.sets = s.sets ∧ t.delivery = s.delivery ∧ s.governed t ∧
          s.handed ⟨.towerLost, some (k.val + 1), some TowerState.absent.code, none, none⟩ (some k) t)) := by
  by_cases few : s.chain.towers[k].missed < 2
  · have read : (s.missedPoll k).syncIdle.chain.towers[k] = _ := s.missedPoll_read
    refine ⟨_, exec_towerPollMissed_counts live present enum few, ?_, ?_, fun j other => s.missedPoll_other other,
      fun _ => ⟨rfl, ?_⟩, fun many => absurd few (by omega)⟩ <;> rw [read]
    · rfl
    · rfl
    · exact present
  · obtain ⟨u, same, read, others, latched, bins, jams, free⟩ := s.missedPoll_loses (k := k)
    have taken := exec_towerPollMissed_loses live present enum (by omega)
    rw [← same] at taken
    have readIdle : u.syncIdle.chain.towers[k] = _ := read
    refine ⟨_, taken, by rw [readIdle]; rfl, by rw [readIdle]; rfl, others, fun h => absurd h few, fun _ => ⟨by rw [readIdle]; rfl, latched, bins,
      fun op holds => u.syncIdle_passes.jams (jams op holds), fun none_ => ?_⟩⟩
    obtain ⟨run, sets, delivery, governed, handed⟩ := free none_
    exact ⟨(congrArg RunController.op run :), sets, delivery, governed.syncIdle, handed.syncIdle⟩

/-! ## The inputs -/

/-- A qualified change of an input, in the statement's words (R119, R120, R122). -/
theorem exec_towerInputChange_acts {i : TowerInput} {v : Bool} (live : s.live) (present : s.chain.towers[k].present = true)
    (enum : s.chain.enum = none) (differs : (s.chain.towers[k].input i).state ≠ some v) :
    let after := s.chain.towers[k].setInput i ⟨some v, some v, 0⟩
    let stops := v = false ∧ s.listHolds k = true
    ∃ t, exec (.towerInputChange k i v) s = .next t ∧ t.chain = { s.chain with towers := s.chain.towers.set k after } ∧
      (after.state ≠ s.chain.towers[k].state → t.latched (inputCause i v)) ∧
      (stops → s.run.op ≠ .jam → t.jams .towerDoor) ∧
      (¬ stops → s.governed t ∧ (s.wakesBy k → s.wokenFrom t) ∧ (¬ s.wakesBy k → t.run = { s.run with idle := t.run.idle }) ∧
        (after.state ≠ s.chain.towers[k].state → after.state ≠ .ready →
          s.handed ⟨inputCause i v, some (k.val + 1), some after.state.code, none, none⟩ (some k) t)) ∧
      ∀ b : Fin 41, t.bins[b].fill = s.bins[b].fill ∧ t.bins[b].full = s.bins[b].full ∧ t.bins[b].present = s.bins[b].present := by
  intro after stops
  obtain ⟨set, latches⟩ := s.inputQualified_passes (k := k) i v
  refine ⟨_, exec_towerInputChange live present enum differs, set.chain, fun other => ?_, ?_, fun whole => ?_, s.inputQualified_keepsBins i v⟩
  · refine latches.latched _ ?_
    have notified : s.inputSet k i v = (s.modTower k (Tower.setInput i (.qualified v))).towerNotice k (inputCause i v) := by
      refine if_pos ?_
      rw [State.modTower_read]
      exact other
    rw [notified]
    exact ((State.notify_handed _ _ _).1 _).mpr (.inl rfl)
  · rintro ⟨rfl, holds⟩ op
    exact (State.syncIdle_passes _).jams (State.inputQualified_jams holds op)
  · obtain ⟨wakes, stays⟩ := State.inputQualified_run (i := i) whole
    exact ⟨(State.inputQualified_governed whole).syncIdle, fun wake => State.syncIdle_woken (wakes wake).1 (wakes wake).2,
      fun stay => State.syncIdle_run (stays stay), fun other off => (State.inputQualified_handed whole other off).syncIdle⟩

end Sys2Proof.Machine

/-! Good replies to a poll, as commands, and the settling of O52 (R107, R109 to R112, R117 to R122, R135). -/

namespace Sys2Proof.Machine

variable {k : Fin 4} {s t u : State}

/-! ## A reply's parts in the statement's words -/

/-- A tower with its first input sampled, field by field (R118). -/
theorem Tower.firstSampled_eq (n : Nat) (reply : PollReply) (x : Tower) : x.firstSampled n reply =
    if reply.doorFirst then { x with door := (x.door.sample n reply.doorClosed).1 }
    else { x with power := (x.power.sample n reply.powerOn).1 } := by
  unfold Tower.firstSampled Tower.sampleOf PollReply.first
  cases reply.doorFirst <;> rfl

/-- The cause of the input a reply samples first (R119). -/
theorem PollReply.first_cause (reply : PollReply) : inputCause reply.first.1 reply.first.2 =
    if reply.doorFirst then inputCause .door reply.doorClosed else inputCause .power reply.powerOn := by
  unfold PollReply.first
  cases reply.doorFirst <;> rfl

/-- The cause of the input a reply samples second (R119). -/
theorem PollReply.second_cause (reply : PollReply) : inputCause reply.second.1 reply.second.2 =
    if reply.doorFirst then inputCause .power reply.powerOn else inputCause .door reply.doorClosed := by
  unfold PollReply.second
  cases reply.doorFirst <;> rfl

/-! ## The reply -/

/-- The reply of a tower that is polled (R118). -/
theorem exec_towerPollReply (live : s.live) (present : s.chain.towers[k].present = true) (enum : s.chain.enum = none) (reply : PollReply) :
    exec (.towerPollReply k reply) s = .next (s.goodReply k reply).syncIdle := by
  show execTowerPollReply k reply s = _
  rw [execTowerPollReply, State.does_live live]
  exact congrArg (fun t : State => Host.Outcome.next t.syncIdle) (if_pos (State.polled_of present enum))

/-- What a reply's samples leave, once the idle timer has followed (R109 to R112, R118, R122). -/
theorem State.Sampled.told {c : Prop} (h : s.Sampled k c u) :
    u.syncIdle = { s with report := u.report, chain := u.chain, routes := u.routes, bins := u.bins, run := u.syncIdle.run } ∧
    (s.wakesBy k → c → s.wokenFrom u.syncIdle) ∧ (¬ (s.wakesBy k ∧ c) → u.syncIdle.run = { s.run with idle := u.syncIdle.run.idle }) := by
  refine ⟨?_, fun wakes change => ?_, fun stays => State.syncIdle_run (h.sleeps stays)⟩
  · show { u with run := u.syncIdle.run } = _
    generalize u.syncIdle.run = run
    have frame := h.frame
    generalize u.report = p, u.chain = q, u.routes = r, u.bins = b, u.run = o at *
    rw [frame]
  · obtain ⟨run, stands⟩ := h.wakes wakes change
    exact State.syncIdle_woken run stands

/-- A reply without an arrival, with no set held and none cut off (R109 to R112, R118, R122). -/
theorem State.goodReply_samples {reply : PollReply} (arrivals : reply.arrivals = 0) (none_ : s.noneHeld)
    (whole : ∀ i v, (i, v) = reply.first ∨ (i, v) = reply.second → ¬ s.cutBy k i v) :
    let t := (s.goodReply k reply).syncIdle
    t = { s with report := t.report, chain := t.chain, routes := t.routes, bins := t.bins, run := t.run } ∧
    (∀ i : Fin 10, t.bins[binAt k i] = s.polledBin k reply i) ∧ (∀ b : Fin 41, towerOf b ≠ some k → t.bins[b] = s.bins[b]) ∧
    (s.wakesBy k → s.pollChanges k reply → s.wokenFrom t) ∧
    (¬ (s.wakesBy k ∧ s.pollChanges k reply) → t.run = { s.run with idle := t.run.idle }) ∧
    (¬ s.pollChanges k reply → t.report = s.report ∧ t.routes = s.routes) ∧
    ∀ i : Fin 10, (s.polledBin k reply i).present.state = some false → s.bins[binAt k i].present.state = some true →
      t.latched .binEmptied ∧ t.report.notice.towerFlags[k] = true := by
  intro t
  obtain ⟨sampled, inside, outside⟩ := State.goodReply_sampled arrivals none_ whole
  obtain ⟨frame, wakes, stays⟩ := sampled.told
  refine ⟨frame, inside, fun b away => outside b fun i e => away (by rw [e]; exact towerOf_binAt k i), wakes, stays, sampled.quiet,
    fun i clear covered => ?_⟩
  rw [← inside i] at clear
  exact sampled.emptied (binAt k i) (towerOf_binAt k i) covered clear

/-- A reply with the arrival of the set that travels there, its samples changing nothing (R107, R118, R135). -/
theorem State.goodReply_arrival {reply : PollReply} (arrivals : reply.arrivals = 1) (still : ¬ s.pollChanges k reply)
    (working : s.working = true) {e : ListEntry} {x : SetRec} {b : Fin 41} (expects : s.delivery.expecting (.te k) = some e)
    (used : s.getRec e.set = some x) (chosen : x.chosen = some b) :
    let t := (s.goodReply k reply).syncIdle
    t.getRec e.set = none ∧ t.run.op = s.run.op ∧
    t.delivery = { s.delivery with
      list := s.delivery.list.filter fun y => y.set ≠ e.set, jogger := if x.side = .none then none else some (b, x.side) } ∧
    t.bins[b].fill = min 9999 (s.bins[b].fill + x.height.getD 0) ∧
    t.bins[b].reserved = s.bins[b].reserved - x.height.getD 0 ∧ t.bins[b].count = min 65535 (s.bins[b].count + 1) ∧
    s.governed t ∧
    s.dispositionJoins (.setDisp ⟨x.outcome, some b, x.slot, x.jobNumber, x.setOrdinal, x.part, x.compiled, x.height.getD 0,
      x.result, x.skip, x.side, x.broken, x.divert, s.binState b = .full⟩) t := by
  obtain ⟨w, v, before, confirms, after⟩ := State.goodReply_confirms arrivals still working expects used chosen
  generalize s.goodReply k reply = u at *
  have report : u.report = v.report := by rw [after.frame]
  have sets : u.sets = v.sets := by rw [after.frame]
  have delivery : u.delivery = v.delivery := by rw [after.frame]
  have run : u.run = w.run := by rw [after.frame, confirms.frame]
  have bin : u.bins[b] = { (w.bins[b].filled (x.height.getD 0)) with present := u.bins[b].present, full := u.bins[b].full } := by
    rw [← confirms.bin]
    exact (after.bins b).1
  have was := (before.bins b).1
  have governed : s.governed u := by
    have same : w.report.gov = s.report.gov ∧ (w.stands .governor ↔ s.stands .governor) := by
      unfold State.stands
      rw [before.frame]
      exact ⟨rfl, Iff.rfl⟩
    refine (confirms.governed.of_same same.1 same.2).then (by rw [report]) (by rw [after.frame]) after.combines ?_
    unfold State.stands
    rw [report]
  have joins : s.dispositionJoins (.setDisp (x.disp x.outcome (some b) x.compiled (s.binState b = .full))) u := by
    have joins := confirms.joins
    rw [before.binState b] at joins
    unfold State.dispositionJoins State.latched at joins ⊢
    have same : w.report = s.report := by rw [before.frame]
    rw [same] at joins
    rw [report]
    exact joins
  refine ⟨?_, ?_, ?_, ?_, ?_, ?_, governed.syncIdle, joins⟩
  · show u.sets.recs[e.set] = none
    rw [sets, confirms.sets]
    exact (SetTable.without_recs _ _ _).trans (if_pos rfl)
  · show u.run.op = s.run.op
    rw [run, before.frame]
  · show u.delivery = _
    rw [delivery, confirms.frame, before.frame]
    rfl
  · show u.bins[b].fill = _
    rw [bin, was]
    rfl
  · show u.bins[b].reserved = _
    rw [bin, was]
    rfl
  · show u.bins[b].count = _
    rw [bin, was]
    rfl

/-- Settles O52: polls and inputs of a present tower. A reply's samples are followed by `State.Sampled`, an arrival among samples that
change nothing by `State.Sees`; a missed poll and a changed input by their own lemmas. -/
theorem towerPollsAndInputsAct : Obligations.TowerPollsAndInputsAct := by
  unfold Obligations.TowerPollsAndInputsAct
  intro s k live present tower wakes woken
  refine ⟨exec_towers_of_enumerating live, fun enum => ⟨fun reply => ?_, exec_towerPollMissed_acts live present enum,
    fun i v differs => exec_towerInputChange_acts live present enum differs⟩⟩
  intro sampled power door between ofPower ofDoor presentSampled fullSampled binSampled binChanges changes cut
  have sampled_eq (q : Qual) (v : Bool) : sampled q v = (q.sample s.qualCount v).1 := (Qual.sample_fst s.qualCount v q).symm
  have present_eq : presentSampled = fun v x => x.presentSampled s.qualCount v := by
    funext v x
    rw [Bin.presentSampled_eq, ← sampled_eq]
  have full_eq : fullSampled = fun v x => x.fullSampled s.qualCount v := by
    funext v x
    rw [Bin.fullSampled_eq, ← sampled_eq]
  have bins_eq : binSampled = s.polledBin k reply := by
    funext i
    unfold State.polledBin Bin.sampledBy
    rw [show binSampled i = if tower.state = .unpowered then _ else _ from rfl, present_eq, full_eq]
  have tower_eq : { tower with power := power, door := door } = tower.sampledBy s.qualCount reply := by
    unfold Tower.sampledBy
    rw [← sampled_eq, ← sampled_eq]
  have between_eq : between = tower.firstSampled s.qualCount reply := by
    rw [Tower.firstSampled_eq, ← sampled_eq, ← sampled_eq]
  have changes_iff : changes ↔ s.pollChanges k reply := by
    show _ ↔ (tower.sampledBy s.qualCount reply).power.state ≠ tower.power.state ∨
      (tower.sampledBy s.qualCount reply).door.state ≠ tower.door.state ∨ ∃ i, s.binPolls k reply i
    unfold State.binPolls
    rw [← tower_eq, ← bins_eq]
  have cut_iff : cut ∧ s.listHolds k = true ↔ ∃ i v, ((i, v) = reply.first ∨ (i, v) = reply.second) ∧ s.cutBy k i v := by
    refine Iff.trans ?_ (State.cut_iff (k := k) reply s)
    show _ ↔ (((tower.sampledBy s.qualCount reply).power.state = some false ∧ tower.power.state ≠ some false) ∨
      ((tower.sampledBy s.qualCount reply).door.state = some false ∧ tower.door.state ≠ some false)) ∧ s.listHolds k = true
    rw [← tower_eq]
  obtain ⟨first, second⟩ := s.goodReply_latched k reply
  rw [PollReply.first_cause] at first
  rw [PollReply.second_cause] at second
  have chain : (s.goodReply k reply).chain = _ := (s.goodReply_passes k reply).chain
  refine ⟨_, exec_towerPollReply live present enum reply, ?_, ?_, ?_, fun arrivals none_ => ⟨fun holds off op => ?_, fun whole => ?_⟩,
    fun still arrivals working => ⟨fun none_ => ?_, fun e x b expects used chosen => ?_⟩⟩
  · refine chain.trans ?_
    show ({ s.chain with towers := s.chain.towers.set k (tower.replied s.qualCount reply) } : TowerChain) = _
    unfold Tower.replied
    rw [← tower_eq]
  · rw [between_eq]
    exact first
  · rw [between_eq, tower_eq]
    exact second
  · obtain ⟨i, v, among, cuts⟩ := cut_iff.mp ⟨off, holds⟩
    exact (State.syncIdle_passes _).jams (State.goodReply_jams arrivals none_ op among cuts)
  · rw [bins_eq, changes_iff]
    refine State.goodReply_samples arrivals none_ fun i v among cuts => ?_
    obtain ⟨off, holds⟩ := cut_iff.mpr ⟨i, v, among, cuts⟩
    obtain free | uncut := whole
    · rw [free] at holds
      cases holds
    · exact uncut off
  · exact (State.syncIdle_passes _).jams (State.goodReply_unexpected arrivals (fun h => still (changes_iff.mpr h)) working none_)
  · exact State.goodReply_arrival arrivals (fun h => still (changes_iff.mpr h)) working expects used chosen

end Sys2Proof.Machine
